-- ==== Sys2Proof/Word.lean ====
section
/-! DEFINITION. Word types of the FW432 and their plainest arithmetic: bytes, 16-bit fields, 32-bit counts
(positions, device times, sequences, line sets). 00_scope.md sections 3.1 and 3.2. -/

namespace Sys2Proof

/-- One byte of a frame. -/
abbrev Byte := BitVec 8

/-- A 16-bit field: widths, tags, epochs, 16-bit counts. -/
abbrev Word16 := BitVec 16

/-- A 32-bit count that wraps: positions, device time, sequences, commit numbers. -/
abbrev Word32 := BitVec 32

/-- A set of output lines, bit n for line n, as R178 lays it out. -/
abbrev LineSet := BitVec 32

/-- A set of sensors, bit n for sensor Sn (10.6.6, SUBSCRIBE). -/
abbrev SensorSet := BitVec 8

/-- Increment that saturates at the largest value of the width (section 3.1). -/
def satInc {n : Nat} (x : BitVec n) : BitVec n :=
  if x = BitVec.allOnes n then x else x + 1

/-- Increment of a count that saturates at `top` (section 3.1). -/
def satIncAt (top n : Nat) : Nat := min (n + 1) top

end Sys2Proof
end

