-- ==== Sys2Proof/Syntax.lean ====
section
/-! DEFINITION. The commands of the FW432: one constructor for each row of spec/opcode_table.json, with the
operands the model gives the row (the table gives none). A command names the event that is taken next. -/

namespace Sys2Proof

/-- The four master ports; port A is the supervisor port (section 10). -/
inductive Port where
  | A | B | C | D
  deriving DecidableEq, Repr

/-- An output line number 0-31. -/
abbrev LineNo := Fin 32

/-- A sensor number 0-7. -/
abbrev SensorNo := Fin 8

/-- A template number 0-31. -/
abbrev TemplateNo := Fin 32

/-- A block that keeps its own P and takes steps and presets as events (R11, R20). -/
inductive MotionBlock where
  /-- the Timetable -/
  | timetable
  /-- the Staging Buffers of one port -/
  | slots (p : Port)
  deriving DecidableEq, Repr

/-- A block to which the Mode Controller hands mode changes (R141). -/
inductive ChangeBlock where
  /-- the Timetable -/
  | timetable
  /-- the Staging Buffers of one port -/
  | slots (p : Port)
  /-- the Template Table -/
  | templates
  /-- the Capture Log -/
  | log
  /-- the Line Block -/
  | lines
  deriving DecidableEq, Repr

/-- The kinds of record that carry a check code (R152). -/
inductive RecordKind where
  | entry | template | line
  deriving DecidableEq, Repr

/-- The commands. Each constructor's comment gives its row and its rule. -/
inductive Instr where
  /-- POWER_ON_RESET, R140 -/
  | powerOnReset
  /-- RESETN_ASSERT, R140 -/
  | resetnAssert
  /-- RESET_END, R140 -/
  | resetEnd
  /-- INIT_END, R142 -/
  | initEnd
  /-- SAFEIN_ASSERT, R145 -/
  | safeinAssert
  /-- SAFEIN_DEASSERT, R145 -/
  | safeinDeassert
  /-- SAFE_REQUEST_OVERRUN, R14 -/
  | safeRequestOverrun
  /-- MOTION_INPUT_CHANGE, R5: the levels of MOTA and MOTB after the change -/
  | motionInputChange (a b : Bool)
  /-- STEP_INPUT_RISE, R7: MOTA rises; the level of MOTB at that edge -/
  | stepInputRise (b : Bool)
  /-- INTERNAL_RATE_EXPIRY, R8 -/
  | internalRateExpiry
  /-- STALL_TIMER_EXPIRY, R13 -/
  | stallTimerExpiry
  /-- SPEED_WINDOW_EXPIRY, R16 -/
  | speedWindowExpiry
  /-- STEP_AT_TIMETABLE, R56 -/
  | stepAtTimetable
  /-- STEP_AT_SLOTS, R82: the port whose slots take the step -/
  | stepAtSlots (p : Port)
  /-- PRESET_AT_BLOCK, R20: the block that takes the preset -/
  | presetAtBlock (m : MotionBlock)
  /-- SENSOR_RAW_CHANGE, R106: the sensor and its raw level after the change -/
  | sensorRawChange (k : SensorNo) (level : Bool)
  /-- SENSOR_FILTER_EXPIRY, R106 -/
  | sensorFilterExpiry (k : SensorNo)
  /-- CAPTURE_ENTRY, R110: which of the accepted edges on their way to the log is entered -/
  | captureEntry (i : Nat)
  /-- CAPTURE_HAND_OFF, R129 -/
  | captureHandOff
  /-- HISTORY_PERIOD_BOUNDARY, R30 -/
  | historyPeriodBoundary
  /-- CORRUPTION_DECAY, R155 -/
  | corruptionDecay
  /-- SETTLE_EXPIRY, R37: the line and the level of its readback input -/
  | settleExpiry (l : LineNo) (readback : Bool)
  /-- PULSE_END, R94 -/
  | pulseEnd (l : LineNo)
  /-- REST_END, R94 -/
  | restEnd (l : LineNo)
  /-- REST_GUARD_END, R97 -/
  | restGuardEnd (l : LineNo)
  /-- SCRUB_VISIT, R152 -/
  | scrubVisit
  /-- CORRUPTION_FINDING, R154: the kind of record whose oldest finding is taken -/
  | corruptionFinding (k : RecordKind)
  /-- TIMETABLE_EMPTYING, R67 -/
  | timetableEmptying
  /-- SLOTS_EMPTYING, R87: the port whose slots take the mode change -/
  | slotsEmptying (p : Port)
  /-- TEMPLATES_SUSPENSION, R138 -/
  | templatesSuspension
  /-- ENGINES_OFF, R97 -/
  | enginesOff
  /-- WRITE_MOTION_SOURCE, R4 -/
  | writeMotionSource
  /-- WRITE_INTERNAL_RATE, R8 -/
  | writeInternalRate
  /-- WRITE_STALL_TIME, R13 -/
  | writeStallTime
  /-- WRITE_SPEED_WINDOW, R16 -/
  | writeSpeedWindow
  /-- WRITE_COMMIT_LEAD, R83: the port at whose slots the write is taken -/
  | writeCommitLead (p : Port)
  /-- WRITE_HISTORY_PERIOD, R33 -/
  | writeHistoryPeriod
  /-- WRITE_REST, R96: the line whose REST is written -/
  | writeRest (l : LineNo)
  /-- WRITE_READBACK, R38: the line whose READBACK is written -/
  | writeReadback (l : LineNo)
  /-- WRITE_SENSOR_FILTER, R109: the sensor whose filter is written -/
  | writeSensorFilter (k : SensorNo)
  /-- NOTICE_TAKEN, R159: the port, and which of the notices on their way to it is taken -/
  | noticeTaken (p : Port) (i : Nat)
  /-- SELECT_FALL, R168 -/
  | selectFall (p : Port)
  /-- REQUEST_FRAME, R170: the bytes the master clocks in -/
  | requestFrame (p : Port) (bytes : List Byte)
  /-- REPLY_READY, R171 -/
  | replyReady (p : Port)
  /-- REPLY_SENT, R172: how many reply bytes the master clocks out -/
  | replySent (p : Port) (n : Nat)
  /-- SELECT_RELEASE, R173 -/
  | selectRelease (p : Port)
  /-- READ_POSITION, R19 -/
  | readPosition (p : Port)
  /-- PRESET_POSITION, R20 (port A) -/
  | presetPosition
  /-- LEASE_LINES, R24 -/
  | leaseLines (p : Port)
  /-- RELEASE_LINES, R28 -/
  | releaseLines (p : Port)
  /-- REVOKE_LINES, R29 (port A) -/
  | revokeLines
  /-- FORCE_LINES, R34 (port A) -/
  | forceLines
  /-- UNFORCE_LINES, R35 (port A) -/
  | unforceLines
  /-- READ_LINES, R41 -/
  | readLines (p : Port)
  /-- CLEAR_LINE_FAULT, R40 (port A) -/
  | clearLineFault
  /-- POST, R74 -/
  | post (p : Port)
  /-- COMMIT, R81 -/
  | commit (p : Port)
  /-- DISCARD_STAGED, R85 -/
  | discardStaged (p : Port)
  /-- CANCEL_ENTRIES, R61 -/
  | cancelEntries (p : Port)
  /-- AMEND_ENTRY, R63 -/
  | amendEntry (p : Port)
  /-- QUERY_ENTRY, R65 -/
  | queryEntry (p : Port)
  /-- READ_TABLE_STATUS, R66 -/
  | readTableStatus (p : Port)
  /-- SUBSCRIBE, R115 -/
  | subscribe (p : Port)
  /-- READ_CAPTURES, R117 -/
  | readCaptures (p : Port)
  /-- DEFINE_TEMPLATE, R124 -/
  | defineTemplate (p : Port)
  /-- DELETE_TEMPLATE, R125 -/
  | deleteTemplate (p : Port)
  /-- SET_TEMPLATE_STATE, R126 -/
  | setTemplateState (p : Port)
  /-- VERDICT, R135 -/
  | verdict (p : Port)
  /-- QUERY_TEMPLATE, R127 -/
  | queryTemplate (p : Port)
  /-- SET_PARAM, R149 (port A) -/
  | setParam
  /-- GET_PARAM, R151 -/
  | getParam (p : Port)
  /-- START, R143 (port A) -/
  | start
  /-- STOP, R144 (port A) -/
  | stop
  /-- RESUME, R147 (port A) -/
  | resume
  /-- READ_HEALTH, R156 -/
  | readHealth (p : Port)
  /-- RESET_DEVICE, R157 (port A) -/
  | resetDevice
  /-- READ_NOTICES, R162 -/
  | readNotices (p : Port)
  /-- SET_NOTICE_MASK, R164 -/
  | setNoticeMask (p : Port)
  /-- PORT_STATUS, R175 -/
  | portStatus (p : Port)
  /-- RESET_PORT, R176 -/
  | resetPort (p : Port)
  /-- MODE_CHANGE_TAKEN_AT_BLOCK, R141: the block that takes the change -/
  | modeChangeTakenAtBlock (b : ChangeBlock)
  /-- REPLY_MARKER_SENT, R172 -/
  | replyMarkerSent (p : Port)
  deriving DecidableEq, Repr

end Sys2Proof
end

