-- ==== Sys2Proof/Decode.lean ====
section
/-! DEFINITION. Commands from words. No row of spec/opcode_table.json gives bits (98_reader.md: n_rows_with_fixed 0), so
no word spells a command. -/

namespace Sys2Proof

/-- The command a word of the table spells: none, since the table gives no row any bits. -/
def decodeTableWord (_nbits _w : Nat) : Option Instr := none

end Sys2Proof
end

