-- ==== Sys2Proof/Config.lean ====
section
/-! DEFINITION. What every FW432 has fixed (numbers of the spec), and the free values: constants without a body
for what the spec leaves open. -/

namespace Sys2Proof.Config

/-- HORIZON, the largest due distance accepted (section 1.5, R17). -/
def horizon : Nat := 2 ^ 24

/-- The band of due distances judged behind begins here: 2^32 - 2^24 (R17). -/
def behindFrom : Nat := 2 ^ 32 - 2 ^ 24

/-- Live entries the Timetable holds at most (R51). -/
def tableCapacity : Nat := 256

/-- Records the Capture Log holds at most (section 6.3). -/
def logCapacity : Nat := 64

/-- The lag at which a cursor moves with N (R111). -/
def cursorLagBound : Nat := 2 ^ 31

/-- Ceiling of the corruption count (section 8.1). -/
def corruptionCeiling : Nat := 15

/-- Ceiling of a line's mismatch count (section 2.1). -/
def mismatchCeiling : Nat := 15

/-- Ceiling of a share's age (section 2.1). -/
def ageCeiling : Nat := 8

/-- Ceiling of a pending count (R159). -/
def pendingCeiling : Nat := 255

/-- Microseconds between scrubber visits (R152). -/
def visitInterval : Nat := 32

/-- Records in one scrubber round (R152). -/
def scrubRecords : Nat := 320

/-- INIT lasts at most this many microseconds (R142). -/
def initBound : Nat := 2000

/-- A reply is ready within this many microseconds of the last request byte (R171). -/
def replyBound : Nat := 40

/-- Microseconds in a millisecond (R3). -/
def usPerMs : Nat := 1000

/-- Smallest and largest request frame (R169). -/
def minRequestBytes : Nat := 5

/-- Largest frame (R169). -/
def maxRequestBytes : Nat := 128

/-- Largest template offset (section 7.1). -/
def maxOffset : Nat := 1048576

/-- The default notice mask, every kind but COMMIT_DONE and FIRED (10.6.5). -/
def defaultMask : Word16 := 0x3FFE#16

/-- FREE VALUE (log 9): the level of a readback input at a settle expiry that the part's own clock takes; the spec
does not say what the wire shows. Applied to the free-value counter of the state. -/
opaque readbackLevel : Nat → Bool

/-- FREE VALUE (log 5): whether a check code computed over `stored` agrees with a record that now holds `now`, where
the two differ. The spec gives no code and no width, so it does not say which disturbances the code misses. -/
opaque codeMisses {α : Type} (stored now : α) : Bool

end Sys2Proof.Config
end

