-- ==== Sys2Proof/Machine/Records.lean ====
section
/-! DEFINITION. The records of the nine blocks: enumerations, the record types of each chapter, and the value each
takes at a device reset. -/

set_option autoImplicit false

namespace Sys2Proof

/-- The ports in the order A, B, C, D. -/
def Port.all : List Port := [.A, .B, .C, .D]

/-- The code of a port: A 0, B 1, C 2, D 3 (R178). -/
def Port.code : Port → Nat
  | .A => 0
  | .B => 1
  | .C => 2
  | .D => 3

/-- The port with a given code (R178). -/
def Port.ofCode : Nat → Option Port
  | 0 => some .A
  | 1 => some .B
  | 2 => some .C
  | 3 => some .D
  | _ => none

end Sys2Proof

namespace Sys2Proof.Machine

open Sys2Proof

/-! ## Collections indexed by port -/

/-- One item for each of the four ports. -/
structure PerPort (α : Type) where
  a : α
  b : α
  c : α
  d : α
  deriving DecidableEq, Repr

/-- The item of port `p`. -/
def PerPort.get {α : Type} (t : PerPort α) : Port → α
  | .A => t.a
  | .B => t.b
  | .C => t.c
  | .D => t.d

/-- Replace the item of port `p`. -/
def PerPort.set {α : Type} (t : PerPort α) (p : Port) (x : α) : PerPort α :=
  match p with
  | .A => { t with a := x }
  | .B => { t with b := x }
  | .C => { t with c := x }
  | .D => { t with d := x }

/-- The same item for every port. -/
def PerPort.const {α : Type} (x : α) : PerPort α := ⟨x, x, x, x⟩

/-- The item of each port from the items of two tables. -/
def PerPort.map {α β : Type} (f : α → β) (t : PerPort α) : PerPort β := ⟨f t.a, f t.b, f t.c, f t.d⟩

/-- A set of ports. -/
abbrev PortSet := PerPort Bool

/-- No port. -/
def PortSet.empty : PortSet := PerPort.const false

/-! ## Enumerations -/

/-- The device mode (chapter 8). -/
inductive Mode where
  | init | config | run | safe
  deriving DecidableEq, Repr

/-- The kind of a device reset (R142). -/
inductive ResetKind where
  | power | pin | soft
  deriving DecidableEq, Repr

/-- The SAFE causes (section 8.3). -/
inductive SafeCause where
  | safeIn | overrun | corruptLimit | recordCorrupt
  deriving DecidableEq, Repr

/-- A set of SAFE causes (section 8.1). -/
structure CauseSet where
  safeIn : Bool
  overrun : Bool
  corruptLimit : Bool
  recordCorrupt : Bool
  deriving DecidableEq, Repr

/-- The motion sources (section 1.3). -/
inductive MotionSource where
  | quad | stepDir | internal
  deriving DecidableEq, Repr

/-- The motion states (R12). -/
inductive MotionState where
  | stalled | forward | reverse | overrun
  deriving DecidableEq, Repr

/-- What an entry does to each of its lines, with the pulse width where there is one (R44). -/
inductive LineAction where
  | on
  | off
  | pulse (width : Word16)
  deriving DecidableEq, Repr

/-- The outcome of a HELD entry at its decision position (section 3.1). -/
inductive Default where
  | fire | drop
  deriving DecidableEq, Repr

/-- The direction of a filtered edge (R106). -/
inductive Edge where
  | rising | falling
  deriving DecidableEq, Repr

/-- The edges a sensor selects (R107). -/
inductive EdgeSelect where
  | none | rising | falling | both
  deriving DecidableEq, Repr

/-- The conflict policy of a line (section 3.5). -/
inductive Policy where
  | merge | refuseLater | priority
  deriving DecidableEq, Repr

/-- The history periods (section 2.1). -/
inductive HistoryPeriod where
  | ms100 | ms400 | ms1600 | ms6400 | ms25600
  deriving DecidableEq, Repr

/-- The outcome of one action on one line (R89). -/
inductive LineOutcome where
  | applied | delayed | suppressed
  deriving DecidableEq, Repr

/-- The reason of a commit (10.6.2). -/
inductive CommitReason where
  | request | now | full | lead
  deriving DecidableEq, Repr

/-- The status codes (section 10.4). -/
inductive Status where
  | ok | frameError | unknownRequest | notPermitted | wrongMode | badField | notLeased | heldByOther
  | lineFailed | tooLate | outOfRange | tableFull | quotaExceeded | conflict | noSuchEntry | notArmed
  | late | notHeld | noSuchTemplate | safeHold
  deriving DecidableEq, Repr

/-- The requests of the catalogue (section 10.4). -/
inductive ReqKind where
  | readPosition | presetPosition | leaseLines | releaseLines | revokeLines | forceLines | unforceLines
  | readLines | clearLineFault | post | commit | discardStaged | cancelEntries | amendEntry | queryEntry
  | readTableStatus | subscribe | readCaptures | defineTemplate | deleteTemplate | setTemplateState
  | verdict | queryTemplate | setParam | getParam | start | stop | resume | readHealth | resetDevice
  | readNotices | setNoticeMask | portStatus | resetPort
  deriving DecidableEq, Repr

/-- The notice kinds (section 9.1). -/
inductive NoticeKind where
  | modeChanged | entryAbandoned | entryCorrupt | lineFailed | motion | leaseRevoked | leaseLapsed
  | displaced | captureLost | instanceFailed | commitFailed | fireSuppressed | defaultApplied
  | commitDone | fired
  deriving DecidableEq, Repr

/-- The blocks that post notices. -/
inductive NoticeSource where
  | positionUnit | lineBlock | timetable | slots | captureLog | templateTable | modeController
  deriving DecidableEq, Repr

/-! ## Line Block (chapters 2 and 5) -/

/-- How a line is held (section 2.1). -/
inductive LeaseMode where
  | free | exclusive | shared
  deriving DecidableEq, Repr

/-- The supervisor's override of a line (section 2.4). -/
inductive Force where
  | none | forcedOn | forcedOff
  deriving DecidableEq, Repr

/-- The fault state of a line (section 2.5). -/
inductive FaultState where
  | ok | failed
  deriving DecidableEq, Repr

/-- One holder's place in a line's lease (section 2.1). -/
structure Share where
  port : Port
  lapse : Bool
  /-- history boundaries since the share was granted, 0 to 8 -/
  age : Nat
  deriving DecidableEq, Repr

/-- A pending settle check: its start time and its duration in microseconds (R36). -/
structure SettleCheck where
  start : Word32
  duration : Nat
  deriving DecidableEq, Repr

/-- What an engine does when its rest ends (section 5.1). -/
inductive PendingStart where
  | none
  | latch
  | pulse (width : Word16)
  deriving DecidableEq, Repr

/-- A rest guard: the fall of level that started it and its end (R96, R97). -/
structure Guard where
  fall : Word32
  endAt : Word32
  deriving DecidableEq, Repr

/-- A pulse engine (section 5.1). The latch flag, the ends and the pending start are present exactly where the
state has them. RESTING keeps the time of its fall, which a later guard is re-timed from (R96). -/
inductive Engine where
  | off (guard : Option Guard)
  | onLatched
  | onPulse (endAt : Word32) (latch : Bool)
  | resting (fall : Word32) (restEnd : Word32) (pend : PendingStart)
  deriving DecidableEq, Repr

/-- The fields a line record's check code covers: lease mode, port and lapse flag of each share in list order,
force and fault state (section 2.1). The stored code is held as the fields it was last computed over (log 5). -/
structure LineCode where
  leaseMode : LeaseMode
  holders : List (Port × Bool)
  force : Force
  fault : FaultState
  deriving DecidableEq, Repr

/-- One line record with its pulse engine and the REST and READBACK in force at the Line Block. -/
structure LineRec where
  leaseMode : LeaseMode
  shares : List Share
  force : Force
  fault : FaultState
  mismatch : Nat
  /-- activity flags, bit 0 the newest -/
  history : BitVec 8
  fireCount : Word32
  settle : Option SettleCheck
  code : LineCode
  engine : Engine
  rest : Nat
  readback : Bool
  deriving DecidableEq, Repr

/-- A line record as a device reset leaves it (R22, R88), with the REST and READBACK that the reset leaves. -/
def LineRec.initial (rest : Nat) (readback : Bool) : LineRec where
  leaseMode := .free
  shares := []
  force := .none
  fault := .ok
  mismatch := 0
  history := 0
  fireCount := 0
  settle := Option.none
  code := { leaseMode := .free, holders := [], force := .none, fault := .ok }
  engine := .off Option.none
  rest := rest
  readback := readback

/-- The Line Block beside its records: the mode it has taken, the history period timer's start and the period in
force. -/
structure LineBlock where
  mode : Mode
  historyStart : Word32
  historyPeriod : HistoryPeriod
  deriving DecidableEq, Repr

/-! ## Timetable (chapter 3) -/

/-- The identity of a live entry (section 3.2). -/
structure Handle where
  index : Fin 256
  generation : BitVec 8
  deriving DecidableEq, Repr

/-- How an entry came: POSTED with its tag if it has one, or TEMPLATE with number and capture sequence (R44). -/
inductive Origin where
  | posted (tag : Option Word16)
  | template (num : TemplateNo) (seq : Word32)
  deriving DecidableEq, Repr

/-- ARMED, or HELD with its decision position and default (R44). -/
inductive Stage where
  | armed
  | held (decision : Word32) (dflt : Default)
  deriving DecidableEq, Repr

/-- Every field of an entry but its check code (section 3.1). -/
structure EntryFields where
  handle : Handle
  owner : Port
  origin : Origin
  lines : LineSet
  action : LineAction
  due : Word32
  report : Bool
  stage : Stage
  commitNo : Word32
  deriving DecidableEq, Repr

/-- A live entry: the index it stands at, its fields, and its check code as the fields it was last computed over. -/
structure Entry where
  index : Fin 256
  fields : EntryFields
  code : EntryFields
  deriving DecidableEq, Repr

/-- The parameters that the Timetable judges admissions and amendments by (section 3.1). -/
structure TableLimits where
  guard : Vector Nat 32
  policy : Vector Policy 32
  quota : PerPort Nat
  portPriority : Vector (Option Port) 4
  deriving DecidableEq, Repr

/-- The Timetable. `live` holds the entries in the order of their admission; `limits` are the GUARD, POLICY, QUOTA and
PORT_PRIORITY in force there (log 41). -/
structure Timetable where
  live : List Entry
  generations : Vector (BitVec 8) 256
  commitCounter : Word32
  liveCount : PerPort Nat
  pos : Word32
  mode : Mode
  limits : TableLimits
  /-- the last step taken here asked for SAFE (R49, log 10) -/
  askedSafe : Bool
  deriving DecidableEq, Repr

/-- The Timetable as a device reset leaves it (R69), with the limits that the reset leaves. -/
def Timetable.initial (limits : TableLimits) : Timetable where
  live := []
  generations := Vector.replicate 256 0
  commitCounter := 0
  liveCount := PerPort.const 0
  pos := 0
  mode := .init
  limits := limits
  askedSafe := false

/-! ## Staging Buffers (chapter 4) -/

/-- The content of an occupied gather slot (section 4.1). -/
structure SlotContent where
  lines : LineSet
  action : LineAction
  due : Word32
  tag : Option Word16
  report : Bool
  noMerge : Bool
  deriving DecidableEq, Repr

/-- The Staging Buffers of one port. -/
structure Slots where
  slot : Vector (Option SlotContent) 4
  age : List (Fin 4)
  pos : Word32
  mode : Mode
  lead : Nat
  deriving DecidableEq, Repr

/-- A port's slots as a device reset leaves them (R73), with the COMMIT_LEAD the reset leaves. -/
def Slots.initial (lead : Nat) : Slots where
  slot := Vector.replicate 4 none
  age := []
  pos := 0
  mode := .init
  lead := lead

/-- The outcome of one slot commit (R78). -/
structure CommitOutcome where
  reason : CommitReason
  slot : Fin 4
  tag : Option Word16
  result : Except Status Handle

/-! ## Sensors and the Capture Log (chapter 6) -/

/-- A position reading: P, epoch and frame number at one moment (section 6.1). -/
structure Reading where
  pos : Word32
  epoch : Word16
  frame : BitVec 8
  deriving DecidableEq, Repr

/-- A pending change of a raw input (R106). -/
structure PendingChange where
  start : Word32
  reading : Reading
  deriving DecidableEq, Repr

/-- One sensor input with the SENSOR_FILTER in force. `raw` is the level of the pin. -/
structure Sensor where
  raw : Bool
  filtered : Bool
  pend : Option PendingChange
  last : Option (Word32 × BitVec 8)
  rejected : Word16
  filter : Nat
  deriving DecidableEq, Repr

/-- A sensor as a device reset leaves it (R105). -/
def Sensor.initial (raw : Bool) (filter : Nat) : Sensor where
  raw := raw
  filtered := raw
  pend := none
  last := none
  rejected := 0
  filter := filter

/-- A filtered edge that the spacing test accepted, on its way to the log (R108, R110). -/
structure AcceptedEdge where
  sensor : SensorNo
  edge : Edge
  reading : Reading
  time : Word32
  deriving DecidableEq, Repr

/-- A capture record (section 6.2). -/
structure Capture where
  seq : Word32
  sensor : SensorNo
  edge : Edge
  reading : Reading
  time : Word32
  outstanding : PortSet
  deriving DecidableEq, Repr

/-- The Capture Log. -/
structure CaptureLog where
  records : List Capture
  next : Word32
  subscription : PerPort SensorSet
  cursor : PerPort Word32
  lost : PerPort Word16
  mode : Mode
  /-- a read has let the oldest record of the full log leave while an entry was on its way: that entry removes the next oldest
  instead (R118, log 39) -/
  overwriteDue : Bool
  deriving DecidableEq, Repr

/-- The log as a device reset leaves it (R120). -/
def CaptureLog.initial : CaptureLog where
  records := []
  next := 0
  subscription := PerPort.const 0
  cursor := PerPort.const 0
  lost := PerPort.const 0
  mode := .init
  overwriteDue := false

/-! ## Template Table (chapter 7) -/

/-- Whether instances wait for a verdict (section 7.1). -/
inductive VerdictMode where
  | none
  | required (decisionDistance : Word32) (dflt : Default)
  deriving DecidableEq, Repr

/-- Every field of a template but its check code (section 7.1). -/
structure TemplateFields where
  owner : Port
  sensor : SensorNo
  edge : Edge
  lines : LineSet
  action : LineAction
  offset : Word32
  verdict : VerdictMode
  report : Bool
  active : Bool
  failures : Word16
  deriving DecidableEq, Repr

/-- A defined template with its check code as the fields it was last computed over. -/
structure Template where
  fields : TemplateFields
  code : TemplateFields
  deriving DecidableEq, Repr

/-- The Template Table: 32 places and the mode it has taken. -/
structure TemplateTable where
  place : Vector (Option Template) 32
  mode : Mode
  deriving DecidableEq, Repr

/-- The Template Table as a device reset leaves it (R122). -/
def TemplateTable.initial : TemplateTable where
  place := Vector.replicate 32 none
  mode := .init

/-! ## Mode Controller (chapter 8) -/

/-- The parameter set (section 8.4). -/
structure Params where
  motionSource : MotionSource
  internalRate : Nat
  stallTime : Nat
  speedWindow : Nat
  reverseLimit : Nat
  commitLead : Nat
  guard : Vector Nat 32
  policy : Vector Policy 32
  rest : Vector Nat 32
  readback : Vector Bool 32
  settle : Nat
  faultThreshold : Nat
  historyPeriod : HistoryPeriod
  quota : PerPort Nat
  portPriority : Vector (Option Port) 4
  sensorEdge : Vector EdgeSelect 8
  sensorFilter : Vector Nat 8
  sensorSpacing : Vector Nat 8
  corruptLimit : Nat
  deriving DecidableEq, Repr

/-- The parameters that the Timetable reads. -/
def Params.limits (q : Params) : TableLimits where
  guard := q.guard
  policy := q.policy
  quota := q.quota
  portPriority := q.portPriority

/-- The defaults of section 8.4. -/
def Params.default : Params where
  motionSource := .quad
  internalRate := 100
  stallTime := 500
  speedWindow := 10
  reverseLimit := 256
  commitLead := 64
  guard := Vector.replicate 32 0
  policy := Vector.replicate 32 .refuseLater
  rest := Vector.replicate 32 0
  readback := Vector.replicate 32 false
  settle := 50
  faultThreshold := 3
  historyPeriod := .ms1600
  quota := PerPort.const 64
  portPriority := #v[some .A, some .B, some .C, some .D]
  sensorEdge := Vector.replicate 8 .none
  sensorFilter := Vector.replicate 8 2
  sensorSpacing := Vector.replicate 8 0
  corruptLimit := 4

/-- The Mode Controller. -/
structure ModeController where
  mode : Mode
  firstCause : Option SafeCause
  later : CauseSet
  corruption : Nat
  params : Params
  scrubPos : Nat
  scrubRounds : Word32
  visitStart : Word32
  /-- the kind of the reset that preceded (R142) -/
  resetKind : ResetKind
  /-- an accepted RESET_DEVICE waits for port A's select release (R157) -/
  softArmed : Bool
  deriving DecidableEq, Repr

/-- The Mode Controller as a device reset leaves it (R140). -/
def ModeController.initial (params : Params) (kind : ResetKind) : ModeController where
  mode := .init
  firstCause := none
  later := { safeIn := false, overrun := false, corruptLimit := false, recordCorrupt := false }
  corruption := 0
  params := params
  scrubPos := 0
  scrubRounds := 0
  visitStart := 0
  resetKind := kind
  softArmed := false

/-! ## Position Unit (chapter 1) -/

/-- The Position Unit, with the parameters of its own in force (R4, R8, R13, R16). -/
structure PositionUnit where
  p : Word32
  hw : Word32
  epoch : Word16
  frame : BitVec 8
  speed : Int
  motion : MotionState
  quadErrors : Word16
  refA : Bool
  refB : Bool
  /-- start time of the stall timer, none while it is stopped -/
  stallStart : Option Word32
  acc : Int
  windowStart : Word32
  /-- start time of the internal rate timer, none while it is stopped -/
  rateStart : Option Word32
  source : MotionSource
  rate : Nat
  stallTime : Nat
  window : Nat
  deriving DecidableEq, Repr

/-- The Position Unit as the end of a device reset leaves it (R1): `a` and `b` are the levels of MOTA and MOTB. -/
def PositionUnit.initial (a b : Bool) (params : Params) : PositionUnit where
  p := 0
  hw := 0
  epoch := 0
  frame := 0
  speed := 0
  motion := .stalled
  quadErrors := 0
  refA := a
  refB := b
  stallStart := none
  acc := 0
  windowStart := 0
  rateStart := if params.motionSource = .internal then some 0 else none
  source := params.motionSource
  rate := params.internalRate
  stallTime := params.stallTime
  window := params.speedWindow

/-! ## Notice Unit (chapter 9) -/

/-- The particulars of one notice (section 9.1); a field that the kind does not carry is absent. -/
structure Notice where
  kind : NoticeKind
  handle : Option Handle
  tag : Option Word16
  line : Option LineNo
  seq : Option Word32
  template : Option TemplateNo
  count : Option Nat
  status : Option Status
  reason : Option Nat
  modes : Option (Mode × Mode)
  deriving DecidableEq, Repr

/-- A notice of a kind with no field present. -/
def Notice.bare (k : NoticeKind) : Notice where
  kind := k
  handle := none
  tag := none
  line := none
  seq := none
  template := none
  count := none
  status := none
  reason := none
  modes := none

/-- A notice on its way to a port: who posted it, and whether the event of that port's own request did (R165). -/
structure PostedNotice where
  source : NoticeSource
  own : Bool
  notice : Notice
  deriving DecidableEq, Repr

/-- One port's notices (section 9.2). The pending set is held in ascending kind code. -/
structure NoticeState where
  pendingSet : List (NoticeKind × Nat)
  detail : Option Notice
  mask : Word16
  alert : Bool
  deriving DecidableEq, Repr

/-- One port's notices as a device reset leaves them (R158). -/
def NoticeState.initial : NoticeState where
  pendingSet := []
  detail := none
  mask := Config.defaultMask
  alert := false

/-! ## Port Interface (chapter 10) -/

/-- Where a port stands in its transaction (section 10.2). -/
inductive PortState where
  | idle | receiving | working | replyReady | replying
  deriving DecidableEq, Repr

/-- What RESET_PORT has removed so far (R176). -/
structure PortResetCounts where
  templates : Nat
  slots : Nat
  entries : Nat
  lines : Nat
  deriving DecidableEq, Repr

/-- How far the request of a WORKING port has come: not taken, RESET_PORT taken at its first `stage` blocks (R176),
or taken, with its status and reply body. -/
inductive WorkPhase where
  | waiting
  | partly (stage : Nat) (counts : PortResetCounts)
  | done (status : Status) (body : List Byte)
  deriving DecidableEq, Repr

/-- The request that a WORKING port has handed on (R171); `since` starts its reply limit. -/
structure Work where
  kind : ReqKind
  seq : Byte
  body : List Byte
  since : Word32
  phase : WorkPhase
  deriving DecidableEq, Repr

/-- A reply frame and how many of its bytes have been clocked out (section 10.1). -/
structure ReplyBuffer where
  frame : List Byte
  sent : Nat
  deriving DecidableEq, Repr

/-- One port's record (section 10.1). -/
structure PortRec where
  /-- PnSEL is asserted -/
  selected : Bool
  /-- the transaction in progress is answered EEh on every byte (R167, R168) -/
  refusing : Bool
  state : PortState
  buffer : List Byte
  reply : Option ReplyBuffer
  dropped : Bool
  framing : BitVec 8
  crc : BitVec 8
  busy : BitVec 8
  /-- the transaction of the work in progress was cut (R173) -/
  cut : Bool
  work : Option Work
  deriving DecidableEq, Repr

/-- A port as a device reset leaves it (R167): a transaction in progress is answered EEh until its release. -/
def PortRec.initial (selected : Bool) : PortRec where
  selected := selected
  refusing := selected
  state := .idle
  buffer := []
  reply := none
  dropped := false
  framing := 0
  crc := 0
  busy := 0
  cut := false
  work := none

/-! ## Events handed on and not yet taken (R140) -/

/-- A step or a preset on its way to a block (R11, R20). `asksSafe` marks a step at which the Position Unit asked for
SAFE (R14). -/
inductive MotionEvent where
  | step (forward : Bool) (pos : Word32) (asksSafe : Bool)
  | preset (pos : Word32)
  deriving DecidableEq, Repr

/-- A mode change on its way to a block (R141). `ready` is clear while the Line Block's part of STOP or SAFE entry
has yet to be handed on by the Timetable. -/
structure ModeChange where
  old : Mode
  new : Mode
  ready : Bool
  deriving DecidableEq, Repr

/-- A parameter write on its way to the block that uses the parameter (R149). A write of GUARD, POLICY, QUOTA or
PORT_PRIORITY carries all four as the Mode Controller then holds them. -/
inductive ParamWrite where
  | motionSource (v : MotionSource)
  | internalRate (v : Nat)
  | stallTime (v : Nat)
  | speedWindow (v : Nat)
  | commitLead (v : Nat)
  | historyPeriod (v : HistoryPeriod)
  | rest (l : LineNo) (v : Nat)
  | readback (l : LineNo) (v : Bool)
  | sensorFilter (k : SensorNo) (v : Nat)
  | tableLimits (v : TableLimits)
  deriving DecidableEq, Repr

/-- What the Mode Controller hands to a block: a mode change or a parameter write. -/
inductive BlockMessage where
  | change (c : ModeChange)
  | write (w : ParamWrite)
  deriving DecidableEq, Repr

/-- A capture on its way to the Template Table (R114). -/
structure HandOff where
  seq : Word32
  sensor : SensorNo
  edge : Edge
  reading : Reading
  time : Word32
  deriving DecidableEq, Repr

/-- A mismatch on its way to the Mode Controller (R154). -/
inductive Finding where
  | entry (index : Fin 256)
  | template (num : TemplateNo)
  | line (l : LineNo)
  deriving DecidableEq, Repr

/-- Everything one block has handed to another and that has not been taken there, oldest first. -/
structure Wires where
  /-- steps and presets for the Timetable -/
  timetableMotion : List MotionEvent
  /-- steps and presets for each port's slots -/
  slotsMotion : PerPort (List MotionEvent)
  /-- SAFE requests for OVERRUN not yet settled at the Timetable: none while the Mode Controller has not taken the
  request, then the number of mode changes the Timetable has yet to take before the request is settled there -/
  overrunAsks : List (Option Nat)
  /-- accepted edges for the Capture Log -/
  edges : List AcceptedEdge
  /-- captures for the Template Table -/
  handOffs : List HandOff
  /-- history period boundaries for the Mode Controller -/
  boundaries : Nat
  /-- mismatches for the Mode Controller -/
  findings : List Finding
  /-- notices for each port -/
  notices : PerPort (List PostedNotice)
  /-- messages of the Mode Controller to the blocks -/
  toTimetable : List BlockMessage
  toSlots : PerPort (List BlockMessage)
  toTemplates : List BlockMessage
  toLog : List BlockMessage
  toLines : List BlockMessage
  toPosition : List BlockMessage
  deriving DecidableEq, Repr

/-- Nothing on its way, as every device reset leaves it (R140). -/
def Wires.empty : Wires where
  timetableMotion := []
  slotsMotion := PerPort.const []
  overrunAsks := []
  edges := []
  handOffs := []
  boundaries := 0
  findings := []
  notices := PerPort.const []
  toTimetable := []
  toSlots := PerPort.const []
  toTemplates := []
  toLog := []
  toLines := []
  toPosition := []

end Sys2Proof.Machine
end

