-- ==== Sys2Proof/Machine/Operands.lean ====
section
/-! DEFINITION. Operand forms: byte order and bit fields of frames (R178), codes (sections 8.4, 9.1, 10.4), the CRC (R174),
the request bodies with their field checks (section 10.6), and the layouts of the records in replies. -/

set_option autoImplicit false

namespace Sys2Proof.Machine

open Sys2Proof

/-! ## Bytes and fields (R178: most significant byte first) -/

/-- A number as one byte. -/
def byte (n : Nat) : Byte := BitVec.ofNat 8 n

/-- Byte `i` of a body as a number; 0 beyond the end. -/
def natAt (b : List Byte) (i : Nat) : Nat := (b.getD i 0).toNat

/-- The two-byte field that begins at byte `i`. -/
def word16At (b : List Byte) (i : Nat) : Word16 := b.getD i 0 ++ b.getD (i + 1) 0

/-- The four-byte field that begins at byte `i`. -/
def word32At (b : List Byte) (i : Nat) : Word32 := word16At b i ++ word16At b (i + 2)

/-- A two-byte field, most significant byte first. -/
def be16 (w : Word16) : List Byte := [w.extractLsb' 8 8, w.extractLsb' 0 8]

/-- A four-byte field, most significant byte first. -/
def be32 (w : Word32) : List Byte :=
  [w.extractLsb' 24 8, w.extractLsb' 16 8, w.extractLsb' 8 8, w.extractLsb' 0 8]

/-- A count as a two-byte field. -/
def be16Nat (n : Nat) : List Byte := be16 (BitVec.ofNat 16 n)

/-- A flag as 0 or 1. -/
def flagNat (b : Bool) : Nat := if b then 1 else 0

/-- A flag as a byte 0 or 1. -/
def flagByte (b : Bool) : Byte := byte (flagNat b)

/-- A signed count as a two-byte two's-complement field (R19). -/
def be16Int (z : Int) : List Byte := be16 (BitVec.ofInt 16 z)

/-- A handle as two bytes, index then generation (R178). -/
def handleBytes (h : Handle) : List Byte := [byte h.index.val, h.generation]

/-- The handle at byte `i` (R178). -/
def handleAt (b : List Byte) (i : Nat) : Handle :=
  { index := Fin.ofNat 256 (natAt b i), generation := b.getD (i + 1) 0 }

/-! ## Lines of a set -/

/-- The lines 0 to 31 in ascending order. -/
def allLines : List LineNo := List.finRange 32

/-- Whether line `l` is in the set. -/
def hasLine (x : LineSet) (l : LineNo) : Bool := x.getLsbD l.val

/-- The lines of a set in ascending order. -/
def linesOf (x : LineSet) : List LineNo := allLines.filter (hasLine x)

/-- The set of one line. -/
def singleLine (l : LineNo) : LineSet := 1#32 <<< l.val

/-- The set of the lines that meet a test. -/
def lineSetOf (f : LineNo → Bool) : LineSet :=
  allLines.foldl (fun x l => if f l then x ||| singleLine l else x) 0

/-- The lines of `x` that are not in `y`. -/
def lineDiff (x y : LineSet) : LineSet := x &&& ~~~y

/-! ## Codes -/

/-- Mode codes (R156). -/
def Mode.code : Mode → Nat
  | .init => 0 | .config => 1 | .run => 2 | .safe => 3

/-- Motion state codes (R19). -/
def MotionState.code : MotionState → Nat
  | .stalled => 0 | .forward => 1 | .reverse => 2 | .overrun => 3

/-- First-cause codes (R156). -/
def causeCode : Option SafeCause → Nat
  | none => 0
  | some .safeIn => 1
  | some .overrun => 2
  | some .corruptLimit => 3
  | some .recordCorrupt => 4

/-- The later-cause set as a byte (10.6.6, READ_HEALTH). -/
def CauseSet.byte (c : CauseSet) : Byte :=
  Machine.byte (flagNat c.safeIn + 2 * flagNat c.overrun + 4 * flagNat c.corruptLimit + 8 * flagNat c.recordCorrupt)

/-- Status codes (section 10.4). -/
def Status.code : Status → Nat
  | .ok => 0x00 | .frameError => 0x01 | .unknownRequest => 0x02 | .notPermitted => 0x03
  | .wrongMode => 0x04 | .badField => 0x05 | .notLeased => 0x06 | .heldByOther => 0x07
  | .lineFailed => 0x08 | .tooLate => 0x09 | .outOfRange => 0x0A | .tableFull => 0x0B
  | .quotaExceeded => 0x0C | .conflict => 0x0D | .noSuchEntry => 0x0E | .notArmed => 0x0F
  | .late => 0x10 | .notHeld => 0x11 | .noSuchTemplate => 0x12 | .safeHold => 0x13

/-- Request codes (section 10.4). -/
def ReqKind.code : ReqKind → Nat
  | .readPosition => 0x01 | .presetPosition => 0x02
  | .leaseLines => 0x10 | .releaseLines => 0x11 | .revokeLines => 0x12 | .forceLines => 0x13
  | .unforceLines => 0x14 | .readLines => 0x15 | .clearLineFault => 0x16
  | .post => 0x20 | .commit => 0x21 | .discardStaged => 0x22
  | .cancelEntries => 0x30 | .amendEntry => 0x31 | .queryEntry => 0x32 | .readTableStatus => 0x33
  | .subscribe => 0x40 | .readCaptures => 0x41
  | .defineTemplate => 0x50 | .deleteTemplate => 0x51 | .setTemplateState => 0x52 | .verdict => 0x53
  | .queryTemplate => 0x54
  | .setParam => 0x60 | .getParam => 0x61 | .start => 0x62 | .stop => 0x63 | .resume => 0x64
  | .readHealth => 0x65 | .resetDevice => 0x66
  | .readNotices => 0x70 | .setNoticeMask => 0x71
  | .portStatus => 0x7E | .resetPort => 0x7F

/-- Every request of the catalogue. -/
def ReqKind.all : List ReqKind :=
  [.readPosition, .presetPosition, .leaseLines, .releaseLines, .revokeLines, .forceLines, .unforceLines, .readLines,
    .clearLineFault, .post, .commit, .discardStaged, .cancelEntries, .amendEntry, .queryEntry, .readTableStatus]
  ++ [.subscribe, .readCaptures, .defineTemplate, .deleteTemplate, .setTemplateState, .verdict, .queryTemplate,
    .setParam, .getParam, .start, .stop, .resume, .readHealth, .resetDevice, .readNotices, .setNoticeMask,
    .portStatus, .resetPort]

/-- The request a kind byte names, if any (R170 check 3). -/
def ReqKind.ofCode (n : Nat) : Option ReqKind := ReqKind.all.find? fun k => k.code == n

/-- The supervisor requests (section 10.4). -/
def ReqKind.supervisor : ReqKind → Bool
  | .presetPosition | .revokeLines | .forceLines | .unforceLines | .clearLineFault | .setParam | .start | .stop
  | .resume | .resetDevice => true
  | .readPosition | .leaseLines | .releaseLines | .readLines | .post | .commit | .discardStaged | .cancelEntries
  | .amendEntry | .queryEntry | .readTableStatus | .subscribe | .readCaptures | .defineTemplate | .deleteTemplate
  | .setTemplateState | .verdict | .queryTemplate | .getParam | .readHealth | .readNotices | .setNoticeMask
  | .portStatus | .resetPort => false

/-- Notice kind codes (section 9.1). -/
def NoticeKind.code : NoticeKind → Nat
  | .modeChanged => 0x01 | .entryAbandoned => 0x02 | .entryCorrupt => 0x03 | .lineFailed => 0x04
  | .motion => 0x05 | .leaseRevoked => 0x06 | .leaseLapsed => 0x07 | .displaced => 0x08
  | .captureLost => 0x09 | .instanceFailed => 0x0A | .commitFailed => 0x0B | .fireSuppressed => 0x0C
  | .defaultApplied => 0x0D | .commitDone => 0x0E | .fired => 0x0F

/-- Notice priorities (section 9.1). -/
def NoticeKind.priority : NoticeKind → Nat
  | .modeChanged => 7
  | .entryAbandoned | .entryCorrupt => 6
  | .lineFailed | .motion => 5
  | .leaseRevoked | .leaseLapsed | .displaced => 4
  | .captureLost | .instanceFailed | .commitFailed => 3
  | .fireSuppressed | .defaultApplied => 2
  | .commitDone | .fired => 1

/-- Action codes (R178). -/
def LineAction.code : LineAction → Nat
  | .on => 0 | .off => 1 | .pulse _ => 2

/-- The width field of an action, 0 when absent. -/
def LineAction.width : LineAction → Word16
  | .on => 0 | .off => 0 | .pulse w => w

/-- Default codes (10.6.3). -/
def Default.code : Default → Nat
  | .fire => 0 | .drop => 1

/-- Commit reason codes (10.6.2). -/
def CommitReason.code : CommitReason → Nat
  | .request => 0 | .now => 1 | .full => 2 | .lead => 3

/-- Lease mode codes (10.6.6). -/
def LeaseMode.code : LeaseMode → Nat
  | .free => 0 | .exclusive => 1 | .shared => 2

/-- Force codes (10.6.6). -/
def Force.code : Force → Nat
  | .none => 0 | .forcedOn => 1 | .forcedOff => 2

/-- Engine state codes (10.6.6). -/
def Engine.code : Engine → Nat
  | .off _ => 0 | .onLatched => 1 | .onPulse _ _ => 2 | .resting _ _ _ => 3

/-- Motion source codes (section 8.4). -/
def MotionSource.code : MotionSource → Nat
  | .quad => 0 | .stepDir => 1 | .internal => 2

/-- Policy codes (section 8.4). -/
def Policy.code : Policy → Nat
  | .merge => 0 | .refuseLater => 1 | .priority => 2

/-- History period codes (section 8.4). -/
def HistoryPeriod.code : HistoryPeriod → Nat
  | .ms100 => 0 | .ms400 => 1 | .ms1600 => 2 | .ms6400 => 3 | .ms25600 => 4

/-- A history period in microseconds (section 2.1, R3). -/
def HistoryPeriod.micros : HistoryPeriod → Nat
  | .ms100 => 100000 | .ms400 => 400000 | .ms1600 => 1600000 | .ms6400 => 6400000 | .ms25600 => 25600000

/-- Edge selection codes (section 8.4). -/
def EdgeSelect.code : EdgeSelect → Nat
  | .none => 0 | .rising => 1 | .falling => 2 | .both => 3

/-- The port at a rank, or the unranked value 4 (section 8.4). -/
def rankCode : Option Port → Nat
  | none => 4
  | some p => p.code

/-! ## CRC and frames (R174, section 10.3) -/

/-- The register after one more bit, most significant bit of a byte first. -/
def crcBit (reg : Word16) (bit : Bool) : Word16 :=
  let shifted := reg <<< 1
  if (bit != reg.msb) then shifted ^^^ 0x1021#16 else shifted

/-- The register after one more byte. -/
def crcByte (reg : Word16) (x : Byte) : Word16 :=
  [7, 6, 5, 4, 3, 2, 1, 0].foldl (fun r i => crcBit r (x.getLsbD i)) reg

/-- The CRC over a list of bytes, register starting at FFFFh, no final inversion. -/
def crc16 (bytes : List Byte) : Word16 := bytes.foldl crcByte 0xFFFF#16

/-- A reply frame: length 7 plus the body length, kind, sequence, status, flags, body, CRC (R174). -/
def replyFrame (kind seq : Byte) (status : Status) (pendingFlag droppedFlag : Bool) (body : List Byte) : List Byte :=
  let front := [byte (7 + body.length), kind, seq, byte status.code,
    byte (flagNat pendingFlag + 2 * flagNat droppedFlag)] ++ body
  front ++ be16 (crc16 front)

/-- Whether a reply frame carries the dropped-reply flag set. -/
def frameDropped (frame : List Byte) : Bool := (frame.getD 4 0).getLsbD 1

/-! ## Request bodies -/

/-- An action with its width field: 1-65,535 for PULSE, 0 for ON and OFF (R74, R123). -/
def parseAction (code : Nat) (width : Word16) : Option LineAction :=
  match code with
  | 0 => if width = 0 then some .on else none
  | 1 => if width = 0 then some .off else none
  | 2 => if width = 0 then none else some (.pulse width)
  | _ => none

/-- The content of a POST body (10.6.1). -/
structure PostBody where
  report : Bool
  noMerge : Bool
  commitNow : Bool
  action : LineAction
  lines : LineSet
  due : Word32
  tag : Option Word16
  deriving DecidableEq, Repr

/-- POST body, 14 bytes, with the field checks of R74 check 2. -/
def parsePost (b : List Byte) : Option PostBody :=
  if b.length = 14 then
    let flags : Byte := b.getD 0 0
    let lines := word32At b 2
    let tag := word16At b 12
    let hasTag := flags.getLsbD 3
    match parseAction (natAt b 1) (word16At b 6) with
    | none => none
    | some action =>
      if flags &&& 0xF0#8 = 0 ∧ lines ≠ 0 ∧ (hasTag = true ∨ tag = 0) then
        some { report := flags.getLsbD 0, noMerge := flags.getLsbD 1, commitNow := flags.getLsbD 2, action, lines,
               due := word32At b 8, tag := if hasTag then some tag else none }
      else none
  else none

/-- The selector of CANCEL_ENTRIES (R61). -/
inductive CancelSelector where
  | handle (h : Handle)
  | tag (v : Word16)
  | capture (seq : Word32)
  | all
  deriving DecidableEq, Repr

/-- CANCEL_ENTRIES body (10.6.6, R61). -/
def parseCancel (b : List Byte) : Option CancelSelector :=
  match b with
  | [] => none
  | sel :: rest =>
    match sel.toNat with
    | 0 => if rest.length = 2 then some (.handle (handleAt rest 0)) else none
    | 1 => if rest.length = 2 then some (.tag (word16At rest 0)) else none
    | 2 => if rest.length = 4 then some (.capture (word32At rest 0)) else none
    | 3 => if rest.length = 0 then some .all else none
    | _ => none

/-- The content of an AMEND_ENTRY body (R63). -/
structure AmendBody where
  handle : Handle
  due : Word32
  width : Option Word16
  deriving DecidableEq, Repr

/-- AMEND_ENTRY body: 6 bytes, or 8 with a width of 1-65,535 (R63 check 1). -/
def parseAmend (b : List Byte) : Option AmendBody :=
  if b.length = 6 then some { handle := handleAt b 0, due := word32At b 2, width := none }
  else if b.length = 8 then
    if word16At b 6 = 0 then none
    else some { handle := handleAt b 0, due := word32At b 2, width := some (word16At b 6) }
  else none

/-- The content of a LEASE_LINES body (R24). -/
structure LeaseBody where
  lines : LineSet
  exclusive : Bool
  lapse : Bool
  deriving DecidableEq, Repr

/-- LEASE_LINES body (10.6.6) with the field checks of R24. -/
def parseLease (b : List Byte) : Option LeaseBody :=
  if b.length = 6 ∧ word32At b 0 ≠ 0 ∧ natAt b 4 ≤ 1 ∧ natAt b 5 ≤ 1 then
    some { lines := word32At b 0, exclusive := natAt b 4 = 0, lapse := natAt b 5 = 1 }
  else none

/-- A body that is one non-empty line set (R28, R29, R35, R40). -/
def parseLines (b : List Byte) : Option LineSet :=
  if b.length = 4 ∧ word32At b 0 ≠ 0 then some (word32At b 0) else none

/-- FORCE_LINES body: a non-empty line set and a level OFF 0 or ON 1 (R34). -/
def parseForce (b : List Byte) : Option (LineSet × Bool) :=
  if b.length = 5 ∧ word32At b 0 ≠ 0 ∧ natAt b 4 ≤ 1 then some (word32At b 0, natAt b 4 = 1) else none

/-- READ_LINES body: a set of 1 to 7 lines (R41). -/
def parseReadLines (b : List Byte) : Option LineSet :=
  if b.length = 4 ∧ 1 ≤ (linesOf (word32At b 0)).length ∧ (linesOf (word32At b 0)).length ≤ 7 then
    some (word32At b 0)
  else none

/-- A body that is one template number 0-31 (R125, R127). -/
def parseTemplateNo (b : List Byte) : Option TemplateNo :=
  if b.length = 1 then (if h : natAt b 0 < 32 then some ⟨natAt b 0, h⟩ else none) else none

/-- SET_TEMPLATE_STATE body: a template number and ACTIVE 0 or SUSPENDED 1; answers whether ACTIVE is asked (R126). -/
def parseTemplateState (b : List Byte) : Option (TemplateNo × Bool) :=
  if b.length = 2 ∧ natAt b 1 ≤ 1 then
    (if h : natAt b 0 < 32 then some (⟨natAt b 0, h⟩, decide (natAt b 1 = 0)) else none)
  else none

/-- The content of a DEFINE_TEMPLATE body (R123). -/
structure TemplateBody where
  num : TemplateNo
  sensor : SensorNo
  edge : Edge
  lines : LineSet
  action : LineAction
  offset : Word32
  verdict : VerdictMode
  report : Bool
  deriving DecidableEq, Repr

/-- Verdict mode, decision distance and default fields of a template body (R123 check 2). -/
def parseVerdictMode (mode dflt : Nat) (dist offset : Word32) : Option VerdictMode :=
  match mode with
  | 0 => if dist = 0 ∧ dflt = 0 then some .none else Option.none
  | 1 =>
    if 1 ≤ dist.toNat ∧ dist.toNat + 1 ≤ offset.toNat then
      match dflt with
      | 0 => some (.required dist .fire)
      | 1 => some (.required dist .drop)
      | _ => Option.none
    else Option.none
  | _ => Option.none

/-- DEFINE_TEMPLATE body, 20 bytes, with the field checks of R123 check 2. -/
def parseTemplate (b : List Byte) : Option TemplateBody :=
  if b.length = 20 then
    let sens : Byte := b.getD 1 0
    let lines := word32At b 2
    let offset := word32At b 9
    let flags : Byte := b.getD 19 0
    match parseAction (natAt b 6) (word16At b 7), parseVerdictMode (natAt b 13) (natAt b 18) (word32At b 14) offset with
    | some action, some verdict =>
      if h : natAt b 0 < 32 then
        if sens &&& 0x78#8 = 0 ∧ lines ≠ 0 ∧ 1 ≤ offset.toNat ∧ offset.toNat ≤ Config.maxOffset ∧ flags &&& 0xFE#8 = 0 then
          some { num := ⟨natAt b 0, h⟩, sensor := Fin.ofNat 8 (sens &&& 0x07#8).toNat,
                 edge := if sens.getLsbD 7 then .falling else .rising, lines, action, offset, verdict,
                 report := flags.getLsbD 0 }
        else none
      else none
    | _, _ => none
  else none

/-- The content of a VERDICT body; the template selector ALL is none (R134). -/
structure VerdictBody where
  seq : Word32
  template : Option TemplateNo
  keep : Bool
  deriving DecidableEq, Repr

/-- VERDICT body, 6 bytes (R134, 10.6.6). -/
def parseVerdict (b : List Byte) : Option VerdictBody :=
  if b.length = 6 ∧ natAt b 5 ≤ 1 then
    let keep := decide (natAt b 5 = 0)
    if natAt b 4 = 0xFF then some { seq := word32At b 0, template := none, keep }
    else if h : natAt b 4 < 32 then some { seq := word32At b 0, template := some ⟨natAt b 4, h⟩, keep }
    else none
  else none

/-- A parameter with its index (section 8.4). -/
inductive ParamId where
  | motionSource | internalRate | stallTime | speedWindow | reverseLimit | commitLead
  | guard (l : LineNo) | policy (l : LineNo) | rest (l : LineNo) | readback (l : LineNo)
  | settle | faultThreshold | historyPeriod
  | quota (p : Port)
  | portPriority (r : Fin 4)
  | sensorEdge (k : SensorNo) | sensorFilter (k : SensorNo) | sensorSpacing (k : SensorNo)
  | corruptLimit
  deriving DecidableEq, Repr

/-- A parameter without index: its index byte is 0 (R149 check 1). -/
def ParamId.plain (id : ParamId) (index : Nat) : Option ParamId := if index = 0 then some id else none

/-- A parameter indexed by line. -/
def ParamId.byLine (f : LineNo → ParamId) (index : Nat) : Option ParamId :=
  if h : index < 32 then some (f ⟨index, h⟩) else none

/-- A parameter indexed by sensor. -/
def ParamId.bySensor (f : SensorNo → ParamId) (index : Nat) : Option ParamId :=
  if h : index < 8 then some (f ⟨index, h⟩) else none

/-- The parameter that an identifier and an index name (R149 check 1, R151). -/
def ParamId.ofBytes (id index : Nat) : Option ParamId :=
  match id with
  | 0x00 => plain .motionSource index
  | 0x01 => plain .internalRate index
  | 0x02 => plain .stallTime index
  | 0x03 => plain .speedWindow index
  | 0x04 => plain .reverseLimit index
  | 0x05 => plain .commitLead index
  | 0x06 => byLine .guard index
  | 0x07 => byLine .policy index
  | 0x08 => byLine .rest index
  | 0x09 => byLine .readback index
  | 0x0A => plain .settle index
  | 0x0B => plain .faultThreshold index
  | 0x0C => plain .historyPeriod index
  | 0x0D => (Port.ofCode index).map .quota
  | 0x0E => if h : index < 4 then some (.portPriority ⟨index, h⟩) else none
  | 0x0F => bySensor .sensorEdge index
  | 0x10 => bySensor .sensorFilter index
  | 0x11 => bySensor .sensorSpacing index
  | 0x12 => plain .corruptLimit index
  | _ => none

/-- Parameters marked writable in RUN (section 8.4). -/
def ParamId.writableInRun : ParamId → Bool
  | .commitLead | .faultThreshold | .historyPeriod => true
  | .motionSource | .internalRate | .stallTime | .speedWindow | .reverseLimit | .guard _ | .policy _ | .rest _
  | .readback _ | .settle | .quota _ | .portPriority _ | .sensorEdge _ | .sensorFilter _ | .sensorSpacing _
  | .corruptLimit => false

/-- The value a parameter holds, as the number its frame field carries (R151). -/
def Params.value (q : Params) : ParamId → Nat
  | .motionSource => q.motionSource.code
  | .internalRate => q.internalRate
  | .stallTime => q.stallTime
  | .speedWindow => q.speedWindow
  | .reverseLimit => q.reverseLimit
  | .commitLead => q.commitLead
  | .guard l => q.guard[l]
  | .policy l => q.policy[l].code
  | .rest l => q.rest[l]
  | .readback l => flagNat q.readback[l]
  | .settle => q.settle
  | .faultThreshold => q.faultThreshold
  | .historyPeriod => q.historyPeriod.code
  | .quota p => q.quota.get p
  | .portPriority r => rankCode q.portPriority[r]
  | .sensorEdge k => q.sensorEdge[k].code
  | .sensorFilter k => q.sensorFilter[k]
  | .sensorSpacing k => q.sensorSpacing[k]
  | .corruptLimit => q.corruptLimit

/-- A motion source from its code. -/
def MotionSource.ofCode : Nat → Option MotionSource
  | 0 => some .quad | 1 => some .stepDir | 2 => some .internal | _ => none

/-- A policy from its code. -/
def Policy.ofCode : Nat → Option Policy
  | 0 => some .merge | 1 => some .refuseLater | 2 => some .priority | _ => none

/-- A history period from its code. -/
def HistoryPeriod.ofCode : Nat → Option HistoryPeriod
  | 0 => some .ms100 | 1 => some .ms400 | 2 => some .ms1600 | 3 => some .ms6400 | 4 => some .ms25600 | _ => none

/-- An edge selection from its code. -/
def EdgeSelect.ofCode : Nat → Option EdgeSelect
  | 0 => some .none | 1 => some .rising | 2 => some .falling | 3 => some .both | _ => Option.none

/-- A rank value from its code: a port, or the unranked value 4. -/
def rankOfCode (n : Nat) : Option (Option Port) :=
  if n = 4 then some none else (Port.ofCode n).map some

/-- A value kept if it lies in a range. -/
def inRange (lo hi n : Nat) : Option Nat := if lo ≤ n ∧ n ≤ hi then some n else none

/-- The rank that a port holds: rank 0 is highest, a port that holds none gets 4, below every ranked port (R54, R150). -/
def TableLimits.rankOf (q : TableLimits) (p : Port) : Nat :=
  ((List.finRange 4).find? fun r => q.portPriority[r] == some p).elim 4 (·.val)

/-- Whether port `x` holds a rank other than `r` (R150). -/
def Params.holdsOtherRank (q : Params) (x : Port) (r : Fin 4) : Bool :=
  (List.finRange 4).any fun k => decide (k ≠ r) && q.portPriority[k] == some x

/-- The parameter set after a write of `n`, or none where the value is out of range or not one of the codes (R149
checks 3 and 4, R150). `corruption` is the corruption count as the write is taken. -/
def Params.write (q : Params) (id : ParamId) (n corruption : Nat) : Option Params :=
  match id with
  | .motionSource => (MotionSource.ofCode n).map fun v => { q with motionSource := v }
  | .internalRate => (inRange 1 65535 n).map fun v => { q with internalRate := v }
  | .stallTime => (inRange 1 65535 n).map fun v => { q with stallTime := v }
  | .speedWindow => (inRange 1 255 n).map fun v => { q with speedWindow := v }
  | .reverseLimit => (inRange 0 65535 n).map fun v => { q with reverseLimit := v }
  | .commitLead => (inRange 1 65535 n).map fun v => { q with commitLead := v }
  | .guard l => (inRange 0 65535 n).map fun v => { q with guard := q.guard.set l v }
  | .policy l => (Policy.ofCode n).map fun v => { q with policy := q.policy.set l v }
  | .rest l => (inRange 0 65535 n).map fun v => { q with rest := q.rest.set l v }
  | .readback l => (inRange 0 1 n).map fun v => { q with readback := q.readback.set l (v == 1) }
  | .settle => (inRange 1 255 n).map fun v => { q with settle := v }
  | .faultThreshold => (inRange 1 15 n).map fun v => { q with faultThreshold := v }
  | .historyPeriod => (HistoryPeriod.ofCode n).map fun v => { q with historyPeriod := v }
  | .quota p => (inRange 0 256 n).map fun v => { q with quota := q.quota.set p v }
  | .portPriority r =>
    match rankOfCode n with
    | none => none
    | some none => some { q with portPriority := q.portPriority.set r none }
    | some (some x) =>
      if q.holdsOtherRank x r then none else some { q with portPriority := q.portPriority.set r (some x) }
  | .sensorEdge k => (EdgeSelect.ofCode n).map fun v => { q with sensorEdge := q.sensorEdge.set k v }
  | .sensorFilter k => (inRange 0 255 n).map fun v => { q with sensorFilter := q.sensorFilter.set k v }
  | .sensorSpacing k => (inRange 0 65535 n).map fun v => { q with sensorSpacing := q.sensorSpacing.set k v }
  | .corruptLimit =>
    if corruption < n then (inRange 1 15 n).map fun v => { q with corruptLimit := v } else none

/-- SET_PARAM body, 6 bytes: the parameter and the value (R149 check 1). -/
def parseSetParam (b : List Byte) : Option (ParamId × Nat) :=
  if b.length = 6 then (ParamId.ofBytes (natAt b 0) (natAt b 1)).map fun id => (id, (word32At b 2).toNat) else none

/-- GET_PARAM body, 2 bytes (R151). -/
def parseGetParam (b : List Byte) : Option ParamId :=
  if b.length = 2 then ParamId.ofBytes (natAt b 0) (natAt b 1) else none

/-- READ_CAPTURES body: n in 1-6 (R116). -/
def parseReadCaptures (b : List Byte) : Option Nat :=
  if b.length = 1 ∧ 1 ≤ natAt b 0 ∧ natAt b 0 ≤ 6 then some (natAt b 0) else none

/-- SUBSCRIBE body: one byte, a set of sensors (R115). -/
def parseSubscribe (b : List Byte) : Option SensorSet :=
  if b.length = 1 then some (b.getD 0 0) else none

/-- SET_NOTICE_MASK body: two bytes, bit 0 zero (R164, 10.6.5). -/
def parseMask (b : List Byte) : Option Word16 :=
  if b.length = 2 ∧ (word16At b 0).getLsbD 0 = false then some (word16At b 0) else none

/-! ## Records in replies -/

/-- The tag of an entry, present for POSTED entries that have one. -/
def Origin.tag : Origin → Option Word16
  | .posted t => t
  | .template _ _ => none

/-- The template number of an entry of origin TEMPLATE. -/
def Origin.templateNo : Origin → Option TemplateNo
  | .posted _ => none
  | .template n _ => some n

/-- The capture sequence of an entry of origin TEMPLATE. -/
def Origin.captureSeq : Origin → Option Word32
  | .posted _ => none
  | .template _ s => some s

/-- The decision position of a HELD entry. -/
def Stage.decision : Stage → Option Word32
  | .armed => none
  | .held d _ => some d

/-- The default of a HELD entry. -/
def Stage.dflt : Stage → Option Default
  | .armed => none
  | .held _ d => some d

/-- Whether an entry is HELD. -/
def Stage.isHeld : Stage → Bool
  | .armed => false
  | .held _ _ => true

/-- Entry record of 31 bytes (10.6.3). -/
def entryRecord (f : EntryFields) : List Byte :=
  handleBytes f.handle
  ++ [byte f.owner.code,
      byte (flagNat f.report + 2 * flagNat f.origin.tag.isSome + 4 * flagNat f.origin.captureSeq.isSome
        + 8 * flagNat f.stage.isHeld),
      byte f.action.code, byte (f.origin.templateNo.elim 0 (·.val))]
  ++ be32 f.lines ++ be16 f.action.width ++ be32 f.due ++ be16 (f.origin.tag.getD 0)
  ++ be32 (f.origin.captureSeq.getD 0) ++ be32 (f.stage.decision.getD 0)
  ++ [byte (f.stage.dflt.elim 0 Default.code)] ++ be32 f.commitNo

/-- Capture record of 16 bytes (10.6.4). -/
def captureRecord (c : Capture) : List Byte :=
  be32 c.seq ++ [byte (c.sensor.val + (if c.edge = .falling then 128 else 0))]
  ++ be32 c.reading.pos ++ be16 c.reading.epoch ++ [c.reading.frame] ++ be32 c.time

/-- The share byte of a line record (10.6.6). -/
def shareByte (h : Share) : Byte := byte (h.port.code + 4 * flagNat h.lapse + 8 * h.age)

/-- Line record of 13 bytes (10.6.6); `driven` is the driven level. -/
def lineRecord (l : LineNo) (r : LineRec) (driven : Bool) : List Byte :=
  [byte l.val, byte (r.leaseMode.code + 16 * r.shares.length)]
  ++ (List.range 4).map (fun i => (r.shares[i]?).elim 0 shareByte)
  ++ [byte (r.force.code + 4 * flagNat (r.fault == .failed) + 8 * r.engine.code + 32 * flagNat driven),
      byte r.mismatch, r.history]
  ++ be32 r.fireCount

/-- Bytes 1 to 18 of the template body as held (10.6.6). -/
def templateBodyBytes (f : TemplateFields) : List Byte :=
  [byte (f.sensor.val + (if f.edge = .falling then 128 else 0))]
  ++ be32 f.lines ++ [byte f.action.code] ++ be16 f.action.width ++ be32 f.offset
  ++ (match f.verdict with
      | .none => [byte 0] ++ be32 0 ++ [byte 0]
      | .required dist d => [byte 1] ++ be32 dist ++ [byte d.code])

/-- Template record of 23 bytes (10.6.6). -/
def templateRecord (n : TemplateNo) (f : TemplateFields) : List Byte :=
  [byte n.val, byte f.owner.code] ++ templateBodyBytes f
  ++ [byte (flagNat f.report + 2 * flagNat (!f.active))] ++ be16 f.failures

/-- One commit outcome of 8 bytes (10.6.2). -/
def outcomeBytes (o : CommitOutcome) : List Byte :=
  [byte o.reason.code, byte o.slot.val, flagByte o.tag.isSome] ++ be16 (o.tag.getD 0)
  ++ (match o.result with
      | .ok h => byte Status.ok.code :: handleBytes h
      | .error st => [byte st.code, 0, 0])

/-- The presence flags of a notice detail (10.6.5). -/
def Notice.presence (n : Notice) : Nat :=
  flagNat n.handle.isSome + 2 * flagNat n.tag.isSome + 4 * flagNat n.line.isSome + 8 * flagNat n.seq.isSome
  + 16 * flagNat n.template.isSome + 32 * flagNat n.count.isSome + 64 * flagNat n.status.isSome
  + 128 * flagNat n.reason.isSome

/-- The detail field of 18 bytes (10.6.5). -/
def detailBytes : Option Notice → List Byte
  | none => List.replicate 18 0
  | some n =>
    [byte n.kind.code, byte n.presence] ++ n.handle.elim [0, 0] handleBytes ++ be16 (n.tag.getD 0)
    ++ [byte (n.line.elim 0 (·.val))] ++ be32 (n.seq.getD 0) ++ [byte (n.template.elim 0 (·.val))]
    ++ [byte (n.status.elim 0 Status.code), byte (n.reason.getD 0)] ++ be16Nat (n.count.getD 0)
    ++ n.modes.elim [0, 0] fun m => [byte m.1.code, byte m.2.code]

/-- What a cut of one port's records touched (R26). -/
structure CutCounts where
  slotsNamed : Nat
  slotsEmptied : Nat
  entriesNamed : Nat
  entriesRemoved : Nat
  templatesNamed : Nat
  templatesDeleted : Nat
  deriving DecidableEq, Repr

/-- No record touched. -/
def CutCounts.zero : CutCounts := ⟨0, 0, 0, 0, 0, 0⟩

/-- The counts of two cuts together. -/
def CutCounts.add (x y : CutCounts) : CutCounts :=
  ⟨x.slotsNamed + y.slotsNamed, x.slotsEmptied + y.slotsEmptied, x.entriesNamed + y.entriesNamed,
    x.entriesRemoved + y.entriesRemoved, x.templatesNamed + y.templatesNamed,
    x.templatesDeleted + y.templatesDeleted⟩

/-- The six cut counts as 8 bytes (10.6.6). -/
def CutCounts.bytes (c : CutCounts) : List Byte :=
  [byte c.slotsNamed, byte c.slotsEmptied] ++ be16Nat c.entriesNamed ++ be16Nat c.entriesRemoved
  ++ [byte c.templatesNamed, byte c.templatesDeleted]

end Sys2Proof.Machine
end

