-- ==== Sys2Proof/Machine/Flags.lean ====
section
/-! DEFINITION. Judgements: what the part derives from its records without changing them. Check codes (R21, R44, R121),
timers (R3), the position window (R17), the motion state (R12), the engine and driven levels (R98), the alert line
(R161), the conflict check (R53, R54), the orders of the table (R48). -/

set_option autoImplicit false

namespace Sys2Proof.Machine

open Sys2Proof

/-! ## Check codes (R153, log 5) -/

/-- Whether a code last computed over `stored` agrees with fields that now read `current`. Over unchanged fields it
agrees; over changed ones the free value says whether the code misses the disturbance. -/
def codeAgrees {α : Type} [DecidableEq α] (stored current : α) : Bool :=
  decide (stored = current) || Config.codeMisses stored current

/-- The fields that a line record's code covers (section 2.1). -/
def LineRec.covered (r : LineRec) : LineCode where
  leaseMode := r.leaseMode
  holders := r.shares.map fun h => (h.port, h.lapse)
  force := r.force
  fault := r.fault

/-- Whether a line record agrees with its check code. -/
def LineRec.codeOk (r : LineRec) : Bool := codeAgrees r.code r.covered

/-- Whether an entry agrees with its check code. -/
def Entry.codeOk (e : Entry) : Bool := codeAgrees e.code e.fields

/-- Whether a template agrees with its check code. -/
def Template.codeOk (t : Template) : Bool := codeAgrees t.code t.fields

/-- A changed line record takes a new code exactly when a covered field changed (R21). -/
def LineRec.recode (before after : LineRec) : LineRec :=
  if after.covered = before.covered then after else { after with code := after.covered }

/-- An entry whose fields become `f`, with its code computed anew (R44). -/
def Entry.rewrite (e : Entry) (f : EntryFields) : Entry := { e with fields := f, code := f }

/-- A template with fields `f` and its code computed over them (R121). -/
def Template.make (f : TemplateFields) : Template := { fields := f, code := f }

/-! ## Time and position -/

/-- Microseconds since `start` (R3). -/
def elapsed (now start : Word32) : Nat := (now - start).toNat

/-- Whether a timer with this start and duration has expired (R3). -/
def timerDue (now start : Word32) (duration : Nat) : Bool := decide (duration ≤ elapsed now start)

/-- The due distance of `d` from `pos` (section 3.2). -/
def distance (pos d : Word32) : Nat := (d - pos).toNat

/-- The modular distance between two positions (section 3.2). -/
def modularDistance (x y : Word32) : Nat := min (x - y).toNat (y - x).toNat

/-- The judgement of a position against `pos`: none when accepted, else the refusing status (R17). -/
def windowStatus (pos d : Word32) : Option Status :=
  let n := distance pos d
  if 1 ≤ n ∧ n ≤ Config.horizon then none
  else if n = 0 ∨ Config.behindFrom ≤ n then some .tooLate
  else some .outOfRange

/-- The behind distance b (section 1.1). -/
def PositionUnit.behind (u : PositionUnit) : Nat := (u.hw - u.p).toNat

/-- The motion state after a step (R12): `b` is the behind distance after the step. -/
def MotionState.afterStep (st : MotionState) (forward : Bool) (b limit : Nat) : MotionState :=
  match st, forward with
  | .stalled, true => if b ≤ limit then .forward else .overrun
  | .stalled, false => if b ≤ limit then .reverse else .overrun
  | .forward, true => .forward
  | .forward, false => if b ≤ limit then .reverse else .overrun
  | .reverse, true => .forward
  | .reverse, false => if b ≤ limit then .reverse else .overrun
  | .overrun, true => if b ≤ limit then .forward else .overrun
  | .overrun, false => .overrun

/-- The motion state after a stall timer expiry (R12, R13). -/
def MotionState.afterStall : MotionState → MotionState
  | .overrun => .overrun
  | .stalled => .stalled
  | .forward => .stalled
  | .reverse => .stalled

/-- Reason codes of MOTION (10.6.5). -/
inductive MotionReason where
  | stalled | moving | overrun | quadError
  deriving DecidableEq, Repr

/-- Reason codes of MOTION (10.6.5). -/
def MotionReason.code : MotionReason → Nat
  | .stalled => 0 | .moving => 1 | .overrun => 2 | .quadError => 3

/-- The MOTION notice that a change of motion state posts, if any (R15). -/
def motionReason (old new : MotionState) : Option MotionReason :=
  if new = .overrun ∧ old ≠ .overrun then some .overrun
  else if new = .stalled ∧ old ≠ .stalled then some .stalled
  else if old = .stalled ∧ (new = .forward ∨ new = .reverse) then some .moving
  else none

/-- Whether a step asks for SAFE: it enters OVERRUN, or it is a backward step with the state OVERRUN (R14). -/
def asksSafe (old new : MotionState) (forward : Bool) : Bool :=
  decide (new = .overrun) && (decide (old ≠ .overrun) || !forward)

/-! ## Levels -/

/-- The engine level (section 5.1). -/
def Engine.level : Engine → Bool
  | .off _ => false
  | .onLatched => true
  | .onPulse _ _ => true
  | .resting _ _ _ => false

/-- The driven level of a line (R98). -/
def LineRec.driven (mode : Mode) (r : LineRec) : Bool :=
  if mode = .safe then false
  else match r.force with
    | .forcedOn => true
    | .forcedOff => false
    | .none => if r.fault = .failed then false else r.engine.level

/-- Whether port `p` holds a share of the line (R23). -/
def LineRec.heldBy (r : LineRec) (p : Port) : Bool := r.shares.any fun h => h.port == p

/-! ## Alert line -/

/-- Whether the kind is in a mask (10.6.5). -/
def inMask (mask : Word16) (k : NoticeKind) : Bool := mask.getLsbD k.code

/-- The alert line judged anew: asserted while a pending kind is in the mask, released through INIT (R161). -/
def NoticeState.judged (mode : Mode) (n : NoticeState) : NoticeState :=
  { n with alert := decide (mode ≠ .init) && n.pendingSet.any fun k => inMask n.mask k.1 }

/-! ## Taking a notice (R159, R160) -/

/-- A kind counted in a pending set kept in ascending kind code (R159). -/
def countKind (k : NoticeKind) : List (NoticeKind × Nat) → List (NoticeKind × Nat)
  | [] => [(k, 1)]
  | (j, n) :: rest =>
    if j = k then (j, satIncAt Config.pendingCeiling n) :: rest
    else if k.code < j.code then (k, 1) :: (j, n) :: rest
    else (j, n) :: countKind k rest

/-- The detail after a notice (R160). -/
def detailAfter (held : Option Notice) (n : Notice) : Option Notice :=
  match held with
  | none => some n
  | some h => if h.kind.priority ≤ n.kind.priority then some n else some h

/-- One port's notices after a notice is taken (R159 to R161). -/
def NoticeState.take (m : Mode) (x : NoticeState) (n : Notice) : NoticeState :=
  { x with pendingSet := countKind n.kind x.pendingSet, detail := detailAfter x.detail n }.judged m

/-! ## Conflict check (R53, R54) -/

/-- The lines on which a proposal with these lines, due and owner conflicts with live entry `e` (R53). -/
def conflictLines (q : TableLimits) (owner : Port) (lines : LineSet) (due : Word32) (e : Entry) : LineSet :=
  if e.fields.owner = owner then 0
  else lineSetOf fun l =>
    hasLine lines l && hasLine e.fields.lines l && decide (q.policy[l] ≠ .merge)
      && decide (modularDistance due e.fields.due < q.guard[l])

/-- The live entries that the proposal conflicts with, in the order given, each with its conflict lines. -/
def conflicts (q : TableLimits) (owner : Port) (lines : LineSet) (due : Word32) (live : List Entry) :
    List (Entry × LineSet) :=
  (live.map fun e => (e, conflictLines q owner lines due e)).filter fun c => decide (c.2 ≠ 0)

/-- The outcome of the conflict check: none is CONFLICT, some list the entries to displace (R54). -/
def conflictOutcome (q : TableLimits) (owner : Port) (found : List (Entry × LineSet)) :
    Option (List (Entry × LineSet)) :=
  if found.any fun c => (linesOf c.2).any fun l => q.policy[l] == .refuseLater then none
  else if found.all fun c => decide (q.rankOf owner < q.rankOf c.1.fields.owner) then some found
  else none

/-! ## Orders of the Timetable (R48) -/

/-- Insert an entry into a list ordered by a distance, after every entry of equal distance. -/
def insertByDistance (dist : Entry → Nat) (e : Entry) : List Entry → List Entry
  | [] => [e]
  | x :: xs => if dist e < dist x then e :: x :: xs else x :: insertByDistance dist e xs

/-- A list of entries ordered by a distance, entries of equal distance in the order they come. -/
def orderByDistance (dist : Entry → Nat) (es : List Entry) : List Entry :=
  es.foldl (fun out e => insertByDistance dist e out) []

/-- The live entries in due order: ascending due distance, equal due in order of admission (R48). -/
def Timetable.dueOrder (t : Timetable) : List Entry :=
  orderByDistance (fun e => distance t.pos e.fields.due) t.live

/-- The HELD list: ascending decision distance, equal decision in order of admission (R48). -/
def Timetable.heldOrder (t : Timetable) : List Entry :=
  orderByDistance (fun e => distance t.pos (e.fields.stage.decision.getD 0))
    (t.live.filter fun e => e.fields.stage.isHeld)

/-- The live entry that stands at an index. -/
def Timetable.entryAt (t : Timetable) (i : Fin 256) : Option Entry := t.live.find? fun e => e.index == i

/-- The live entry that a handle names: its index is live and the generation is that of the index (R46). -/
def Timetable.resolve (t : Timetable) (h : Handle) : Option Entry :=
  if t.generations[h.index] = h.generation then t.entryAt h.index else none

/-- The number of live entries whose stored owner is `p`. -/
def ownedBy (live : List Entry) (p : Port) : Nat := (live.filter fun e => e.fields.owner == p).length

/-- The live counts counted from the table (R71). -/
def recount (live : List Entry) : PerPort Nat :=
  ⟨ownedBy live .A, ownedBy live .B, ownedBy live .C, ownedBy live .D⟩

/-- The number of occupied slots (R66). -/
def Slots.occupied (x : Slots) : Nat := ((List.finRange 4).filter fun i => x.slot[i].isSome).length

/-! ## Capture log (R111) -/

/-- The lag of a sequence behind N (R111). -/
def CaptureLog.lag (g : CaptureLog) (x : Word32) : Nat := (g.next - x).toNat

end Sys2Proof.Machine
end

