-- ==== Sys2Proof/Machine/State.lean ====
section
/-! DEFINITION. The whole state of the FW432 as plain data, the reasons a step could stop, and the state right after
a power-on reset has ended. -/

namespace Sys2Proof.Machine

open Sys2Proof

/-- The state of the part. Pins of the ports stand in the port records, pins of the sensors in the sensors. -/
structure State where
  /-- commands that wait, first in, first out (the model's own field) -/
  pending : List Instr
  /-- the reset in force, if any (R140) -/
  inReset : Option ResetKind
  /-- level of MOTA -/
  pinA : Bool
  /-- level of MOTB -/
  pinB : Bool
  /-- levels of the readback inputs as last observed, bit k for RBKk -/
  pinReadback : BitVec 32
  /-- level of SAFEIN -/
  pinSafeIn : Bool
  /-- device time in microseconds (R2) -/
  now : Word32
  position : PositionUnit
  lineBlock : LineBlock
  line : Vector LineRec 32
  table : Timetable
  slots : PerPort Slots
  sensor : Vector Sensor 8
  log : CaptureLog
  templates : TemplateTable
  control : ModeController
  notices : PerPort NoticeState
  ports : PerPort PortRec
  wires : Wires
  /-- counts the free readback levels used so far (the model's own field, log 9) -/
  freeCount : Nat
  deriving DecidableEq, Repr

/-- Reasons for a step to stop with a fault: none. The spec names no event that stops the part. -/
inductive Fault where
  deriving DecidableEq, Repr

/-- Reasons for a command to have no meaning. -/
inductive Refusal where
  /-- Raised by an arm of exec for a command that has no meaning yet; safe, since the model stops where the part
  goes on. No arm raises it. -/
  | notModelled (mnemonic : String)
  deriving DecidableEq, Repr

/-- The part as a device reset that keeps the parameter set `params` leaves it at its end, before SAFEIN is consulted
(R1, R22, R69, R73, R88, R105, R120, R122, R140, R158, R167): the pins and the queue are given. -/
def State.afterReset (pend : List Instr) (a b : Bool) (readback : BitVec 32) (safeIn : Bool) (sens : Vector Bool 8)
    (selected : PerPort Bool) (params : Params) (kind : ResetKind) (free : Nat) : State where
  pending := pend
  inReset := none
  pinA := a
  pinB := b
  pinReadback := readback
  pinSafeIn := safeIn
  now := 0
  position := PositionUnit.initial a b params
  lineBlock := { mode := .init, historyStart := 0, historyPeriod := params.historyPeriod }
  line := Vector.ofFn fun l => LineRec.initial params.rest[l] params.readback[l]
  table := Timetable.initial params.limits
  slots := PerPort.const (Slots.initial params.commitLead)
  sensor := Vector.ofFn fun k => Sensor.initial sens[k] params.sensorFilter[k]
  log := CaptureLog.initial
  templates := TemplateTable.initial
  control := ModeController.initial params kind
  notices := PerPort.const NoticeState.initial
  ports := PerPort.map PortRec.initial selected
  wires := Wires.empty
  freeCount := free

/-- The part right after a power-on reset has ended: mode INIT, every parameter at its default, every input pin low
and every select released (the pins are a choice, log 7). -/
def State.reset : State :=
  State.afterReset [] false false 0 false (Vector.replicate 8 false) (PerPort.const false) Params.default .power 0

end Sys2Proof.Machine
end

