-- ==== Sys2Proof/Machine/Ops.lean ====
section
/-! DEFINITION. The named operations every command is built from: the accessors of State, notices on their way, events
handed between blocks, mode changes and SAFE causes, the pulse engine, the driven level at the close of an event, cuts,
consultations, corrupt records, admission to the Timetable, and the taking of a port's request. -/

set_option autoImplicit false

namespace Sys2Proof.Machine

open Sys2Proof

/-- What exec and step answer. -/
abbrev Result := Host.Outcome State Fault Refusal

/-! ## Accessors -/

/-- Replace one line record. -/
def State.setLine (s : State) (l : LineNo) (r : LineRec) : State := { s with line := s.line.set l r }

/-- Replace the slots of one port. -/
def State.setSlots (s : State) (p : Port) (x : Slots) : State := { s with slots := s.slots.set p x }

/-- Replace one sensor. -/
def State.setSensor (s : State) (k : SensorNo) (x : Sensor) : State := { s with sensor := s.sensor.set k x }

/-- Replace one template place. -/
def State.setPlace (s : State) (n : TemplateNo) (x : Option Template) : State :=
  { s with templates := { s.templates with place := s.templates.place.set n x } }

/-- Replace one port record. -/
def State.setPort (s : State) (p : Port) (x : PortRec) : State := { s with ports := s.ports.set p x }

/-- Replace one port's notices. -/
def State.setNotices (s : State) (p : Port) (x : NoticeState) : State := { s with notices := s.notices.set p x }

/-- Replace the events on their way. -/
def State.setWires (s : State) (w : Wires) : State := { s with wires := w }

/-- Replace the Timetable. -/
def State.setTable (s : State) (t : Timetable) : State := { s with table := t }

/-- Replace the Position Unit. -/
def State.setPosition (s : State) (u : PositionUnit) : State := { s with position := u }

/-- Replace the Mode Controller. -/
def State.setControl (s : State) (c : ModeController) : State := { s with control := c }

/-- Replace the Capture Log. -/
def State.setLog (s : State) (g : CaptureLog) : State := { s with log := g }

/-- Replace the Line Block beside its records. -/
def State.setLineBlock (s : State) (b : LineBlock) : State := { s with lineBlock := b }

/-- An event that the part takes only while no reset is in force (R140). -/
def whenRunning (f : State → State) (s : State) : Result := .next (if s.inReset.isSome then s else f s)

/-- Change a line record, its code computed anew exactly when a covered field changes (R21). -/
def State.changeLine (s : State) (l : LineNo) (f : LineRec → LineRec) : State :=
  s.setLine l (LineRec.recode s.line[l] (f s.line[l]))

/-- Change every line of a set. -/
def State.changeLines (s : State) (x : LineSet) (f : LineRec → LineRec) : State :=
  (linesOf x).foldl (fun s l => s.changeLine l f) s

/-! ## Notices on their way (R159) -/

/-- Hand a notice for port `p` to the Notice Unit. -/
def State.notify (s : State) (src : NoticeSource) (p : Port) (n : Notice) : State :=
  s.setWires { s.wires with
    notices := s.wires.notices.set p (s.wires.notices.get p ++ [{ source := src, own := false, notice := n }]) }

/-- Hand one copy of a notice for every port to the Notice Unit. -/
def State.notifyAll (s : State) (src : NoticeSource) (n : Notice) : State :=
  Port.all.foldl (fun s p => s.notify src p n) s

/-! ## Events handed on -/

/-- Hand a step or a preset to the Timetable and to each port's slots (R11, R20). -/
def State.handMotion (s : State) (e : MotionEvent) : State :=
  s.setWires { s.wires with
    timetableMotion := s.wires.timetableMotion ++ [e]
    slotsMotion := s.wires.slotsMotion.map fun q => q ++ [e] }

/-- Whether a preset waits among steps and presets. -/
def presetWaits (q : List MotionEvent) : Bool :=
  q.any fun e => match e with
    | .preset _ => true
    | .step _ _ _ => false

/-- Whether a step stands first among the steps and presets at the Timetable and waits there: the step before it asked for SAFE,
and that request has not been taken at the Mode Controller with its emptying here (R49, log 10). -/
def State.stepHeld (s : State) : Bool :=
  s.table.askedSafe && decide (s.wires.overrunAsks.head? ≠ some (some 0))
    && match s.wires.timetableMotion with
      | .step _ _ _ :: _ => true
      | _ => false

/-- The SAFE requests that a step taken at the Timetable leaves: the settled one of the step before it goes. -/
def State.asksAfterStep (s : State) : List (Option Nat) :=
  if s.table.askedSafe then s.wires.overrunAsks.tail else s.wires.overrunAsks

/-- Whether a step that has yet to be taken at the Timetable asked for SAFE, and that request has been taken at the Mode
Controller with its emptying here (R49, log 10). -/
def State.settledStepWaits (s : State) : Bool := s.asksAfterStep.contains (some 0)

/-- Hand a mismatch to the Mode Controller (R154). -/
def State.handFinding (s : State) (f : Finding) : State :=
  s.setWires { s.wires with findings := s.wires.findings ++ [f] }

/-- Whether a mode change is STOP or SAFE entry, the teardowns of the Timetable (R67). -/
def ModeChange.teardown (c : ModeChange) : Bool :=
  decide (c.new = .safe) || (decide (c.old = .run) && decide (c.new = .config))

/-- Hand a mode change to the blocks. The Line Block's part of STOP and SAFE entry waits for the Timetable (R141). -/
def State.handChange (s : State) (old new : Mode) : State :=
  let c : ModeChange := { old := old, new := new, ready := true }
  let m := BlockMessage.change c
  s.setWires { s.wires with
    toTimetable := s.wires.toTimetable ++ [m]
    toSlots := s.wires.toSlots.map fun q => q ++ [m]
    toTemplates := s.wires.toTemplates ++ [m]
    toLog := s.wires.toLog ++ [m]
    toLines := s.wires.toLines ++ [.change { c with ready := !c.teardown }] }

/-- Take the first parameter write that `f` accepts out of a block's messages. A write acts as the Mode Controller accepts it
(R4, R33, R38, R83, R96, R109), whatever mode changes and other writes wait at the block (log 32). -/
def takeWrite {α : Type} (f : ParamWrite → Option α) : List BlockMessage → Option (α × List BlockMessage)
  | [] => none
  | .change c :: rest => (takeWrite f rest).map fun r => (r.1, .change c :: r.2)
  | .write w :: rest =>
    match f w with
    | some v => some (v, rest)
    | none => (takeWrite f rest).map fun r => (r.1, .write w :: r.2)

/-- Take a mode change that meets `test` from the front of a block's messages. A write handed on before it is taken
before it (R141). -/
def takeChange (test : ModeChange → Bool) : List BlockMessage → Option (ModeChange × List BlockMessage)
  | .change c :: rest => if test c then some (c, rest) else none
  | .write _ :: _ => none
  | [] => none

/-- Mark the first change that is not ready as handed on (R141: the Timetable hands on the Line Block's part). -/
def releaseChange : List BlockMessage → List BlockMessage
  | [] => []
  | .change c :: rest =>
    if c.ready then .change c :: releaseChange rest else .change { c with ready := true } :: rest
  | .write w :: rest => .write w :: releaseChange rest

/-- The writes of the Timetable's parameters at the front of its messages taken, in their order (R149, log 41). -/
def leadingLimits (v : TableLimits) : List BlockMessage → TableLimits × List BlockMessage
  | .write (.tableLimits u) :: rest => leadingLimits u rest
  | q => (v, q)

/-- The Timetable takes the writes of its parameters that no mode change stands before (log 41). -/
def State.takeLimits (s : State) : State :=
  let r := leadingLimits s.table.limits s.wires.toTimetable
  { s with table := { s.table with limits := r.1 }, wires := { s.wires with toTimetable := r.2 } }

/-- Whether a message is a mode change. -/
def BlockMessage.isChange : BlockMessage → Bool
  | .change _ => true
  | .write _ => false

/-- How many mode changes wait in a block's messages. -/
def changesWaiting (q : List BlockMessage) : Nat := (q.filter BlockMessage.isChange).length

/-! ## Mode changes and SAFE causes (R142, R145, R146, R148) -/

/-- The reason code of MODE_CHANGED for the kind of reset (10.6.5). -/
def ResetKind.reason : ResetKind → Nat
  | .power => 0 | .pin => 1 | .soft => 2

/-- The reason code of MODE_CHANGED for a SAFE cause (10.6.5). -/
def SafeCause.reason : SafeCause → Nat
  | .safeIn => 6 | .overrun => 7 | .corruptLimit => 8 | .recordCorrupt => 9

/-- Reason codes of MODE_CHANGED for the supervisor's changes (10.6.5). -/
def startReason : Nat := 3
/-- Reason code STOP. -/
def stopReason : Nat := 4
/-- Reason code RESUME. -/
def resumeReason : Nat := 5

/-- MODE_CHANGED from one mode to another (R148). -/
def modeNotice (old new : Mode) (reason : Nat) (line : Option LineNo) : Notice :=
  { Notice.bare .modeChanged with modes := some (old, new), reason := some reason, line := line }

/-- A mode change taken at the Mode Controller: the mode, MODE_CHANGED to every port, the handing on (R141, R148). -/
def State.changeMode (s : State) (new : Mode) (reason : Nat) (line : Option LineNo) : State :=
  let s1 := s.setControl { s.control with mode := new }
  (s1.notifyAll .modeController (modeNotice s.control.mode new reason line)).handChange s.control.mode new

/-- The end of INIT (R142): the mode change carries the kind of reset. Every port receives its MODE_CHANGED as INIT ends, so
its alert line is judged with it and its first READ_NOTICES finds it (R158, log 42). -/
def State.endInit (s : State) (new : Mode) : State :=
  let n := modeNotice s.control.mode new s.control.resetKind.reason none
  let s1 := s.setControl { s.control with mode := new }
  ({ s1 with notices := s.notices.map fun x => NoticeState.take new x n } : State).handChange s.control.mode new

/-- A cause set with one more cause. -/
def CauseSet.add (c : CauseSet) : SafeCause → CauseSet
  | .safeIn => { c with safeIn := true }
  | .overrun => { c with overrun := true }
  | .corruptLimit => { c with corruptLimit := true }
  | .recordCorrupt => { c with recordCorrupt := true }

/-- A SAFE cause taken at the Mode Controller (R142, R145, R146); `line` for RECORD_CORRUPT. -/
def State.takeCause (s : State) (cause : SafeCause) (line : Option LineNo) : State :=
  match s.control.mode with
  | .safe => s.setControl { s.control with later := s.control.later.add cause }
  | .init => (s.setControl { s.control with firstCause := some cause }).endInit .safe
  | .config => (s.setControl { s.control with firstCause := some cause }).changeMode .safe cause.reason line
  | .run => (s.setControl { s.control with firstCause := some cause }).changeMode .safe cause.reason line

/-! ## Pulse engine (sections 5.2 to 5.4) -/

/-- A duration in microseconds as a device time difference. -/
def micros (n : Nat) : Word32 := BitVec.ofNat 32 n

/-- The later of two ends, judged by the time remaining to each (R92). -/
def laterEnd (now x y : Word32) : Word32 := if (y - now).toNat ≤ (x - now).toNat then x else y

/-- The pending start after a PULSE in RESTING (R93). -/
def PendingStart.pulsed (w : Word16) : PendingStart → PendingStart
  | .none => .pulse w
  | .latch => .latch
  | .pulse v => if v.toNat ≤ w.toNat then .pulse w else .pulse v

/-- An engine taking an action (R90 to R93). -/
def Engine.deliver (now : Word32) (rest : Nat) (a : LineAction) : Engine → Engine
  | .off none =>
    match a with
    | .on => .onLatched
    | .off => .off none
    | .pulse w => .onPulse (now + w.setWidth 32) false
  | .off (some g) =>
    match a with
    | .on => .resting g.fall g.endAt .latch
    | .off => .off (some g)
    | .pulse w => .resting g.fall g.endAt (.pulse w)
  | .onLatched =>
    match a with
    | .on => .onLatched
    | .off => if rest = 0 then .off none else .resting now (now + micros rest) .none
    | .pulse w => .onPulse (now + w.setWidth 32) true
  | .onPulse e latch =>
    match a with
    | .on => .onPulse e true
    | .off => .onPulse e false
    | .pulse w => .onPulse (laterEnd now e (now + w.setWidth 32)) latch
  | .resting f rt pend =>
    match a with
    | .on => .resting f rt .latch
    | .off => .resting f rt .none
    | .pulse w => .resting f rt (pend.pulsed w)

/-- The outcome of a delivery, by the engine after it (R89). -/
def Engine.outcome : Engine → LineOutcome
  | .resting _ _ .none => .applied
  | .resting _ _ .latch => .delayed
  | .resting _ _ (.pulse _) => .delayed
  | .off _ => .applied
  | .onLatched => .applied
  | .onPulse _ _ => .applied

/-- An engine set to OFF with no rest, with the guard R97 gives. -/
def Engine.setOff (now : Word32) (rest : Nat) : Engine → Engine
  | .off g => .off g
  | .onLatched => .off (if rest = 0 then none else some { fall := now, endAt := now + micros rest })
  | .onPulse _ _ => .off (if rest = 0 then none else some { fall := now, endAt := now + micros rest })
  | .resting f rt _ => .off (some { fall := f, endAt := rt })

/-- An engine at its pulse end (R94). -/
def Engine.atPulseEnd (now : Word32) (rest : Nat) : Engine → Engine
  | .onPulse _ true => .onLatched
  | .onPulse _ false => if rest = 0 then .off none else .resting now (now + micros rest) .none
  | .off g => .off g
  | .onLatched => .onLatched
  | .resting f rt q => .resting f rt q

/-- An engine at its rest end (R94). -/
def Engine.atRestEnd (now : Word32) : Engine → Engine
  | .resting _ _ .none => .off none
  | .resting _ _ .latch => .onLatched
  | .resting _ _ (.pulse w) => .onPulse (now + w.setWidth 32) false
  | .off g => .off g
  | .onLatched => .onLatched
  | .onPulse e l => .onPulse e l

/-- Whether the engine's pulse end is due. -/
def Engine.pulseDue (now : Word32) : Engine → Bool
  | .onPulse e _ => e == now
  | .off _ => false
  | .onLatched => false
  | .resting _ _ _ => false

/-- Whether the engine's rest end is due. -/
def Engine.restDue (now : Word32) : Engine → Bool
  | .resting _ rt _ => rt == now
  | .off _ => false
  | .onLatched => false
  | .onPulse _ _ => false

/-- Whether the engine's rest guard is due. -/
def Engine.guardDue (now : Word32) : Engine → Bool
  | .off (some g) => g.endAt == now
  | .off none => false
  | .onLatched => false
  | .onPulse _ _ => false
  | .resting _ _ _ => false

/-- An engine whose rest guard has expired (R97). -/
def Engine.dropGuard : Engine → Engine
  | .off _ => .off none
  | .onLatched => .onLatched
  | .onPulse e l => .onPulse e l
  | .resting f rt q => .resting f rt q

/-- Change the engine of one line. -/
def State.changeEngine (s : State) (l : LineNo) (f : Nat → Engine → Engine) : State :=
  s.setLine l { s.line[l] with engine := f s.line[l].rest s.line[l].engine }

/-! ## The driven level at the close of an event (R36, R99) -/

/-- The driven level of line `l` (R98). -/
def State.driven (s : State) (l : LineNo) : Bool := LineRec.driven s.lineBlock.mode s.line[l]

/-- Whether a settle check may run: CONFIG and RUN (R36). -/
def settleMode : Mode → Bool
  | .init => false | .config => true | .run => true | .safe => false

/-- The record of line `l` at the close of an event that began in `before`: a change of the driven level starts a settle
check on a line whose READBACK is on, in place of a pending one (R36, R99). -/
def closedLine (before after : State) (l : LineNo) : LineRec :=
  let r := after.line[l]
  if before.driven l ≠ after.driven l ∧ r.readback = true ∧ settleMode after.lineBlock.mode = true then
    { r with settle := some { start := after.now, duration := after.control.params.settle } }
  else r

/-- The close of an event at the Line Block that began in `before` (R99). -/
def closeLines (before after : State) : State := { after with line := Vector.ofFn fun l => closedLine before after l }

/-! ## Cuts (R26) -/

/-- Take the lines of `x` out of a line set that names one of them; none where nothing is left. -/
def cutSet (x lines : LineSet) : Option LineSet :=
  if lines &&& x = 0 then some lines
  else if lineDiff lines x = 0 then none else some (lineDiff lines x)

/-- A gather slot after a cut (R86). -/
def cutSlot (x : LineSet) (o : Option SlotContent) : Option SlotContent :=
  o.bind fun c => (cutSet x c.lines).map fun ls => { c with lines := ls }

/-- A port's slots after a cut (R86). -/
def Slots.cut (x : LineSet) (b : Slots) : Slots :=
  let slot := b.slot.map (cutSlot x)
  { b with slot := slot, age := b.age.filter fun i => slot[i].isSome }

/-- A port's slots with every slot EMPTY and the age list empty (R85, R87). -/
def Slots.cleared (b : Slots) : Slots := { b with slot := Vector.replicate 4 none, age := [] }

/-- An entry of port `p` after a cut, none where it is removed (R70). An entry that names no line of `x` is untouched. -/
def cutEntry (p : Port) (x : LineSet) (e : Entry) : Option Entry :=
  if e.fields.owner ≠ p ∨ e.fields.lines &&& x = 0 then some e
  else (cutSet x e.fields.lines).map fun ls => e.rewrite { e.fields with lines := ls }

/-- A template place after a cut for port `p` (R128). -/
def cutPlace (p : Port) (x : LineSet) (o : Option Template) : Option Template :=
  o.bind fun t =>
    if t.fields.owner ≠ p ∨ t.fields.lines &&& x = 0 then some t
    else (cutSet x t.fields.lines).map fun ls => Template.make { t.fields with lines := ls }

/-- The six counts of a cut of `x` for port `p`, taken from the state before it (R26). -/
def cutCounts (s : State) (p : Port) (x : LineSet) : CutCounts :=
  let slots := (s.slots.get p).slot.toList.filterMap id
  let entries := s.table.live.filter fun e => e.fields.owner == p
  let templates := (s.templates.place.toList.filterMap id).filter fun t => t.fields.owner == p
  let named (ls : LineSet) : Bool := decide (ls &&& x ≠ 0)
  let gone (ls : LineSet) : Bool := named ls && (cutSet x ls).isNone
  { slotsNamed := (slots.filter fun c => named c.lines).length
    slotsEmptied := (slots.filter fun c => gone c.lines).length
    entriesNamed := (entries.filter fun e => named e.fields.lines).length
    entriesRemoved := (entries.filter fun e => gone e.fields.lines).length
    templatesNamed := (templates.filter fun t => named t.fields.lines).length
    templatesDeleted := (templates.filter fun t => gone t.fields.lines).length }

/-- A cut of line set `x` for port `p`, one event at the slots, the Timetable and the Template Table (R26). -/
def State.cut (s : State) (p : Port) (x : LineSet) : State :=
  let removed := (cutCounts s p x).entriesRemoved
  { s with
    slots := s.slots.set p (Slots.cut x (s.slots.get p))
    table := { s.table with
      live := s.table.live.filterMap (cutEntry p x)
      liveCount := s.table.liveCount.set p (s.table.liveCount.get p - removed) }
    templates := { s.templates with place := s.templates.place.map (cutPlace p x) } }

/-- A cut of one line set for several ports. -/
def State.cutAll (s : State) (ps : List Port) (x : LineSet) : State := ps.foldl (fun s p => s.cut p x) s

/-! ## Consulting the Line Block (R23, R153) -/

/-- A line record cleared to FREE and OK, with its code computed anew (R43). -/
def LineRec.cleared (r : LineRec) : LineRec :=
  let c := { r with leaseMode := .free, shares := [], fault := .ok }
  { c with code := c.covered }

/-- The clearing of a corrupt line record: the record, the cut of the line for all four ports, the finding (R43, R154). -/
def State.clearLine (s : State) (l : LineNo) : State :=
  (closeLines s ((s.setLine l s.line[l].cleared).cutAll Port.all (singleLine l))).handFinding (.line l)

/-- The verification of one line record at a consultation (R153). -/
def State.verifyLine (s : State) (l : LineNo) : State := if s.line[l].codeOk then s else s.clearLine l

/-- The consultation about every line of a set, in ascending order (R153, log 19). -/
def State.consult (s : State) (x : LineSet) : State := (linesOf x).foldl State.verifyLine s

/-- The lowest line of a set that is not leased to port `p` (R23). -/
def State.firstUnleased (s : State) (p : Port) (x : LineSet) : Option LineNo :=
  (linesOf x).find? fun l => !(s.line[l].heldBy p)

/-- The lowest line of a set that is failed (R23). -/
def State.firstFailed (s : State) (x : LineSet) : Option LineNo :=
  (linesOf x).find? fun l => s.line[l].fault == .failed

/-! ## Entries leaving the table (section 3.9) -/

/-- An entry leaves the table: its index is freed and its owner's live count decrements. -/
def State.removeEntry (s : State) (e : Entry) : State :=
  s.setTable { s.table with
    live := s.table.live.filter fun x => x.index ≠ e.index
    liveCount := s.table.liveCount.set e.fields.owner (s.table.liveCount.get e.fields.owner - 1) }

/-- A corrupt entry is removed, every live count counted from the table as it then stands, and the finding handed
on (R71, R154). -/
def State.removeCorrupt (s : State) (e : Entry) : State :=
  let live := s.table.live.filter fun x => x.index ≠ e.index
  (s.setTable { s.table with live := live, liveCount := recount live }).handFinding (.entry e.index)

/-- An entry rewritten in its place. -/
def State.putEntry (s : State) (e : Entry) : State :=
  s.setTable { s.table with live := s.table.live.map fun x => if x.index = e.index then e else x }

/-- The notice fields that name an entry: handle, tag, template number and capture sequence (section 9.1). -/
def entryNotice (k : NoticeKind) (f : EntryFields) : Notice :=
  { Notice.bare k with handle := some f.handle, tag := f.origin.tag, seq := f.origin.captureSeq,
                       template := f.origin.templateNo }

/-- The lowest line of a set. -/
def lowestLine (x : LineSet) : Option LineNo := (linesOf x).head?

/-- A displaced entry leaves the table and its owner receives DISPLACED (R55); `x` are the lines of the conflict. -/
def State.displace (s : State) (c : Entry × LineSet) : State :=
  (s.removeEntry c.1).notify .timetable c.1.fields.owner
    { entryNotice .displaced c.1.fields with line := lowestLine c.2 }

/-! ## Admission (R50 to R52) -/

/-- A proposed entry (R50, R79, R130). -/
structure Proposal where
  owner : Port
  origin : Origin
  lines : LineSet
  action : LineAction
  due : Word32
  report : Bool
  stage : Stage
  deriving DecidableEq, Repr

/-- The positions of a proposal judged (R50 check 3). -/
def Proposal.windowStatus (n : Proposal) (pos : Word32) : Option Status :=
  match Machine.windowStatus pos n.due with
  | some st => some st
  | none =>
    match n.stage with
    | .armed => none
    | .held d _ =>
      match Machine.windowStatus pos d with
      | some st => some st
      | none => if distance pos d < distance pos n.due then none else some .outOfRange

/-- The lowest free index (R45). -/
def Timetable.freeIndex (t : Timetable) : Option (Fin 256) :=
  (List.finRange 256).find? fun i => !(t.live.any fun e => e.index == i)

/-- The fields an admitted proposal takes at an index (R45, R47, R52). -/
def Proposal.fields (n : Proposal) (t : Timetable) (i : Fin 256) : EntryFields :=
  { handle := { index := i, generation := t.generations[i] + 1 }
    owner := n.owner, origin := n.origin, lines := n.lines, action := n.action, due := n.due, report := n.report
    stage := n.stage, commitNo := t.commitCounter }

/-- The Timetable with a proposal placed at index `i`: generation, commit counter, live count, code (R45, R47, R52). -/
def Timetable.place (t : Timetable) (n : Proposal) (i : Fin 256) : Timetable :=
  let f := n.fields t i
  { t with
    live := t.live ++ [{ index := i, fields := f, code := f }]
    generations := t.generations.set i (t.generations[i] + 1)
    commitCounter := t.commitCounter + 1
    liveCount := t.liveCount.set n.owner (t.liveCount.get n.owner + 1) }

/-- What an admission answers its caller: the handle and how many entries were displaced, or the refusing status. -/
inductive Admitted where
  | yes (h : Handle) (displaced : Nat)
  | no (st : Status)
  deriving DecidableEq, Repr

/-- Checks 3 to 5 of R50 in a state whose leases have passed: the window, the quota, the capacity. -/
def State.admissionStatus (s : State) (n : Proposal) : Option Status :=
  match n.windowStatus s.table.pos with
  | some st => some st
  | none =>
    if s.table.limits.quota.get n.owner ≤ s.table.liveCount.get n.owner then some .quotaExceeded
    else if Config.tableCapacity ≤ s.table.live.length then some .tableFull
    else none

/-- The placing of a proposal that passed every check: displacements first, then the lowest free index (R52). -/
def State.placeProposal (s : State) (n : Proposal) (displaced : List (Entry × LineSet)) : State × Admitted :=
  let s1 := displaced.foldl State.displace s
  match s1.table.freeIndex with
  | none => (s, .no .tableFull)
  | some i =>
    (s1.setTable (s1.table.place n i), .yes (n.fields s1.table i).handle displaced.length)

/-- The admission of a proposed entry, one event at the Timetable (R50). -/
def State.propose (s : State) (n : Proposal) : State × Admitted :=
  if s.table.mode ≠ .run then (s, .no .wrongMode)
  else
    let s1 := s.consult n.lines
    if (s1.firstUnleased n.owner n.lines).isSome then (s1, .no .notLeased)
    else match s1.admissionStatus n with
      | some st => (s1, .no st)
      | none =>
        match conflictOutcome s1.table.limits n.owner
            (conflicts s1.table.limits n.owner n.lines n.due s1.table.live) with
        | none => (s1, .no .conflict)
        | some out => s1.placeProposal n out

/-! ## Requests at their owner blocks (R171) -/

/-- What an owner block returns for a request. -/
structure Reply where
  status : Status
  body : List Byte
  deriving DecidableEq, Repr

/-- Status OK with a body. -/
def Reply.ok (body : List Byte) : Reply := { status := .ok, body }

/-- A refusal with an empty body. -/
def Reply.refuse (st : Status) : Reply := { status := st, body := [] }

/-- The request of port `p` that its owner block takes next: of kind `k`, handed on and not taken, no reset in force. -/
def State.request (s : State) (p : Port) (k : ReqKind) : Option Work :=
  match s.inReset, (s.ports.get p).work with
  | none, some w => if w.kind = k ∧ w.phase = .waiting then some w else none
  | _, _ => none

/-- Mark the notices for port `p` beyond the first `n` as posted by the event of its own request (R165). -/
def State.markOwn (s : State) (p : Port) (n : Nat) : State :=
  let q := s.wires.notices.get p
  s.setWires { s.wires with
    notices := s.wires.notices.set p (q.take n ++ (q.drop n).map fun x => { x with own := true }) }

/-- Record how far the request of port `p` has come. -/
def State.setPhase (s : State) (p : Port) (w : Work) (ph : WorkPhase) : State :=
  s.setPort p { s.ports.get p with work := some { w with phase := ph } }

/-- A request taken whole at its owner block by `f`, which gets the body; its reply is held for the port (R171). -/
def serve (k : ReqKind) (p : Port) (f : List Byte → State → State × Reply) (s : State) : Result :=
  match s.request p k with
  | none => .next s
  | some w =>
    let r := f w.body s
    .next ((r.1.markOwn p (s.wires.notices.get p).length).setPhase p w (.done r.2.status r.2.body))

/-- A request whose handler only reads: the reply is made from the state as it stands. -/
def reading (f : List Byte → State → Reply) (body : List Byte) (s : State) : State × Reply := (s, f body s)

end Sys2Proof.Machine
end

