-- ==== Sys2Proof/Machine/Motion.lean ====
section
/-! DEFINITION. The Position Unit (chapter 1): motion inputs, steps, its timers, the writes of its parameters, and its
two requests. -/

set_option autoImplicit false

namespace Sys2Proof.Machine

open Sys2Proof

/-! ## Steps (R9 to R15) -/

/-- P, epoch and HW after a step (R9, R10). -/
def PositionUnit.moved (u : PositionUnit) : Bool → PositionUnit
  | true =>
    { u with
      p := u.p + 1
      epoch := if u.p = 0xFFFFFFFF#32 then u.epoch + 1 else u.epoch
      hw := if u.behind = 0 then u.p + 1 else u.hw }
  | false =>
    { u with
      p := u.p - 1
      epoch := if u.p = 0 then u.epoch - 1 else u.epoch }

/-- The Position Unit after a step: position, accumulator, stall timer, motion state (R9, R10, R12). -/
def PositionUnit.stepped (u : PositionUnit) (now : Word32) (limit : Nat) (forward : Bool) : PositionUnit :=
  let v := u.moved forward
  { v with
    acc := if forward then u.acc + 1 else u.acc - 1
    stallStart := some now
    motion := u.motion.afterStep forward v.behind limit }

/-- Post the MOTION notice of an occasion to every port (R15). -/
def State.notifyMotion (s : State) (r : Option MotionReason) : State :=
  match r with
  | none => s
  | some m => s.notifyAll .positionUnit { Notice.bare .motion with reason := some m.code }

/-- A step event: taken at the Position Unit and handed on, with its notice and its SAFE request (R9 to R15). -/
def State.stepEvent (s : State) (forward : Bool) : State :=
  let u := s.position.stepped s.now s.control.params.reverseLimit forward
  let asks := asksSafe s.position.motion u.motion forward
  let s1 := (s.setPosition u).handMotion (.step forward u.p asks)
  let s2 := s1.notifyMotion (motionReason s.position.motion u.motion)
  if asks then s2.setWires { s2.wires with overrunAsks := s2.wires.overrunAsks ++ [none] } else s2

/-- A quadrature error (R6). -/
def State.quadratureError (s : State) : State :=
  (s.setPosition { s.position with quadErrors := satInc s.position.quadErrors }).notifyMotion (some .quadError)

/-! ## Motion inputs (R5, R7) -/

/-- What an observed pair is, against the reference pair (R5). -/
inductive Transition where
  | none | forward | backward | error
  deriving DecidableEq, Repr

/-- The place of a pair in the forward sequence 00, 10, 11, 01 (section 1.3.1). -/
def quadPlace (a b : Bool) : Nat :=
  match a, b with
  | false, false => 0
  | true, false => 1
  | true, true => 2
  | false, true => 3

/-- The transition from the reference pair to the observed pair (R5). -/
def quadTransition (refA refB a b : Bool) : Transition :=
  match (quadPlace a b + 4 - quadPlace refA refB) % 4 with
  | 0 => .none
  | 1 => .forward
  | 2 => .error
  | _ => .backward

/-- The decoder observes the levels of MOTA and MOTB (R5, R7, R8). -/
def State.decode (s : State) (a b : Bool) : State :=
  match s.position.source with
  | .quad =>
    let t := s.setPosition { s.position with refA := a, refB := b }
    match quadTransition s.position.refA s.position.refB a b with
    | .none => t
    | .forward => t.stepEvent true
    | .backward => t.stepEvent false
    | .error => t.quadratureError
  | .stepDir =>
    let t := s.setPosition { s.position with refA := a, refB := b }
    if a && !s.position.refA then t.stepEvent b else t
  | .internal => s

/-- The motion pins take new levels; the decoder observes them unless a reset is in force (R1). -/
def State.motionPins (s : State) (a b : Bool) : State :=
  let t := { s with pinA := a, pinB := b }
  if s.inReset.isSome then t else t.decode a b

/-- MOTION_INPUT_CHANGE (R5): the pair changes to (a, b). -/
def execMotionInputChange (a b : Bool) (s : State) : Result := .next (s.motionPins a b)

/-- STEP_INPUT_RISE (R7): MOTA rises with MOTB at level b. -/
def execStepInputRise (b : Bool) (s : State) : Result := .next (s.motionPins true b)

/-! ## Timers -/

/-- Whether an optional timer has expired. -/
def timerRunDue (now : Word32) (start : Option Word32) (duration : Nat) : Bool :=
  match start with
  | none => false
  | some t => timerDue now t duration

/-- INTERNAL_RATE_EXPIRY (R8): one forward step, and the timer restarts. -/
def execInternalRateExpiry : State → Result := whenRunning fun s =>
  if timerRunDue s.now s.position.rateStart s.position.rate then
    (s.setPosition { s.position with rateStart := some s.now }).stepEvent true
  else s

/-- The stall timer's expiry taken (R13, R15). -/
def State.stallExpiry (s : State) : State :=
  let m := s.position.motion.afterStall
  (s.setPosition { s.position with motion := m, stallStart := none }).notifyMotion
    (motionReason s.position.motion m)

/-- Whether the stall timer has expired against the STALL_TIME in force (R13). -/
def State.stallDue (s : State) : Bool :=
  timerRunDue s.now s.position.stallStart (s.position.stallTime * Config.usPerMs)

/-- STALL_TIMER_EXPIRY (R13). -/
def execStallTimerExpiry : State → Result := whenRunning fun s => if s.stallDue then s.stallExpiry else s

/-- The largest speed magnitude (R16). -/
def speedLimit : Int := 32767

/-- An accumulator value saturated to the speed range (R16). -/
def clampSpeed (z : Int) : Int := max (-speedLimit) (min speedLimit z)

/-- SPEED_WINDOW_EXPIRY (R16). -/
def execSpeedWindowExpiry : State → Result := whenRunning fun s =>
  if timerDue s.now s.position.windowStart (s.position.window * Config.usPerMs) then
    s.setPosition { s.position with speed := clampSpeed s.position.acc, acc := 0, windowStart := s.now }
  else s

/-! ## Writes of its parameters (R18) -/

/-- The Position Unit with a message queue in place of its own. -/
def State.setToPosition (s : State) (q : List BlockMessage) : State := s.setWires { s.wires with toPosition := q }

/-- WRITE_MOTION_SOURCE (R4). -/
def execWriteMotionSource : State → Result := whenRunning fun s =>
  match takeWrite (fun w => match w with | .motionSource v => some v | _ => none) s.wires.toPosition with
  | none => s
  | some (v, q) =>
    (s.setToPosition q).setPosition
      { s.position with
        source := v, refA := s.pinA, refB := s.pinB
        rateStart := if v = .internal then some s.now else none }

/-- WRITE_INTERNAL_RATE (R8). -/
def execWriteInternalRate : State → Result := whenRunning fun s =>
  match takeWrite (fun w => match w with | .internalRate v => some v | _ => none) s.wires.toPosition with
  | none => s
  | some (v, q) =>
    (s.setToPosition q).setPosition
      { s.position with
        rate := v
        rateStart := if s.position.source = .internal then some s.now else s.position.rateStart }

/-- WRITE_STALL_TIME (R13): an expiry already due against the new value is taken at once. -/
def execWriteStallTime : State → Result := whenRunning fun s =>
  match takeWrite (fun w => match w with | .stallTime v => some v | _ => none) s.wires.toPosition with
  | none => s
  | some (v, q) =>
    let t := (s.setToPosition q).setPosition { s.position with stallTime := v }
    if t.stallDue then t.stallExpiry else t

/-- WRITE_SPEED_WINDOW (R16). -/
def execWriteSpeedWindow : State → Result := whenRunning fun s =>
  match takeWrite (fun w => match w with | .speedWindow v => some v | _ => none) s.wires.toPosition with
  | none => s
  | some (v, q) =>
    (s.setToPosition q).setPosition { s.position with window := v, acc := 0, windowStart := s.now }

/-! ## Requests -/

/-- The 20-byte reply of READ_POSITION (R19). -/
def positionBytes (s : State) : List Byte :=
  let u := s.position
  be32 u.p ++ be16 u.epoch ++ [u.frame] ++ be32 u.hw ++ be16Int u.speed ++ [byte u.motion.code]
  ++ be16 u.quadErrors ++ be32 s.now

/-- READ_POSITION at the Position Unit (R19). -/
def readPositionRequest : List Byte → State → State × Reply := reading fun body s =>
  if body = [] then Reply.ok (positionBytes s) else Reply.refuse .badField

/-- READ_POSITION (R19). -/
def execReadPosition (p : Port) : State → Result := serve .readPosition p readPositionRequest

/-- PRESET_POSITION at the Position Unit (R20). -/
def presetPositionRequest (body : List Byte) (s : State) : State × Reply :=
  if s.control.mode ≠ .config then (s, Reply.refuse .wrongMode)
  else if body.length ≠ 4 then (s, Reply.refuse .badField)
  else
    let v := word32At body 0
    let u := { s.position with p := v, hw := v, frame := s.position.frame + 1 }
    ((s.setPosition u).handMotion (.preset v), Reply.ok (be32 v ++ [u.frame]))

/-- PRESET_POSITION (R20), port A's. -/
def execPresetPosition : State → Result := serve .presetPosition .A presetPositionRequest

end Sys2Proof.Machine
end

