-- ==== Sys2Proof/Machine/Lines.lean ====
section
/-! DEFINITION. The Line Block (chapter 2; chapter 5, sections 5.3 and 5.4): leases, forces, faults, the history period,
settle checks, the expiries of the pulse engines, and the writes taken there. -/

set_option autoImplicit false

namespace Sys2Proof.Machine

open Sys2Proof

/-! ## Leases (R21, R24, R25, R28, R29) -/

/-- Whether requests on leases, forces and faults are taken: CONFIG and RUN. -/
def leaseMode (m : Mode) : Bool :=
  match m with
  | .init => false
  | .config => true
  | .run => true
  | .safe => false

/-- The lapse flag of port `p`'s share set; the ages and the order stay (R25). -/
def setLapse (p : Port) (lapse : Bool) (hs : List Share) : List Share :=
  hs.map fun h => if h.port = p then { h with lapse := lapse } else h

/-- A share newly granted (R25). -/
def newShare (p : Port) (lapse : Bool) : Share := { port := p, lapse := lapse, age := 0 }

/-- The lease mode that a request asks for. -/
def LeaseBody.mode (b : LeaseBody) : LeaseMode := if b.exclusive then .exclusive else .shared

/-- One line judged for a lease: its record when granted, none when refused (R25). -/
def leaseLine (p : Port) (b : LeaseBody) (r : LineRec) : Option LineRec :=
  match r.leaseMode with
  | .free => some { r with leaseMode := b.mode, shares := [newShare p b.lapse] }
  | .exclusive =>
    if r.heldBy p then some { r with leaseMode := b.mode, shares := setLapse p b.lapse r.shares } else none
  | .shared =>
    if r.heldBy p then
      if r.shares.length = 1 then some { r with leaseMode := b.mode, shares := setLapse p b.lapse r.shares }
      else if b.exclusive then none
      else some { r with shares := setLapse p b.lapse r.shares }
    else if b.exclusive then none
    else some { r with shares := r.shares ++ [newShare p b.lapse] }

/-- LEASE_LINES at the Line Block: every line of the set is granted, or none changes (R24). -/
def leaseRequest (p : Port) (body : List Byte) (s : State) : State × Reply :=
  if leaseMode s.lineBlock.mode then
    match parseLease body with
    | none => (s, Reply.refuse .badField)
    | some b =>
      match (linesOf b.lines).find? fun l => (leaseLine p b s.line[l]).isNone with
      | some l => (s, { status := .heldByOther, body := [byte l.val] })
      | none => (s.changeLines b.lines fun r => (leaseLine p b r).getD r, Reply.ok [])
  else (s, Reply.refuse .wrongMode)

/-- LEASE_LINES (R24). -/
def execLeaseLines (p : Port) : State → Result := serve .leaseLines p (leaseRequest p)

/-- A line record without port `p`'s share; without its last share it is FREE (R21). -/
def LineRec.dropShare (p : Port) (r : LineRec) : LineRec :=
  let hs := r.shares.filter fun h => h.port ≠ p
  { r with shares := hs, leaseMode := if hs = [] then .free else r.leaseMode }

/-- RELEASE_LINES at the Line Block (R28). -/
def releaseRequest (p : Port) (body : List Byte) (s : State) : State × Reply :=
  if leaseMode s.lineBlock.mode then
    match parseLines body with
    | none => (s, Reply.refuse .badField)
    | some x =>
      match s.firstUnleased p x with
      | some l => (s, { status := .notLeased, body := [byte l.val] })
      | none => ((s.changeLines x (LineRec.dropShare p)).cut p x, Reply.ok (cutCounts s p x).bytes)
  else (s, Reply.refuse .wrongMode)

/-- RELEASE_LINES (R28). -/
def execReleaseLines (p : Port) : State → Result := serve .releaseLines p (releaseRequest p)

/-- The lines of `x` of which port `p` holds a share. -/
def State.heldIn (s : State) (x : LineSet) (p : Port) : LineSet :=
  lineSetOf fun l => hasLine x l && s.line[l].heldBy p

/-- The records that a cut touched: slots, entries and templates together (R29). -/
def CutCounts.touched (c : CutCounts) : Nat := c.slotsNamed + c.entriesNamed + c.templatesNamed

/-- The revoke's part for one port: the cut of the lines `x` that it held and its LEASE_REVOKED (R29). -/
def State.revokePort (s : State) (p : Port) (x : LineSet) : State :=
  if x = 0 then s
  else (s.cut p x).notify .lineBlock p
    { Notice.bare .leaseRevoked with line := lowestLine x, count := some (cutCounts s p x).touched }

/-- A line record with every share dropped (R29). -/
def LineRec.unleased (r : LineRec) : LineRec := { r with leaseMode := .free, shares := [] }

/-- The shares dropped and every former holder cut out of the lines it held (R29). -/
def State.revoke (s : State) (x : LineSet) : State :=
  Port.all.foldl (fun t p => t.revokePort p (s.heldIn x p)) (s.changeLines x LineRec.unleased)

/-- The cut counts of a revoke, summed over the former holders (R29). -/
def revokeCounts (s : State) (x : LineSet) : CutCounts :=
  (Port.all.map fun p => cutCounts s p (s.heldIn x p)).foldl CutCounts.add CutCounts.zero

/-- REVOKE_LINES at the Line Block (R29). -/
def revokeRequest (body : List Byte) (s : State) : State × Reply :=
  if leaseMode s.lineBlock.mode then
    match parseLines body with
    | none => (s, Reply.refuse .badField)
    | some x =>
      (s.revoke x,
        Reply.ok (byte ((linesOf x).filter fun l => s.line[l].shares ≠ []).length :: (revokeCounts s x).bytes))
  else (s, Reply.refuse .wrongMode)

/-- REVOKE_LINES (R29), port A's. -/
def execRevokeLines : State → Result := serve .revokeLines .A revokeRequest

/-! ## Forces and faults (R34, R35, R40, R41) -/

/-- Every line of a set takes a force, and the driven levels are judged at the close (R34, R35). -/
def State.forceLines (s : State) (x : LineSet) (f : Force) : State :=
  closeLines s (s.changeLines x fun r => { r with force := f })

/-- FORCE_LINES at the Line Block (R34). -/
def forceRequest (body : List Byte) (s : State) : State × Reply :=
  if leaseMode s.lineBlock.mode then
    match parseForce body with
    | none => (s, Reply.refuse .badField)
    | some (x, on) => (s.forceLines x (if on then .forcedOn else .forcedOff), Reply.ok [])
  else (s, Reply.refuse .wrongMode)

/-- FORCE_LINES (R34), port A's. -/
def execForceLines : State → Result := serve .forceLines .A forceRequest

/-- UNFORCE_LINES at the Line Block (R35). -/
def unforceRequest (body : List Byte) (s : State) : State × Reply :=
  if leaseMode s.lineBlock.mode then
    match parseLines body with
    | none => (s, Reply.refuse .badField)
    | some x => (s.forceLines x .none, Reply.ok [])
  else (s, Reply.refuse .wrongMode)

/-- UNFORCE_LINES (R35), port A's. -/
def execUnforceLines : State → Result := serve .unforceLines .A unforceRequest

/-- CLEAR_LINE_FAULT at the Line Block (R40). -/
def clearFaultRequest (body : List Byte) (s : State) : State × Reply :=
  if leaseMode s.lineBlock.mode then
    match parseLines body with
    | none => (s, Reply.refuse .badField)
    | some x => (closeLines s (s.changeLines x fun r => { r with fault := .ok, mismatch := 0 }), Reply.ok [])
  else (s, Reply.refuse .wrongMode)

/-- CLEAR_LINE_FAULT (R40), port A's. -/
def execClearLineFault : State → Result := serve .clearLineFault .A clearFaultRequest

/-- READ_LINES at the Line Block (R41), in any mode in which the port takes requests. -/
def readLinesRequest : List Byte → State → State × Reply := reading fun body s =>
  match parseReadLines body with
  | none => Reply.refuse .badField
  | some x =>
    Reply.ok (byte (linesOf x).length :: (linesOf x).flatMap fun l => lineRecord l s.line[l] (s.driven l))

/-- READ_LINES (R41). -/
def execReadLines (p : Port) : State → Result := serve .readLines p readLinesRequest

/-! ## The history period (R30, R31) -/

/-- A line record after the shift and the aging of a boundary (R30). -/
def LineRec.aged (r : LineRec) : LineRec :=
  { r with history := r.history <<< 1, shares := r.shares.map fun h => { h with age := satIncAt Config.ageCeiling h.age } }

/-- Whether a slot, live entry or template of port `p` names line `l` (R31). -/
def State.portNames (s : State) (p : Port) (l : LineNo) : Bool :=
  (s.slots.get p).slot.toList.any (fun o => o.any fun c => hasLine c.lines l)
  || s.table.live.any (fun e => e.fields.owner == p && hasLine e.fields.lines l)
  || s.templates.place.toList.any (fun o => o.any fun t => t.fields.owner == p && hasLine t.fields.lines l)

/-- Whether a share of line `l` lapses at a boundary (R31). -/
def State.lapses (s : State) (l : LineNo) (h : Share) : Bool :=
  h.lapse && h.age == Config.ageCeiling && s.line[l].history == 0 && !s.portNames h.port l

/-- The lapse test of one share: a lapsing share is dropped, its line cut for its port, LEASE_LAPSED posted (R31). -/
def State.testLapse (s : State) (x : LineNo × Share) : State :=
  if s.lapses x.1 x.2 then
    ((s.changeLine x.1 (LineRec.dropShare x.2.port)).cut x.2.port (singleLine x.1)).notify .lineBlock x.2.port
      { Notice.bare .leaseLapsed with line := some x.1 }
  else s

/-- Every share of every line, in ascending line number and list order. -/
def State.allShares (s : State) : List (LineNo × Share) :=
  allLines.flatMap fun l => s.line[l].shares.map fun h => (l, h)

/-- A history period boundary: shift, aging, lapses, and the boundary handed to the Mode Controller (R30). -/
def State.boundary (s : State) : State :=
  let t := { s with line := s.line.map LineRec.aged }
  let u := t.allShares.foldl State.testLapse t
  (u.setLineBlock { u.lineBlock with historyStart := u.now }).setWires
    { u.wires with boundaries := u.wires.boundaries + 1 }

/-- HISTORY_PERIOD_BOUNDARY (R30). -/
def execHistoryPeriodBoundary : State → Result := whenRunning fun s =>
  if timerDue s.now s.lineBlock.historyStart s.lineBlock.historyPeriod.micros then s.boundary else s

/-! ## Settle checks (R37, R39) -/

/-- The ports told of a failure: every holder, and port A (R39). -/
def LineRec.failureAudience (r : LineRec) : List Port := Port.all.filter fun p => r.heldBy p || p == .A

/-- A line becomes FAILED: its engine OFF with no rest, the line cut for every holder, LINE_FAILED posted (R39). -/
def State.failLine (s : State) (l : LineNo) : State :=
  let r := s.line[l]
  let t := (s.changeLine l fun r => { r with fault := .failed, engine := r.engine.setOff s.now r.rest }).cutAll
    (r.shares.map Share.port) (singleLine l)
  r.failureAudience.foldl (fun t p => t.notify .lineBlock p { Notice.bare .lineFailed with line := some l }) t

/-- The mismatch count after a completed check (R37). -/
def mismatchAfter (agrees : Bool) (n : Nat) : Nat := if agrees then 0 else satIncAt Config.mismatchCeiling n

/-- Whether a completed check makes the line FAILED; `n` is the mismatch count after it (R37). -/
def LineRec.failsAt (r : LineRec) (agrees : Bool) (n threshold : Nat) : Bool :=
  !agrees && r.force == .none && r.fault == .ok && decide (threshold ≤ n)

/-- A settle check of line `l` completes with readback level `rb` (R37); the driven level is judged at its close. -/
def State.completeSettle (s : State) (l : LineNo) (rb : Bool) : State :=
  let r := s.line[l]
  let agrees := rb == s.driven l
  let n := mismatchAfter agrees r.mismatch
  let t := s.setLine l { r with mismatch := n, settle := none }
  let u := if r.failsAt agrees n s.control.params.faultThreshold then t.failLine l else t
  { closeLines s u with pinReadback := if rb then s.pinReadback ||| singleLine l else s.pinReadback &&& ~~~singleLine l }

/-- Whether a settle check of the line has expired. -/
def LineRec.settleDue (now : Word32) (r : LineRec) : Bool :=
  match r.settle with
  | none => false
  | some c => timerDue now c.start c.duration

/-- SETTLE_EXPIRY (R37). -/
def execSettleExpiry (l : LineNo) (rb : Bool) : State → Result := whenRunning fun s =>
  if s.line[l].settleDue s.now then s.completeSettle l rb else s

/-! ## Engine expiries (R94, R97) -/

/-- PULSE_END (R94). -/
def execPulseEnd (l : LineNo) : State → Result := whenRunning fun s =>
  if s.line[l].engine.pulseDue s.now then closeLines s (s.changeEngine l (Engine.atPulseEnd s.now)) else s

/-- REST_END (R94). -/
def execRestEnd (l : LineNo) : State → Result := whenRunning fun s =>
  if s.line[l].engine.restDue s.now then closeLines s (s.changeEngine l fun _ => Engine.atRestEnd s.now) else s

/-- REST_GUARD_END (R97). -/
def execRestGuardEnd (l : LineNo) : State → Result := whenRunning fun s =>
  if s.line[l].engine.guardDue s.now then s.changeEngine l fun _ => Engine.dropGuard else s

/-! ## Writes taken at the Line Block (R33, R38, R96) -/

/-- The Line Block with a message queue in place of its own. -/
def State.setToLines (s : State) (q : List BlockMessage) : State := s.setWires { s.wires with toLines := q }

/-- WRITE_HISTORY_PERIOD (R33): the timer restarts with the new duration. -/
def execWriteHistoryPeriod : State → Result := whenRunning fun s =>
  match takeWrite (fun w => match w with | .historyPeriod v => some v | _ => none) s.wires.toLines with
  | none => s
  | some (v, q) => (s.setToLines q).setLineBlock { s.lineBlock with historyStart := s.now, historyPeriod := v }

/-- An engine's guard re-timed by a write of REST: from the fall that started it, expiring at once where that moment has passed
(R96). A rest runs as the write is taken only where the STOP or SAFE entry that the Mode Controller took before it has not been
taken here; it is re-timed in the same way, ending now where that moment has passed, so that the setting to OFF leaves the guard
of the new REST (R97, log 32). -/
def Engine.retimed (now : Word32) (rest : Nat) : Engine → Engine
  | .off (some g) =>
    if rest ≤ elapsed now g.fall then .off none else .off (some { g with endAt := g.fall + micros rest })
  | .off none => .off none
  | .onLatched => .onLatched
  | .onPulse e l => .onPulse e l
  | .resting f _ q => .resting f (if rest ≤ elapsed now f then now else f + micros rest) q

/-- WRITE_REST (R96). -/
def execWriteRest (l : LineNo) : State → Result := whenRunning fun s =>
  match takeWrite (fun w => match w with | .rest k v => if k = l then some v else none | _ => none) s.wires.toLines with
  | none => s
  | some (v, q) =>
    (s.setToLines q).setLine l { s.line[l] with rest := v, engine := s.line[l].engine.retimed s.now v }

/-- WRITE_READBACK (R38): turned off, it abandons the pending check. -/
def execWriteReadback (l : LineNo) : State → Result := whenRunning fun s =>
  match takeWrite (fun w => match w with | .readback k v => if k = l then some v else none | _ => none)
      s.wires.toLines with
  | none => s
  | some (v, q) =>
    (s.setToLines q).setLine l
      { s.line[l] with readback := v, settle := if v then s.line[l].settle else none }

end Sys2Proof.Machine
end

