-- ==== Sys2Proof/Machine/Notices.lean ====
section
/-! DEFINITION. The Notice Unit (chapter 9): notices taken, READ_NOTICES, SET_NOTICE_MASK, and its part of RESET_PORT. -/

set_option autoImplicit false

namespace Sys2Proof.Machine

open Sys2Proof

/-! ## Taking a notice (R159, R160) -/

/-- Whether notice `x` may pass ahead of `e`, which was handed on before it: the notices of one block keep their order,
and MODE_CHANGED comes before the ENTRY_ABANDONED of the same teardown (R159, log 14). -/
def PostedNotice.letsPass (e x : PostedNotice) : Bool :=
  decide (e.source ≠ x.source) && !(e.notice.kind == .modeChanged && x.notice.kind == .entryAbandoned)

/-- NOTICE_TAKEN (R159): the notice at place `i` of those on their way to port `p`. -/
def execNoticeTaken (p : Port) (i : Nat) : State → Result := whenRunning fun s =>
  let q := s.wires.notices.get p
  match q[i]? with
  | none => s
  | some x =>
    if (q.take i).all fun e => e.letsPass x then
      (s.setWires { s.wires with notices := s.wires.notices.set p (q.eraseIdx i) }).setNotices p
        ((s.notices.get p).take s.control.mode x.notice)
    else s

/-! ## Requests (R162, R164) -/

/-- The reply body of READ_NOTICES (10.6.5). -/
def noticesReply (x : NoticeState) : List Byte :=
  byte x.pendingSet.length :: (x.pendingSet.flatMap fun k => [byte k.1.code, byte k.2]) ++ detailBytes x.detail

/-- One port's notices emptied (R162). -/
def NoticeState.emptied (m : Mode) (x : NoticeState) : NoticeState :=
  { x with pendingSet := [], detail := none }.judged m

/-- READ_NOTICES at the Notice Unit (R162). -/
def readNoticesRequest (p : Port) (body : List Byte) (s : State) : State × Reply :=
  if body = [] then
    (s.setNotices p ((s.notices.get p).emptied s.control.mode), Reply.ok (noticesReply (s.notices.get p)))
  else (s, Reply.refuse .badField)

/-- READ_NOTICES (R162). -/
def execReadNotices (p : Port) : State → Result := serve .readNotices p (readNoticesRequest p)

/-- One port's notices with a new mask (R161, R164). -/
def NoticeState.remasked (m : Mode) (mask : Word16) (x : NoticeState) : NoticeState := { x with mask := mask }.judged m

/-- SET_NOTICE_MASK at the Notice Unit (R164). -/
def setMaskRequest (p : Port) (body : List Byte) (s : State) : State × Reply :=
  match parseMask body with
  | none => (s, Reply.refuse .badField)
  | some mask =>
    (s.setNotices p ((s.notices.get p).remasked s.control.mode mask), Reply.ok (be16 (s.notices.get p).mask))

/-- SET_NOTICE_MASK (R164). -/
def execSetNoticeMask (p : Port) : State → Result := serve .setNoticeMask p (setMaskRequest p)

/-- One port's notices after its RESET_PORT (R166). -/
def NoticeState.portReset (m : Mode) (x : NoticeState) : NoticeState :=
  { x with pendingSet := [], detail := none, mask := Config.defaultMask }.judged m

end Sys2Proof.Machine
end

