-- ==== Sys2Proof/Machine/Reset.lean ====
section
/-! DEFINITION. Device resets and the end of INIT (R140, R142, R157 and the reset rule of every chapter), and the SAFEIN
input (R145). -/

set_option autoImplicit false

namespace Sys2Proof.Machine

open Sys2Proof

/-- Every block at its reset values, with the parameter set given; pins and queue stay. -/
def State.restarted (s : State) (params : Params) (kind : ResetKind) : State :=
  State.afterReset s.pending s.pinA s.pinB s.pinReadback s.pinSafeIn (s.sensor.map Sensor.raw)
    (s.ports.map PortRec.selected) params kind s.freeCount

/-- A reset by power or RESETN starts: every parameter returns to its default and the state is held at its reset
values (R140). -/
def State.startReset (s : State) (kind : ResetKind) : State :=
  { s.restarted Params.default kind with inReset := some kind }

/-- The end of a reset: SAFEIN high ends INIT at that moment (R142). -/
def State.consultSafeIn (s : State) : State := if s.pinSafeIn then s.takeCause .safeIn none else s

/-- The rest guard that a soft reset leaves on a line whose engine was at work or guarded (R88). That its fall, from which a
write of REST counts (R96), is the end of the reset is the model's choice (log 38). -/
def Engine.afterSoftReset (rest : Nat) : Engine → Engine
  | .off none => .off none
  | .off (some _) => .off (if rest = 0 then none else some { fall := 0, endAt := micros rest })
  | .onLatched => .off (if rest = 0 then none else some { fall := 0, endAt := micros rest })
  | .onPulse _ _ => .off (if rest = 0 then none else some { fall := 0, endAt := micros rest })
  | .resting _ _ _ => .off (if rest = 0 then none else some { fall := 0, endAt := micros rest })

/-- The soft reset: it keeps the parameter set and ends as soon as it has started (R140, R157). -/
def State.softReset (s : State) : State :=
  let t := s.restarted s.control.params .soft
  State.consultSafeIn
    { t with line := Vector.ofFn fun l =>
        { t.line[l] with engine := s.line[l].engine.afterSoftReset s.control.params.rest[l] } }

/-- POWER_ON_RESET (R140). -/
def execPowerOnReset (s : State) : Result := .next (s.startReset .power)

/-- RESETN_ASSERT (R140): also during INIT, during a soft reset's INIT, and in place of a reset in force. -/
def execResetnAssert (s : State) : Result := .next (s.startReset .pin)

/-- RESET_END (R140): the inputs are read as the reset ends (R1, R105, R142). -/
def execResetEnd (s : State) : Result :=
  match s.inReset with
  | none => .next s
  | some kind => .next (s.restarted s.control.params kind).consultSafeIn

/-- INIT_END (R142). -/
def execInitEnd : State → Result := whenRunning fun s =>
  if s.control.mode = .init then
    (if s.pinSafeIn then s.takeCause .safeIn none else s.endInit .config)
  else s

/-- SAFEIN_ASSERT (R145): a change from deasserted to asserted raises SAFE_IN. -/
def execSafeinAssert (s : State) : Result :=
  if s.pinSafeIn then .next s
  else
    let t := { s with pinSafeIn := true }
    .next (if s.inReset.isSome then t else t.takeCause .safeIn none)

/-- SAFEIN_DEASSERT (R145): it raises no cause. -/
def execSafeinDeassert (s : State) : Result := .next { s with pinSafeIn := false }

end Sys2Proof.Machine
end

