-- ==== Sys2Proof/Machine/Sensors.lean ====
section
/-! DEFINITION. The sensor inputs and the Capture Log (chapter 6). -/

set_option autoImplicit false

namespace Sys2Proof.Machine

open Sys2Proof

/-! ## Filters, selection, spacing (R106 to R109) -/

/-- The position reading at this moment (section 6.1). -/
def State.reading (s : State) : Reading :=
  { pos := s.position.p, epoch := s.position.epoch, frame := s.position.frame }

/-- Whether SENSOR_EDGE selects an edge (R107). -/
def EdgeSelect.selects : EdgeSelect → Edge → Bool
  | .none, _ => false
  | .rising, e => e == .rising
  | .falling, e => e == .falling
  | .both, _ => true

/-- Whether the spacing test refuses an edge with this reading (R108). -/
def spacingRefuses (last : Option (Word32 × BitVec 8)) (spacing : Nat) (r : Reading) : Bool :=
  match last with
  | none => false
  | some x => x.2 == r.frame && decide (modularDistance r.pos x.1 < spacing)

/-- A selected edge tested for spacing: accepted and on its way to the log, or refused (R108, R110). -/
def State.testSpacing (s : State) (k : SensorNo) (e : AcceptedEdge) : State :=
  let x := s.sensor[k]
  if spacingRefuses x.last s.control.params.sensorSpacing[k] e.reading then
    s.setSensor k { x with rejected := satInc x.rejected }
  else
    (s.setSensor k { x with last := some (e.reading.pos, e.reading.frame) }).setWires
      { s.wires with edges := s.wires.edges ++ [e] }

/-- The direction of an edge toward a level (R106). -/
def edgeTo (level : Bool) : Edge := if level then .rising else .falling

/-- The pending change of sensor `k` completes: a filtered edge, selected and tested (R106 to R108). -/
def State.completeFilter (s : State) (k : SensorNo) : State :=
  match s.sensor[k].pend with
  | none => s
  | some c =>
    let level := !s.sensor[k].filtered
    let t := s.setSensor k { s.sensor[k] with filtered := level, pend := none }
    let e : AcceptedEdge := { sensor := k, edge := edgeTo level, reading := c.reading, time := c.start }
    if s.control.params.sensorEdge[k].selects e.edge then t.testSpacing k e else t

/-- Whether the filter timer of the sensor has expired. -/
def Sensor.filterDue (now : Word32) (x : Sensor) : Bool :=
  match x.pend with
  | none => false
  | some c => timerDue now c.start x.filter

/-- The pending change completes if its filter timer has expired. -/
def State.completeIfDue (s : State) (k : SensorNo) : State :=
  if s.sensor[k].filterDue s.now then s.completeFilter k else s

/-- A raw change taken at the sensor input (R106): a departure from the filtered level starts a pending change, in place
of one that a return within the same event has discarded; a return discards it. -/
def State.rawChange (s : State) (k : SensorNo) (level : Bool) : State :=
  let x := { s.sensor[k] with raw := level }
  if level = x.filtered then s.setSensor k { x with pend := none }
  else (s.setSensor k { x with pend := some { start := s.now, reading := s.reading } }).completeIfDue k

/-- SENSOR_RAW_CHANGE (R106). While a reset is in force only the level of the pin moves (R105). -/
def execSensorRawChange (k : SensorNo) (level : Bool) (s : State) : Result :=
  .next (if s.inReset.isSome then s.setSensor k { s.sensor[k] with raw := level } else s.rawChange k level)

/-- SENSOR_FILTER_EXPIRY (R106). -/
def execSensorFilterExpiry (k : SensorNo) : State → Result := whenRunning fun s => s.completeIfDue k

/-- WRITE_SENSOR_FILTER (R109): a pending change that has lasted the new value completes at once. -/
def execWriteSensorFilter (k : SensorNo) : State → Result := whenRunning fun s =>
  match takeWrite (fun w => match w with | .sensorFilter j v => if j = k then some v else none | _ => none)
      s.wires.toLog with
  | none => s
  | some (v, q) =>
    ((s.setWires { s.wires with toLog := q }).setSensor k { s.sensor[k] with filter := v }).completeIfDue k

/-! ## The log (R110 to R114) -/

/-- Oldest records with an empty outstanding set leave (R112). -/
def pruneRecords : List Capture → List Capture
  | [] => []
  | c :: rest => if c.outstanding = PortSet.empty then pruneRecords rest else c :: rest

/-- The closing test of a Capture Log event (R112). -/
def CaptureLog.prune (g : CaptureLog) : CaptureLog := { g with records := pruneRecords g.records }

/-- Port `p`'s lost count for a record removed by overwrite, and CAPTURE_LOST (R113). -/
def State.chargeLost (s : State) (c : Capture) (p : Port) : State :=
  if c.outstanding.get p then
    let n := satInc (s.log.lost.get p)
    (s.setLog { s.log with lost := s.log.lost.set p n }).notify .captureLog p
      { Notice.bare .captureLost with seq := some c.seq, count := some n.toNat }
  else s

/-- The overwrite of an entry: with 64 records held the oldest is removed, with the closing test (R113). An entry that met a read
at a full log removes the oldest that the read has left, with fewer held as well (R118, log 39). -/
def State.overwrite (s : State) : State :=
  match s.log.records with
  | [] => s
  | c :: rest =>
    if s.log.overwriteDue || decide (Config.logCapacity ≤ s.log.records.length) then
      let t := Port.all.foldl (fun t p => t.chargeLost c p) s
      t.setLog ({ t.log with records := rest } : CaptureLog).prune
    else s

/-- The ports whose subscription holds a sensor (R110). -/
def CaptureLog.subscribers (g : CaptureLog) (k : SensorNo) : PortSet := g.subscription.map fun x => x.getLsbD k.val

/-- The record that an accepted edge becomes (R110). -/
def CaptureLog.newRecord (g : CaptureLog) (e : AcceptedEdge) : Capture :=
  { seq := g.next, sensor := e.sensor, edge := e.edge, reading := e.reading, time := e.time,
    outstanding := g.subscribers e.sensor }

/-- A cursor at an entry: one whose lag has reached the bound moves with N (R111). -/
def CaptureLog.cursorAtEntry (g : CaptureLog) (x : Word32) : Word32 :=
  if Config.cursorLagBound ≤ g.lag x then x + 1 else x

/-- The log with one more record at the new end, and the closing test (R110 to R112). -/
def CaptureLog.enter (g : CaptureLog) (e : AcceptedEdge) : CaptureLog :=
  ({ g with
      records := g.records ++ [g.newRecord e]
      next := g.next + 1
      cursor := g.cursor.map g.cursorAtEntry
      overwriteDue := false } : CaptureLog).prune

/-- A capture handed to the Template Table in RUN (R114). -/
def State.handCapture (s : State) (c : Capture) : State :=
  if s.log.mode = .run then
    s.setWires { s.wires with
      handOffs := s.wires.handOffs ++
        [{ seq := c.seq, sensor := c.sensor, edge := c.edge, reading := c.reading, time := c.time }] }
  else s

/-- An accepted edge entered in the log, one event (R110, R113, R114, R118). -/
def State.enterCapture (s : State) (e : AcceptedEdge) : State :=
  let t := s.overwrite
  (t.setLog (t.log.enter e)).handCapture (t.log.newRecord e)

/-- CAPTURE_ENTRY (R110): the edge at place `i` of those on their way is entered. -/
def execCaptureEntry (i : Nat) : State → Result := whenRunning fun s =>
  match s.wires.edges[i]? with
  | none => s
  | some e => (s.setWires { s.wires with edges := s.wires.edges.eraseIdx i }).enterCapture e

/-! ## SUBSCRIBE and READ_CAPTURES (R115 to R117) -/

/-- A record without port `p` in its outstanding set. -/
def Capture.without (p : Port) (c : Capture) : Capture := { c with outstanding := c.outstanding.set p false }

/-- Whether a record of a dropped sensor waits for port `p` (R115). -/
def Capture.droppedBy (p : Port) (dropped : SensorSet) (c : Capture) : Bool :=
  dropped.getLsbD c.sensor.val && c.outstanding.get p

/-- SUBSCRIBE at the Capture Log (R115); the mode that the log holds is not looked at (log 40). -/
def subscribeRequest (p : Port) (body : List Byte) (s : State) : State × Reply :=
  match parseSubscribe body with
  | none => (s, Reply.refuse .badField)
  | some x =>
    let gone := Capture.droppedBy p (s.log.subscription.get p &&& ~~~x)
    (s.setLog ({ s.log with
        subscription := s.log.subscription.set p x
        records := s.log.records.map fun c => if gone c then c.without p else c } : CaptureLog).prune,
      Reply.ok [byte (s.log.records.filter gone).length])

/-- SUBSCRIBE (R115). -/
def execSubscribe (p : Port) : State → Result := serve .subscribe p (subscribeRequest p)

/-- What an examination of records came to: those returned, every record as it leaves it, how many were examined. -/
structure Examined where
  returned : List Capture
  left : List Capture
  count : Nat
  deriving DecidableEq, Repr

/-- Records examined in sequence order until `n` have been returned (R117 step 2). -/
def examine (p : Port) : Nat → List Capture → Examined
  | _, [] => { returned := [], left := [], count := 0 }
  | 0, c :: rest => { returned := [], left := c :: rest, count := 0 }
  | n + 1, c :: rest =>
    if c.outstanding.get p then
      let r := examine p n rest
      { returned := c :: r.returned, left := c.without p :: r.left, count := r.count + 1 }
    else
      let r := examine p (n + 1) rest
      { returned := r.returned, left := c :: r.left, count := r.count + 1 }

/-- The cursor of port `p` not below the oldest held record (R117 step 1). -/
def CaptureLog.raisedCursor (g : CaptureLog) (p : Port) : Word32 :=
  if g.records.length < g.lag (g.cursor.get p) then g.next - BitVec.ofNat 32 g.records.length else g.cursor.get p

/-- How many held records stand below the raised cursor. -/
def CaptureLog.below (g : CaptureLog) (p : Port) : Nat := g.records.length - g.lag (g.raisedCursor p)

/-- The examination of a read of port `p` (R117 step 2). -/
def CaptureLog.examined (g : CaptureLog) (p : Port) (n : Nat) : Examined := examine p n (g.records.drop (g.below p))

/-- The reply body of READ_CAPTURES (R117 steps 4 and 5, 10.6.4). -/
def captureReply (s : State) (p : Port) (x : Examined) : List Byte :=
  [byte x.returned.length, flagByte ((x.left.drop x.count).any fun c => c.outstanding.get p)]
  ++ be16 (s.log.lost.get p) ++ (List.finRange 8).flatMap (fun k => be16 s.sensor[k].rejected)
  ++ x.returned.flatMap captureRecord

/-- The log after a read of port `p` (R117 steps 2, 3, 5 and 6). -/
def CaptureLog.afterRead (g : CaptureLog) (p : Port) (x : Examined) : CaptureLog :=
  ({ g with
      records := g.records.take (g.below p) ++ x.left
      cursor := g.cursor.set p (g.raisedCursor p + BitVec.ofNat 32 x.count)
      lost := g.lost.set p 0 } : CaptureLog).prune

/-- Whether a read of port `p` at a full log returns the oldest record and empties its set, so that it leaves (R118). -/
def CaptureLog.readFreesOldest (g : CaptureLog) (p : Port) (x : Examined) : Bool :=
  match x.returned with
  | [] => false
  | c :: _ => decide (Config.logCapacity ≤ g.records.length) && decide (g.records.head? = some c)
      && decide ((c.without p).outstanding = PortSet.empty)

/-- READ_CAPTURES at the Capture Log (R116, R117) and its meeting with an entry on its way (R118, log 39); the mode that the log
holds is not looked at (log 40). -/
def readCapturesRequest (p : Port) (body : List Byte) (s : State) : State × Reply :=
  match parseReadCaptures body with
  | none => (s, Reply.refuse .badField)
  | some n =>
    let x := s.log.examined p n
    let meets := !s.wires.edges.isEmpty && s.log.readFreesOldest p x
    (s.setLog { s.log.afterRead p x with overwriteDue := s.log.overwriteDue || meets }, Reply.ok (captureReply s p x))

/-- READ_CAPTURES (R117). -/
def execReadCaptures (p : Port) : State → Result := serve .readCaptures p (readCapturesRequest p)

/-- The log after RESET_PORT of port `p` (R119). -/
def CaptureLog.resetPort (g : CaptureLog) (p : Port) : CaptureLog :=
  ({ g with
      subscription := g.subscription.set p 0
      records := g.records.map (Capture.without p)
      cursor := g.cursor.set p g.next
      lost := g.lost.set p 0 } : CaptureLog).prune

end Sys2Proof.Machine
end

