-- ==== Sys2Proof/Machine/Ports.lean ====
section
/-! DEFINITION. The Port Interface (chapter 10): transactions, frames, replies, PORT_STATUS and RESET_PORT; and the
output pins. -/

set_option autoImplicit false

namespace Sys2Proof.Machine

open Sys2Proof

/-! ## Transactions (R167, R168, R173) -/

/-- A fall of PnSEL at a port that takes transactions (R168). -/
def PortRec.opened (r : PortRec) : PortRec :=
  match r.state with
  | .idle => { r with selected := true, state := .receiving, buffer := [] }
  | .working => { r with selected := true, refusing := true, busy := satInc r.busy }
  | .receiving => { r with selected := true }
  | .replyReady => { r with selected := true }
  | .replying => { r with selected := true }

/-- Whether every transaction is refused: a reset is in force, or the mode is INIT (R167). -/
def State.portsClosed (s : State) : Bool := s.inReset.isSome || s.control.mode == .init

/-- SELECT_FALL (R168). -/
def execSelectFall (p : Port) (s : State) : Result :=
  let r := s.ports.get p
  .next (if r.selected then s
    else s.setPort p (if s.portsClosed then { r with selected := true, refusing := true } else r.opened))

/-- A release of PnSEL in a refused transaction: cut work that has completed lets the port go to IDLE (R168, R173). -/
def PortRec.refusedClosed (r : PortRec) : PortRec :=
  let t := { r with selected := false, refusing := false, buffer := [] }
  if r.state = .working ∧ r.work = none then { t with state := .idle, cut := false } else t

/-- A release of PnSEL in a transaction that the port took (R169, R173). -/
def PortRec.closed (r : PortRec) : PortRec :=
  let t := { r with selected := false, buffer := [] }
  match r.state with
  | .idle => t
  | .receiving => { t with state := .idle, framing := satInc r.framing }
  | .working => { t with cut := true, dropped := true }
  | .replyReady => { t with state := .idle, reply := none, dropped := true }
  | .replying => { t with state := .idle, reply := none, dropped := true }

/-- SELECT_RELEASE (R173); the release of port A's select starts the soft reset that RESET_DEVICE armed (R157). -/
def execSelectRelease (p : Port) (s : State) : Result :=
  let r := s.ports.get p
  if r.selected then
    let t := s.setPort p (if r.refusing then r.refusedClosed else r.closed)
    .next (if p = .A ∧ s.control.softArmed = true ∧ s.inReset = none then t.softReset else t)
  else .next s

/-! ## Request frames (R169, R170) -/

/-- Whether a port holds at least one pending kind: the notices-pending flag (R165). -/
def State.noticesPending (s : State) (p : Port) : Bool := (s.notices.get p).pendingSet ≠ []

/-- A reply frame made for port `p` at this moment (R174). -/
def State.makeReply (s : State) (p : Port) (kind seq : Byte) (st : Status) (body : List Byte) : ReplyBuffer :=
  { frame := replyFrame kind seq st (s.noticesPending p) (s.ports.get p).dropped body, sent := 0 }

/-- A frame answered at the Port Interface itself (R170). -/
def State.answerAtPort (s : State) (p : Port) (r : PortRec) (kind seq : Byte) (st : Status) : State :=
  s.setPort p { r with state := .replyReady, reply := some (s.makeReply p kind seq st []) }

/-- The CRC that a frame carries in its last two bytes. -/
def frameCrc (frame : List Byte) : Word16 := word16At frame (frame.length - 2)

/-- Whether the CRC of a frame matches (R170 check 2, R174). -/
def crcMatches (frame : List Byte) : Bool := crc16 (frame.take (frame.length - 2)) == frameCrc frame

/-- The body of a request frame. -/
def frameBody (frame : List Byte) : List Byte := (frame.take (frame.length - 2)).drop 3

/-- A complete frame with a valid length byte judged by checks 2 to 4 of R170; `r` is the port with the frame in its
buffer. -/
def State.judgeFrame (s : State) (p : Port) (r : PortRec) (frame : List Byte) : State :=
  let kind := frame.getD 1 0
  let seq := frame.getD 2 0
  if crcMatches frame then
    match ReqKind.ofCode kind.toNat with
    | none => s.answerAtPort p r kind seq .unknownRequest
    | some k =>
      if k.supervisor = true ∧ p ≠ .A then s.answerAtPort p r kind seq .notPermitted
      else s.setPort p { r with
        state := .working
        work := some { kind := k, seq := seq, body := frameBody frame, since := s.now, phase := .waiting } }
  else s.answerAtPort p { r with crc := satInc r.crc } kind seq .frameError

/-- Bytes taken in RECEIVING; those beyond the end of the frame are not taken (R169). -/
def State.receive (s : State) (p : Port) (r : PortRec) (bytes : List Byte) : State :=
  match r.buffer ++ bytes with
  | [] => s
  | len :: rest =>
    if len.toNat < Config.minRequestBytes ∨ Config.maxRequestBytes < len.toNat then
      s.answerAtPort p { r with buffer := [len], framing := satInc r.framing } 0 0 .frameError
    else
      let frame := (len :: rest).take len.toNat
      let t := { r with buffer := frame }
      if frame.length < len.toNat then s.setPort p t else s.judgeFrame p t frame

/-- Whether the port takes the bytes of a request. -/
def PortRec.receives (r : PortRec) : Bool := r.selected && !r.refusing && r.state == .receiving

/-- REQUEST_FRAME (R170): the master clocks in bytes of a request frame. -/
def execRequestFrame (p : Port) (bytes : List Byte) : State → Result := whenRunning fun s =>
  if (s.ports.get p).receives then s.receive p (s.ports.get p) bytes else s

/-! ## Replies (R171 to R173) -/

/-- Whether a notice that the port's own request posted is still on its way to the port (R165, log 15). -/
def State.ownNoticeWaits (s : State) (p : Port) : Bool := (s.wires.notices.get p).any PostedNotice.own

/-- A port whose cut work has completed: the reply is discarded; with a busy transaction open the port stays WORKING
(R173). -/
def PortRec.discarded (r : PortRec) : PortRec :=
  if r.refusing then { r with work := none } else { r with work := none, state := .idle, cut := false }

/-- The reply of completed work made ready, or discarded where the transaction was cut (R171, R173). -/
def State.completeWork (s : State) (p : Port) (w : Work) (st : Status) (body : List Byte) : State :=
  let r := s.ports.get p
  if r.cut then s.setPort p r.discarded
  else s.setPort p
    { r with state := .replyReady, work := none, reply := some (s.makeReply p (byte w.kind.code) w.seq st body) }

/-- REPLY_READY (R171). -/
def execReplyReady (p : Port) : State → Result := whenRunning fun s =>
  match (s.ports.get p).work with
  | none => s
  | some w =>
    match w.phase with
    | .waiting => s
    | .partly _ _ => s
    | .done st body => if s.ownNoticeWaits p then s else s.completeWork p w st body

/-- REPLY_MARKER_SENT (R172): the marker goes out. -/
def execReplyMarkerSent (p : Port) : State → Result := whenRunning fun s =>
  let r := s.ports.get p
  if r.state = .replyReady then s.setPort p { r with state := .replying } else s

/-- A port that clocks out `n` more bytes of its reply; the last one ends the reply (R172). -/
def PortRec.clockedOut (r : PortRec) (b : ReplyBuffer) (n : Nat) : PortRec :=
  if b.frame.length ≤ b.sent + n then
    { r with state := .idle, reply := none, dropped := if frameDropped b.frame then false else r.dropped }
  else { r with reply := some { b with sent := b.sent + n } }

/-- REPLY_SENT (R172): the master clocks out `n` bytes of the reply. -/
def execReplySent (p : Port) (n : Nat) : State → Result := whenRunning fun s =>
  let r := s.ports.get p
  match r.reply with
  | none => s
  | some b => if r.state = .replying then s.setPort p (r.clockedOut b n) else s

/-! ## PORT_STATUS (R175) -/

/-- The role byte of a port: SUPERVISOR 1 for port A (R175). -/
def roleByte (p : Port) : Byte := flagByte (p == .A)

/-- PORT_STATUS at the Port Interface (R175). -/
def portStatusRequest (p : Port) (body : List Byte) (s : State) : State × Reply :=
  let r := s.ports.get p
  if body = [] then
    (s.setPort p { r with framing := 0, crc := 0, busy := 0 },
      Reply.ok [byte p.code, roleByte p, r.framing, r.crc, r.busy])
  else (s, Reply.refuse .badField)

/-- PORT_STATUS (R175). -/
def execPortStatus (p : Port) : State → Result := serve .portStatus p (portStatusRequest p)

/-! ## RESET_PORT (R176) -/

/-- Whether a place holds a template of port `p`. -/
def placeOf (p : Port) (o : Option Template) : Bool := o.any fun t => t.fields.owner == p

/-- Every template of port `p` deleted (R138, R176 step 1). -/
def State.dropTemplates (s : State) (p : Port) : State :=
  { s with templates := { s.templates with place := s.templates.place.map fun o => if placeOf p o then none else o } }

/-- The number of templates of port `p`. -/
def State.templateCount (s : State) (p : Port) : Nat := (s.templates.place.toList.filter (placeOf p)).length

/-- Every live entry of port `p` removed, its live count 0 (R68, R176 step 3). -/
def State.dropEntries (s : State) (p : Port) : State :=
  s.setTable { s.table with
    live := s.table.live.filter fun e => e.fields.owner ≠ p
    liveCount := s.table.liveCount.set p 0 }

/-- The lines of which port `p` holds a share. -/
def State.linesHeld (s : State) (p : Port) : LineSet := lineSetOf fun l => s.line[l].heldBy p

/-- Port `p`'s share dropped from every line it holds, and the cut of those lines for `p` (R42, R176 step 4). -/
def State.dropShares (s : State) (p : Port) : State :=
  (s.changeLines (s.linesHeld p) (LineRec.dropShare p)).cut p (s.linesHeld p)

/-- Whether the Notice Unit may take its part: no notice of the slots or the Template Table for the port is still on its
way, so that those posted before their parts are cleared with the port's notices (R87, R138, log 16). -/
def State.noticePartMayRun (s : State) (p : Port) : Bool :=
  (s.wires.notices.get p).all fun x => decide (x.source ≠ .slots) && decide (x.source ≠ .templateTable)

/-- The reply body of RESET_PORT (R176). -/
def PortResetCounts.bytes (c : PortResetCounts) : List Byte :=
  [byte c.templates, byte c.slots] ++ be16Nat c.entries ++ [byte c.lines]

/-- The next part of an accepted RESET_PORT after `stage` parts, with the counts so far (R176). -/
def State.portResetPart (s : State) (p : Port) (stage : Nat) (c : PortResetCounts) : State × WorkPhase :=
  match stage with
  | 0 => (s.dropTemplates p, .partly 1 { c with templates := s.templateCount p })
  | 1 => (s.setSlots p (s.slots.get p).cleared, .partly 2 { c with slots := (s.slots.get p).occupied })
  | 2 => (s.dropEntries p, .partly 3 { c with entries := ownedBy s.table.live p })
  | 3 => (s.dropShares p, .partly 4 { c with lines := (linesOf (s.linesHeld p)).length })
  | 4 => (s.setLog (s.log.resetPort p), .partly 5 c)
  | _ =>
    if s.noticePartMayRun p then
      (s.setNotices p ((s.notices.get p).portReset s.control.mode), .done .ok c.bytes)
    else (s, .partly 5 c)

/-- One part of RESET_PORT taken and recorded. -/
def State.advanceReset (s : State) (p : Port) (w : Work) (stage : Nat) (c : PortResetCounts) : State :=
  let r := s.portResetPart p stage c
  r.1.setPhase p w r.2

/-- RESET_PORT (R176): the part of the next block in its order is taken. -/
def execResetPort (p : Port) : State → Result := whenRunning fun s =>
  match (s.ports.get p).work with
  | none => s
  | some w =>
    if w.kind = .resetPort then
      match w.phase with
      | .waiting =>
        if w.body = [] then s.advanceReset p w 0 { templates := 0, slots := 0, entries := 0, lines := 0 }
        else s.setPhase p w (.done .badField [])
      | .partly stage c => s.advanceReset p w stage c
      | .done _ _ => s
    else s

/-! ## Output pins -/

/-- The byte a port sends on PnDO for the next byte the master clocks (R168, R169, R171, R172). -/
def PortRec.nextByte (r : PortRec) : Byte :=
  if r.refusing then 0xEE#8
  else match r.state with
    | .idle => 0
    | .receiving => 0
    | .working => 0
    | .replyReady => 0x7E#8
    | .replying => r.reply.elim 0 fun b => b.frame.getD b.sent 0

/-- OUTk (R98): while a reset is in force every output drives OFF (R88). -/
def State.out (s : State) (k : LineNo) : Bool := s.inReset.isNone && s.driven k

/-- SAFEOUT (section 8.1). -/
def State.safeOut (s : State) : Bool := s.control.mode == .safe

/-- PnALERT asserted (R161). -/
def State.alertAsserted (s : State) (p : Port) : Bool := (s.notices.get p).alert

end Sys2Proof.Machine
end

