-- ==== Sys2Proof/Machine/Clock.lean ====
section
/-! DEFINITION. What the part's own clock does when no command waits (R2, R3, log 2): the event that is due, in a fixed
order, or the passing of one microsecond. -/

set_option autoImplicit false

namespace Sys2Proof.Machine

open Sys2Proof

/-- The command that takes a write (R149); the Timetable takes writes of its limits with its mode changes (log 41). -/
def ParamWrite.command : ParamWrite → Option Instr
  | .motionSource _ => some .writeMotionSource
  | .internalRate _ => some .writeInternalRate
  | .stallTime _ => some .writeStallTime
  | .speedWindow _ => some .writeSpeedWindow
  | .commitLead _ => some (.writeCommitLead .A)
  | .historyPeriod _ => some .writeHistoryPeriod
  | .rest l _ => some (.writeRest l)
  | .readback l _ => some (.writeReadback l)
  | .sensorFilter k _ => some (.writeSensorFilter k)
  | .tableLimits _ => none

/-- The first write among a block's messages, whatever mode changes wait before it (log 32). -/
def firstWrite (q : List BlockMessage) : Option ParamWrite :=
  q.findSome? fun m => match m with
    | .write w => some w
    | .change _ => none

/-- The taking of a write of COMMIT_LEAD that waits at a port's slots. -/
def slotsWrite (s : State) : Option Instr :=
  (Port.all.find? fun p => (firstWrite (s.wires.toSlots.get p)).isSome).map Instr.writeCommitLead

/-- The taking of the first parameter write that waits at a block (log 4). -/
def waitingWrite (s : State) : Option Instr :=
  ((firstWrite s.wires.toPosition).bind ParamWrite.command).or <|
  ((firstWrite s.wires.toLines).bind ParamWrite.command).or <|
  ((firstWrite s.wires.toLog).bind ParamWrite.command).or (slotsWrite s)

/-- A command under a condition. -/
def dueIf (c : Bool) (i : Instr) : Option Instr := if c then some i else none

/-- The timers of the Position Unit, the Line Block and the scrubber (R8, R13, R16, R30, R152). -/
def dueBlockTimer (s : State) : Option Instr :=
  (dueIf (timerRunDue s.now s.position.rateStart s.position.rate) .internalRateExpiry).or <|
  (dueIf (timerRunDue s.now s.position.stallStart (s.position.stallTime * Config.usPerMs)) .stallTimerExpiry).or <|
  (dueIf (timerDue s.now s.position.windowStart (s.position.window * Config.usPerMs)) .speedWindowExpiry).or <|
  (dueIf (timerDue s.now s.lineBlock.historyStart s.lineBlock.historyPeriod.micros) .historyPeriodBoundary).or <|
  dueIf (timerDue s.now s.control.visitStart Config.visitInterval) .scrubVisit

/-- The expiry due on one line (R37, R94, R97). The readback level is a free value (log 9). -/
def dueOnLine (s : State) (l : LineNo) : Option Instr :=
  let r := s.line[l]
  (dueIf (r.engine.pulseDue s.now) (.pulseEnd l)).or <|
  (dueIf (r.engine.restDue s.now) (.restEnd l)).or <|
  (dueIf (r.engine.guardDue s.now) (.restGuardEnd l)).or <|
  dueIf (r.settleDue s.now) (.settleExpiry l (Config.readbackLevel s.freeCount))

/-- The filter timer due on one sensor (R106). -/
def dueOnSensor (s : State) (k : SensorNo) : Option Instr :=
  dueIf (s.sensor[k].filterDue s.now) (.sensorFilterExpiry k)

/-- The command that takes a request of port `p`; a supervisor request is port A's (R170). -/
def ReqKind.command (p : Port) : ReqKind → Instr
  | .readPosition => .readPosition p
  | .presetPosition => .presetPosition
  | .leaseLines => .leaseLines p
  | .releaseLines => .releaseLines p
  | .revokeLines => .revokeLines
  | .forceLines => .forceLines
  | .unforceLines => .unforceLines
  | .readLines => .readLines p
  | .clearLineFault => .clearLineFault
  | .post => .post p
  | .commit => .commit p
  | .discardStaged => .discardStaged p
  | .cancelEntries => .cancelEntries p
  | .amendEntry => .amendEntry p
  | .queryEntry => .queryEntry p
  | .readTableStatus => .readTableStatus p
  | .subscribe => .subscribe p
  | .readCaptures => .readCaptures p
  | .defineTemplate => .defineTemplate p
  | .deleteTemplate => .deleteTemplate p
  | .setTemplateState => .setTemplateState p
  | .verdict => .verdict p
  | .queryTemplate => .queryTemplate p
  | .setParam => .setParam
  | .getParam => .getParam p
  | .start => .start
  | .stop => .stop
  | .resume => .resume
  | .readHealth => .readHealth p
  | .resetDevice => .resetDevice
  | .readNotices => .readNotices p
  | .setNoticeMask => .setNoticeMask p
  | .portStatus => .portStatus p
  | .resetPort => .resetPort p

/-- What brings the reply of port `p` nearer: the taking of its request, of a notice that must come first, or the making
of the reply (R165, R171, R176). -/
def replyProgress (s : State) (p : Port) (w : Work) : Instr :=
  match w.phase with
  | .waiting => w.kind.command p
  | .partly stage _ => if stage = 5 ∧ s.noticePartMayRun p = false then .noticeTaken p 0 else .resetPort p
  | .done _ _ => if s.ownNoticeWaits p then .noticeTaken p 0 else .replyReady p

/-- The reply of port `p` that has reached its limit of 40 µs (R171). -/
def dueAtPort (s : State) (p : Port) : Option Instr :=
  match (s.ports.get p).work with
  | none => none
  | some w => dueIf (timerDue s.now w.since Config.replyBound) (replyProgress s p w)

/-- INIT has lasted as long as it may (R142). -/
def dueInitEnd (s : State) : Option Instr :=
  dueIf (decide (s.control.mode = .init) && decide (Config.initBound ≤ s.now.toNat)) .initEnd

/-- The event that is due now, in the order of log 2; none while a reset is in force. -/
def dueEvent (s : State) : Option Instr :=
  if s.inReset.isSome then none
  else
    (waitingWrite s).or <| (dueInitEnd s).or <| (dueBlockTimer s).or <| (allLines.findSome? (dueOnLine s)).or <|
    ((List.finRange 8).findSome? (dueOnSensor s)).or <| Port.all.findSome? (dueAtPort s)

/-- One microsecond passes; device time stands still while a reset is in force (R2). -/
def State.tick (s : State) : State := if s.inReset.isSome then s else { s with now := s.now + 1 }

end Sys2Proof.Machine
end

