-- ==== Sys2Proof/Machine/Templates.lean ====
section
/-! DEFINITION. The Template Table (chapter 7): capture hand-offs and the requests on templates. -/

set_option autoImplicit false

namespace Sys2Proof.Machine

open Sys2Proof

/-! ## Instantiation (R129 to R132) -/

/-- The due of an instance: the capture's position plus the offset (R130). -/
def TemplateFields.dueFor (f : TemplateFields) (h : HandOff) : Word32 := h.reading.pos + f.offset

/-- The stage of an instance: HELD with its decision position where a verdict is required (R130). -/
def TemplateFields.stageFor (f : TemplateFields) (h : HandOff) : Stage :=
  match f.verdict with
  | .none => .armed
  | .required dist d => .held (f.dueFor h - dist) d

/-- The entry proposed for a template and a capture (R130). -/
def TemplateFields.proposal (f : TemplateFields) (n : TemplateNo) (h : HandOff) : Proposal :=
  { owner := f.owner, origin := .template n h.seq, lines := f.lines, action := f.action, due := f.dueFor h,
    report := f.report, stage := f.stageFor h }

/-- Whether a template acts on a capture (R129). -/
def TemplateFields.acceptsCapture (f : TemplateFields) (h : HandOff) : Bool :=
  f.active && f.sensor == h.sensor && f.edge == h.edge

/-- A template with one more instance failure, its code computed anew (R132). -/
def Template.failed (t : Template) : Template := Template.make { t.fields with failures := satInc t.fields.failures }

/-- A refused instance: the failure counted where the place still holds the template, and INSTANCE_FAILED to its owner
(R132, log 21). `f` are the template's fields at the match. -/
def State.instanceFailed (s : State) (n : TemplateNo) (f : TemplateFields) (seq : Word32) (st : Status) : State :=
  (s.setPlace n (s.templates.place[n].map Template.failed)).notify .templateTable f.owner
    { Notice.bare .instanceFailed with
      template := some n, seq := some seq, status := some st, count := some (satInc f.failures).toNat }

/-- The instance of a matching template proposed to the Timetable (R131, R132). -/
def State.instantiate (s : State) (n : TemplateNo) (f : TemplateFields) (h : HandOff) : State :=
  let r := s.propose (f.proposal n h)
  match r.2 with
  | .yes _ _ => r.1
  | .no st => r.1.instanceFailed n f h.seq st

/-- A corrupt template is deleted and the finding handed on (R139, R154). -/
def State.deleteCorrupt (s : State) (n : TemplateNo) : State := (s.setPlace n none).handFinding (.template n)

/-- One place examined for a capture (R129). Its proposal is made from the template as it stands at this examination, and is judged
before the next place is examined: the model's choice (log 44). -/
def State.examinePlace (h : HandOff) (s : State) (n : TemplateNo) : State :=
  match s.templates.place[n] with
  | none => s
  | some t =>
    if t.fields.acceptsCapture h then
      (if t.codeOk then s.instantiate n t.fields h else s.deleteCorrupt n)
    else s

/-- The 32 places in ascending order. -/
def allPlaces : List TemplateNo := List.finRange 32

/-- CAPTURE_HAND_OFF (R129, R131): the oldest hand-off is taken, each place examined and its proposal judged before the next
place is examined (log 44). -/
def execCaptureHandOff : State → Result := whenRunning fun s =>
  match s.wires.handOffs with
  | [] => s
  | h :: rest => allPlaces.foldl (State.examinePlace h) (s.setWires { s.wires with handOffs := rest })

/-! ## Requests (R123 to R127) -/

/-- A template as defined by port `p` (R124). -/
def TemplateBody.template (b : TemplateBody) (p : Port) : Template :=
  Template.make
    { owner := p, sensor := b.sensor, edge := b.edge, lines := b.lines, action := b.action, offset := b.offset,
      verdict := b.verdict, report := b.report, active := true, failures := 0 }

/-- Whether a place holds a template of a port other than `p`. -/
def heldByOther (p : Port) (o : Option Template) : Bool := o.any fun t => decide (t.fields.owner ≠ p)

/-- DEFINE_TEMPLATE at the Template Table (R123, R124). -/
def defineRequest (p : Port) (body : List Byte) (s : State) : State × Reply :=
  if s.templates.mode ≠ .config ∧ s.templates.mode ≠ .run then (s, Reply.refuse .wrongMode)
  else match parseTemplate body with
    | none => (s, Reply.refuse .badField)
    | some b =>
      if heldByOther p s.templates.place[b.num] then (s, Reply.refuse .heldByOther)
      else
        let t := s.consult b.lines
        match t.firstUnleased p b.lines with
        | some l => (t, { status := .notLeased, body := [byte l.val] })
        | none =>
          match t.firstFailed b.lines with
          | some l => (t, { status := .lineFailed, body := [byte l.val] })
          | none =>
            (t.setPlace b.num (some (b.template p)),
              Reply.ok [byte b.num.val, flagByte t.templates.place[b.num].isSome])

/-- DEFINE_TEMPLATE (R124). -/
def execDefineTemplate (p : Port) : State → Result := serve .defineTemplate p (defineRequest p)

/-- DELETE_TEMPLATE at the Template Table (R125); the mode that the table holds is not looked at (log 40). -/
def deleteRequest (p : Port) (body : List Byte) (s : State) : State × Reply :=
  match parseTemplateNo body with
  | none => (s, Reply.refuse .badField)
  | some n =>
    match s.templates.place[n] with
    | none => (s, Reply.refuse .noSuchTemplate)
    | some t =>
      if t.fields.owner ≠ p then (s, Reply.refuse .heldByOther) else (s.setPlace n none, Reply.ok [])

/-- DELETE_TEMPLATE (R125). -/
def execDeleteTemplate (p : Port) : State → Result := serve .deleteTemplate p (deleteRequest p)

/-- SET_TEMPLATE_STATE at the Template Table: the fields, then the mode, then the place and its owner (R126). For SUSPENDED the
mode that the table holds is not looked at (log 40). -/
def templateStateRequest (p : Port) (body : List Byte) (s : State) : State × Reply :=
  match parseTemplateState body with
  | none => (s, Reply.refuse .badField)
  | some (n, active) =>
    if active = true ∧ s.templates.mode ≠ .config ∧ s.templates.mode ≠ .run then (s, Reply.refuse .wrongMode)
    else match s.templates.place[n] with
      | none => (s, Reply.refuse .noSuchTemplate)
      | some t =>
        if t.fields.owner ≠ p then (s, Reply.refuse .heldByOther)
        else (s.setPlace n (some (Template.make { t.fields with active := active })),
          Reply.ok [flagByte (!t.fields.active)])

/-- SET_TEMPLATE_STATE (R126). -/
def execSetTemplateState (p : Port) : State → Result := serve .setTemplateState p (templateStateRequest p)

/-- QUERY_TEMPLATE at the Template Table (R127). -/
def queryTemplateRequest : List Byte → State → State × Reply := reading fun body s =>
  match parseTemplateNo body with
  | none => Reply.refuse .badField
  | some n =>
    match s.templates.place[n] with
    | none => Reply.refuse .noSuchTemplate
    | some t => Reply.ok (templateRecord n t.fields)

/-- QUERY_TEMPLATE (R127). -/
def execQueryTemplate (p : Port) : State → Result := serve .queryTemplate p queryTemplateRequest

end Sys2Proof.Machine
end

