-- ==== Sys2Proof/Machine/Integrity.lean ====
section
/-! DEFINITION. Integrity checking (chapter 8, section 8.5): the scrubber, the findings at the Mode Controller, the decay
of the corruption count. -/

set_option autoImplicit false

namespace Sys2Proof.Machine

open Sys2Proof

/-! ## The scrubber (R152) -/

/-- A visit to a timetable index (R71, R152). -/
def State.visitEntry (s : State) (i : Fin 256) : State :=
  match s.table.entryAt i with
  | none => s
  | some e => if e.codeOk then s else s.removeCorrupt e

/-- A visit to a template place (R139, R152). -/
def State.visitPlace (s : State) (n : TemplateNo) : State :=
  match s.templates.place[n] with
  | none => s
  | some t => if t.codeOk then s else s.deleteCorrupt n

/-- A visit to the record that a scrubber position names (R152). -/
def State.visit (s : State) (pos : Nat) : State :=
  if pos < 256 then s.visitEntry (Fin.ofNat 256 pos)
  else if pos < 288 then s.visitPlace (Fin.ofNat 32 (pos - 256))
  else s.verifyLine (Fin.ofNat 32 (pos - 288))

/-- The scrubber moved on after a visit: position, round count, timer (R152). -/
def ModeController.visited (c : ModeController) (now : Word32) : ModeController :=
  if c.scrubPos + 1 < Config.scrubRecords then { c with scrubPos := c.scrubPos + 1, visitStart := now }
  else { c with scrubPos := 0, scrubRounds := c.scrubRounds + 1, visitStart := now }

/-- SCRUB_VISIT (R152). -/
def execScrubVisit : State → Result := whenRunning fun s =>
  if timerDue s.now s.control.visitStart Config.visitInterval then
    let t := s.visit s.control.scrubPos
    t.setControl (t.control.visited s.now)
  else s

/-! ## Findings (R154, R155) -/

/-- The kind of record of a finding. -/
def Finding.kind : Finding → RecordKind
  | .entry _ => .entry
  | .template _ => .template
  | .line _ => .line

/-- The oldest finding of a kind, and the others (log 18). -/
def takeFinding (k : RecordKind) : List Finding → Option (Finding × List Finding)
  | [] => none
  | f :: rest => if f.kind = k then some (f, rest) else (takeFinding k rest).map fun r => (r.1, f :: r.2)

/-- The ENTRY_CORRUPT notice of a finding; none for a line record (R154, 10.6.5). -/
def Finding.notice : Finding → Option Notice
  | .entry i => some { Notice.bare .entryCorrupt with reason := some 0, handle := some { index := i, generation := 0 } }
  | .template n => some { Notice.bare .entryCorrupt with reason := some 1, template := some n }
  | .line _ => none

/-- ENTRY_CORRUPT to every port, for an entry or a template (R154). -/
def State.reportFinding (s : State) (f : Finding) : State :=
  match f.notice with
  | none => s
  | some n => s.notifyAll .modeController n

/-- The mismatch counted (R154). -/
def State.countFinding (s : State) : State :=
  s.setControl { s.control with corruption := satIncAt Config.corruptionCeiling s.control.corruption }

/-- RECORD_CORRUPT taken, for a line record (R154). -/
def State.causeOfFinding (s : State) (f : Finding) : State :=
  match f with
  | .entry _ => s
  | .template _ => s
  | .line l => s.takeCause .recordCorrupt (some l)

/-- The test of the corruption count after an increment (R155). -/
def State.testLimit (s : State) : State :=
  if s.control.params.corruptLimit ≤ s.control.corruption then s.takeCause .corruptLimit none else s

/-- A finding taken at the Mode Controller (R154). -/
def State.finding (s : State) (f : Finding) : State :=
  (((s.reportFinding f).countFinding).causeOfFinding f).testLimit

/-- CORRUPTION_FINDING (R154): the oldest finding of a kind of record. -/
def execCorruptionFinding (k : RecordKind) : State → Result := whenRunning fun s =>
  match takeFinding k s.wires.findings with
  | none => s
  | some (f, rest) => (s.setWires { s.wires with findings := rest }).finding f

/-- CORRUPTION_DECAY (R155): a boundary taken at the Mode Controller. -/
def execCorruptionDecay : State → Result := whenRunning fun s =>
  if s.wires.boundaries = 0 then s
  else (s.setWires { s.wires with boundaries := s.wires.boundaries - 1 }).setControl
    { s.control with corruption := s.control.corruption - 1 }

end Sys2Proof.Machine
end

