-- ==== Sys2Proof/Machine/ModeControl.lean ====
section
/-! DEFINITION. Mode changes (chapter 8, sections 8.2, 8.3 and 8.6): the SAFE request for OVERRUN, the taking of a change
at each block, and the supervisor's START, STOP, RESUME and RESET_DEVICE with READ_HEALTH. -/

set_option autoImplicit false

namespace Sys2Proof.Machine

open Sys2Proof

/-! ## The SAFE request for OVERRUN (R14, R49) -/

/-- The first SAFE request not yet taken becomes one that the Timetable settles after `n` more mode changes. -/
def settleAsk (n : Nat) : List (Option Nat) → List (Option Nat)
  | [] => []
  | none :: rest => some n :: rest
  | some k :: rest => some k :: settleAsk n rest

/-- SAFE_REQUEST_OVERRUN (R14): the oldest request on its way is taken as a SAFE cause (R145, R146). -/
def execSafeRequestOverrun : State → Result := whenRunning fun s =>
  if s.wires.overrunAsks.any Option.isNone then
    let t := s.takeCause .overrun none
    t.setWires { t.wires with overrunAsks := settleAsk (changesWaiting t.wires.toTimetable) t.wires.overrunAsks }
  else s

/-- A mode change has been taken at the Timetable: every settled request waits for one change less. -/
def countAsks (asks : List (Option Nat)) : List (Option Nat) := asks.map fun o => o.map fun n => n - 1

/-! ## Teardowns at the blocks (R67, R87, R97, R138) -/

/-- ENTRY_ABANDONED to port `p`, if it owned a live entry (R67). -/
def State.abandon (s : State) (p : Port) : State :=
  if ownedBy s.table.live p = 0 then s
  else s.notify .timetable p { Notice.bare .entryAbandoned with count := some (ownedBy s.table.live p) }

/-- The Timetable emptied, every owner told (R67); the commit counter and the generations keep their values. -/
def State.emptyTable (s : State) : State :=
  let t := Port.all.foldl State.abandon s
  t.setTable { t.table with live := [], liveCount := PerPort.const 0 }

/-- TIMETABLE_EMPTYING (R67): STOP or SAFE entry taken at the Timetable, which then hands on the Line Block's part. -/
def execTimetableEmptying : State → Result := whenRunning fun s =>
  match takeChange ModeChange.teardown s.wires.toTimetable with
  | none => s
  | some (c, q) =>
    let t := (s.setWires { s.wires with
      toTimetable := q
      toLines := releaseChange s.wires.toLines
      overrunAsks := countAsks s.wires.overrunAsks }).emptyTable
    (t.setTable { t.table with mode := c.new }).takeLimits

/-- SLOTS_EMPTYING (R87): STOP or SAFE entry taken at a port's slots. -/
def execSlotsEmptying (p : Port) : State → Result := whenRunning fun s =>
  match takeChange ModeChange.teardown (s.wires.toSlots.get p) with
  | none => s
  | some (c, q) =>
    (s.setWires { s.wires with toSlots := s.wires.toSlots.set p q }).setSlots p
      { (s.slots.get p).cleared with mode := c.new }

/-- A template SUSPENDED, its code computed anew (R138). -/
def Template.suspended (t : Template) : Template := Template.make { t.fields with active := false }

/-- TEMPLATES_SUSPENSION (R138): SAFE entry taken at the Template Table. -/
def execTemplatesSuspension : State → Result := whenRunning fun s =>
  match takeChange (fun c => decide (c.new = .safe)) s.wires.toTemplates with
  | none => s
  | some (c, q) =>
    { s.setWires { s.wires with toTemplates := q } with
      templates := { place := s.templates.place.map fun o => o.map Template.suspended, mode := c.new } }

/-- A line record as SAFE entry leaves it: force NONE with the code computed anew, no settle check, the engine OFF with no
rest (R42, R97). -/
def LineRec.safed (now : Word32) (r : LineRec) : LineRec :=
  let c := { r with force := .none, settle := none, engine := r.engine.setOff now r.rest }
  { c with code := c.covered }

/-- A line record as STOP leaves it: the engine OFF with no rest (R42, R97). -/
def LineRec.stopped (now : Word32) (r : LineRec) : LineRec := { r with engine := r.engine.setOff now r.rest }

/-- ENGINES_OFF (R97): STOP or SAFE entry taken at the Line Block, after the Timetable has handed it on (R141). -/
def execEnginesOff : State → Result := whenRunning fun s =>
  match takeChange (fun c => c.teardown && c.ready) s.wires.toLines with
  | none => s
  | some (c, q) =>
    let f := if c.new = .safe then LineRec.safed s.now else LineRec.stopped s.now
    let t := (s.setWires { s.wires with toLines := q }).setLineBlock { s.lineBlock with mode := c.new }
    closeLines s { t with line := t.line.map f }

/-! ## Other mode changes at the blocks (R141) -/

/-- Whether the Timetable may take a change into RUN: no preset waits there (R20, log 11) and no step whose SAFE request is
settled, which would move the next run's entries past the bound of R49 (log 10), but for those behind a step that waits for a SAFE
entry's emptying, which stands behind the change; and the Line Block has taken the change (R104, log 12). -/
def State.timetableMayRun (s : State) : Bool :=
  ((!presetWaits s.wires.timetableMotion && !s.settledStepWaits) || s.stepHeld)
    && decide (changesWaiting s.wires.toLines < changesWaiting s.wires.toTimetable)

/-- A change other than STOP and SAFE entry taken at the Timetable. -/
def State.changeAtTimetable (s : State) : State :=
  match takeChange (fun c => !c.teardown && (decide (c.new ≠ .run) || s.timetableMayRun)) s.wires.toTimetable with
  | none => s
  | some (c, q) =>
    ((s.setWires { s.wires with toTimetable := q, overrunAsks := countAsks s.wires.overrunAsks }).setTable
      { s.table with mode := c.new }).takeLimits

/-- A change other than STOP and SAFE entry taken at a port's slots; into RUN only when no preset waits there
(R20, log 11). -/
def State.changeAtSlots (s : State) (p : Port) : State :=
  match takeChange (fun c => !c.teardown && (decide (c.new ≠ .run) || !presetWaits (s.wires.slotsMotion.get p)))
      (s.wires.toSlots.get p) with
  | none => s
  | some (c, q) =>
    (s.setWires { s.wires with toSlots := s.wires.toSlots.set p q }).setSlots p { s.slots.get p with mode := c.new }

/-- A change other than SAFE entry taken at the Template Table (R138: every template keeps its state). -/
def State.changeAtTemplates (s : State) : State :=
  match takeChange (fun c => decide (c.new ≠ .safe)) s.wires.toTemplates with
  | none => s
  | some (c, q) => { s.setWires { s.wires with toTemplates := q } with templates := { s.templates with mode := c.new } }

/-- Any change taken at the Capture Log (R114, R120). -/
def State.changeAtLog (s : State) : State :=
  match takeChange (fun _ => true) s.wires.toLog with
  | none => s
  | some (c, q) => (s.setWires { s.wires with toLog := q }).setLog { s.log with mode := c.new }

/-- A change other than STOP and SAFE entry taken at the Line Block. -/
def State.changeAtLines (s : State) : State :=
  match takeChange (fun c => !c.teardown) s.wires.toLines with
  | none => s
  | some (c, q) =>
    closeLines s ((s.setWires { s.wires with toLines := q }).setLineBlock { s.lineBlock with mode := c.new })

/-- MODE_CHANGE_TAKEN_AT_BLOCK (R141). STOP and SAFE entry are taken at the Timetable, the slots and the Line Block, and
SAFE entry at the Template Table, by the commands of their own. -/
def execModeChangeTakenAtBlock (b : ChangeBlock) : State → Result := whenRunning fun s =>
  match b with
  | .timetable => s.changeAtTimetable
  | .slots p => s.changeAtSlots p
  | .templates => s.changeAtTemplates
  | .log => s.changeAtLog
  | .lines => s.changeAtLines

/-! ## START, STOP, RESUME (R143, R144, R147) -/

/-- START at the Mode Controller: the mode, then the body, then the ranks (R143). -/
def startRequest (body : List Byte) (s : State) : State × Reply :=
  if s.control.mode ≠ .config then (s, Reply.refuse .wrongMode)
  else if body ≠ [] then (s, Reply.refuse .badField)
  else if s.control.params.portPriority.toList.any Option.isNone then (s, Reply.refuse .badField)
  else (s.changeMode .run startReason none, Reply.ok [])

/-- START (R143), port A's. -/
def execStart : State → Result := serve .start .A startRequest

/-- STOP at the Mode Controller: the mode, then the body (R144). -/
def stopRequest (body : List Byte) (s : State) : State × Reply :=
  if s.control.mode ≠ .run then (s, Reply.refuse .wrongMode)
  else if body ≠ [] then (s, Reply.refuse .badField)
  else (s.changeMode .config stopReason none, Reply.ok [])

/-- STOP (R144), port A's. -/
def execStop : State → Result := serve .stop .A stopRequest

/-- No cause. -/
def CauseSet.empty : CauseSet := { safeIn := false, overrun := false, corruptLimit := false, recordCorrupt := false }

/-- RESUME at the Mode Controller: the mode, then the body, then SAFEIN (R147). -/
def resumeRequest (body : List Byte) (s : State) : State × Reply :=
  if s.control.mode ≠ .safe then (s, Reply.refuse .wrongMode)
  else if body ≠ [] then (s, Reply.refuse .badField)
  else if s.pinSafeIn then (s, Reply.refuse .safeHold)
  else
    ((s.setControl { s.control with firstCause := none, later := CauseSet.empty, corruption := 0 }).changeMode .config
      resumeReason none, Reply.ok [])

/-- RESUME (R147), port A's. -/
def execResume : State → Result := serve .resume .A resumeRequest

/-! ## READ_HEALTH and RESET_DEVICE (R156, R157) -/

/-- The 22 bytes of READ_HEALTH (R156). The level of SAFEIN is sent as 1 for high and 0 for low, a code that R156 does not give
(log 43). -/
def healthBytes (s : State) : List Byte :=
  let c := s.control
  [byte c.mode.code, byte (causeCode c.firstCause), c.later.byte, byte c.corruption]
  ++ be32 c.scrubRounds
  ++ be32 (lineSetOf fun l => s.line[l].fault == .failed)
  ++ be32 (lineSetOf fun l => decide (s.line[l].force ≠ .none))
  ++ be16Nat s.table.live.length
  ++ [flagByte s.pinSafeIn, byte c.params.corruptLimit] ++ be16Nat c.scrubPos

/-- READ_HEALTH at the Mode Controller (R156). -/
def readHealthRequest : List Byte → State → State × Reply := reading fun body s =>
  if body = [] then Reply.ok (healthBytes s) else Reply.refuse .badField

/-- READ_HEALTH (R156). -/
def execReadHealth (p : Port) : State → Result := serve .readHealth p readHealthRequest

/-- RESET_DEVICE (R157), port A's: accepted, it waits for the release of A's select; taken after that release, the soft
reset starts as it is taken. -/
def execResetDevice (s : State) : Result :=
  match s.request .A .resetDevice with
  | none => .next s
  | some w =>
    if w.body ≠ [] then .next (s.setPhase .A w (.done .badField []))
    else if (s.ports.get .A).cut then .next s.softReset
    else .next ((s.setControl { s.control with softArmed := true }).setPhase .A w (.done .ok []))

end Sys2Proof.Machine
end

