-- ==== Sys2Proof/Machine/Params.lean ====
section
/-! DEFINITION. SET_PARAM and GET_PARAM at the Mode Controller (chapter 8, section 8.4). -/

set_option autoImplicit false

namespace Sys2Proof.Machine

open Sys2Proof

/-- Hand a write to the Position Unit. -/
def State.handPosition (s : State) (w : ParamWrite) : State :=
  s.setWires { s.wires with toPosition := s.wires.toPosition ++ [.write w] }

/-- Hand a write to every port's slots. -/
def State.handSlots (s : State) (w : ParamWrite) : State :=
  s.setWires { s.wires with toSlots := s.wires.toSlots.map fun q => q ++ [.write w] }

/-- Hand a write to the Line Block. -/
def State.handLines (s : State) (w : ParamWrite) : State :=
  s.setWires { s.wires with toLines := s.wires.toLines ++ [.write w] }

/-- Hand a write to the sensor inputs. -/
def State.handSensors (s : State) (w : ParamWrite) : State :=
  s.setWires { s.wires with toLog := s.wires.toLog ++ [.write w] }

/-- Hand a write of GUARD, POLICY, QUOTA or PORT_PRIORITY to the Timetable, which takes it at once where no mode change
waits there, and else with the last mode change before it (R149, log 41). -/
def State.handTable (s : State) (q : Params) : State :=
  (s.setWires { s.wires with toTimetable := s.wires.toTimetable ++ [.write (.tableLimits q.limits)] }).takeLimits

/-- The write of a parameter handed to the block that uses it (R149). The parameters that no event takes there are read
where they are used. -/
def State.handWrite (s : State) (id : ParamId) (q : Params) : State :=
  match id with
  | .motionSource => s.handPosition (.motionSource q.motionSource)
  | .internalRate => s.handPosition (.internalRate q.internalRate)
  | .stallTime => s.handPosition (.stallTime q.stallTime)
  | .speedWindow => s.handPosition (.speedWindow q.speedWindow)
  | .commitLead => s.handSlots (.commitLead q.commitLead)
  | .historyPeriod => s.handLines (.historyPeriod q.historyPeriod)
  | .rest l => s.handLines (.rest l q.rest[l])
  | .readback l => s.handLines (.readback l q.readback[l])
  | .sensorFilter k => s.handSensors (.sensorFilter k q.sensorFilter[k])
  | .reverseLimit => s
  | .guard _ => s.handTable q
  | .policy _ => s.handTable q
  | .settle => s
  | .faultThreshold => s
  | .quota _ => s.handTable q
  | .portPriority _ => s.handTable q
  | .sensorEdge _ => s
  | .sensorSpacing _ => s
  | .corruptLimit => s

/-- Whether a mode takes a write of the parameter (R149 check 2). -/
def ParamId.writableIn (id : ParamId) : Mode → Bool
  | .init => false
  | .config => true
  | .run => id.writableInRun
  | .safe => false

/-- A value as the four bytes of its frame field. -/
def valueBytes (n : Nat) : List Byte := be32 (BitVec.ofNat 32 n)

/-- SET_PARAM at the Mode Controller (R149, R150). -/
def setParamRequest (body : List Byte) (s : State) : State × Reply :=
  match parseSetParam body with
  | none => (s, Reply.refuse .badField)
  | some (id, n) =>
    if id.writableIn s.control.mode then
      match s.control.params.write id n s.control.corruption with
      | none => (s, Reply.refuse .badField)
      | some q => ((s.setControl { s.control with params := q }).handWrite id q, Reply.ok (valueBytes (q.value id)))
    else (s, Reply.refuse .wrongMode)

/-- SET_PARAM (R149), port A's. -/
def execSetParam : State → Result := serve .setParam .A setParamRequest

/-- GET_PARAM at the Mode Controller (R151). -/
def getParamRequest : List Byte → State → State × Reply := reading fun body s =>
  match parseGetParam body with
  | none => Reply.refuse .badField
  | some id => Reply.ok (valueBytes (s.control.params.value id))

/-- GET_PARAM (R151). -/
def execGetParam (p : Port) : State → Result := serve .getParam p getParamRequest

end Sys2Proof.Machine
end

