-- ==== Sys2Proof/Machine/Staging.lean ====
section
/-! DEFINITION. The Staging Buffers (chapter 4): POST, merging and placement, the four kinds of commit, DISCARD_STAGED, and
the steps and writes taken at a port's slots. -/

set_option autoImplicit false

namespace Sys2Proof.Machine

open Sys2Proof

/-! ## Commits (R79, R80) -/

/-- A slot's content as a proposed entry (R79). -/
def SlotContent.proposal (c : SlotContent) (p : Port) : Proposal :=
  { owner := p, origin := .posted c.tag, lines := c.lines, action := c.action, due := c.due, report := c.report,
    stage := .armed }

/-- A slot becomes EMPTY and its number leaves the age list (R79). -/
def Slots.empty (b : Slots) (i : Fin 4) : Slots :=
  { b with slot := b.slot.set i none, age := b.age.filter fun j => j ≠ i }

/-- The result of an admission as a commit outcome carries it (R78). -/
def Admitted.result : Admitted → Except Status Handle
  | .yes h _ => .ok h
  | .no st => .error st

/-- The commit of one slot: it empties whatever the outcome (R79). An EMPTY slot is not committed. -/
def State.commitSlot (s : State) (p : Port) (reason : CommitReason) (i : Fin 4) : State × List CommitOutcome :=
  match (s.slots.get p).slot[i] with
  | none => (s, [])
  | some c =>
    let r := (s.setSlots p ((s.slots.get p).empty i)).propose (c.proposal p)
    (r.1, [{ reason := reason, slot := i, tag := c.tag, result := r.2.result }])

/-- The commits of several slots, in the order given, each judged against what the one before left (R80). -/
def State.commitSlots (s : State) (p : Port) (reason : CommitReason) : List (Fin 4) → State × List CommitOutcome
  | [] => (s, [])
  | i :: rest =>
    let r := s.commitSlot p reason i
    let q := r.1.commitSlots p reason rest
    (q.1, r.2 ++ q.2)

/-- Whether slot `i` stands at or below the lead (R82). -/
def Slots.withinLead (b : Slots) (i : Fin 4) : Bool :=
  match b.slot[i] with
  | none => false
  | some c => decide (distance b.pos c.due ≤ b.lead)

/-- The notice of a LEAD commit that no reply returns (R84). -/
def CommitOutcome.leadNotice (o : CommitOutcome) : Notice :=
  match o.result with
  | .ok h => { Notice.bare .commitDone with handle := some h, tag := o.tag, reason := some CommitReason.lead.code }
  | .error st => { Notice.bare .commitFailed with status := some st, tag := o.tag, reason := some CommitReason.lead.code }

/-- Every slot of `p` within the lead committed with reason LEAD, oldest first, the outcomes posted (R82 to R84). -/
def State.leadCommits (s : State) (p : Port) : State :=
  let b := s.slots.get p
  let r := s.commitSlots p .lead (b.age.filter b.withinLead)
  r.2.foldl (fun t o => t.notify .slots p o.leadNotice) r.1

/-- STEP_AT_SLOTS (R82): P moves, and a forward step commits by LEAD. -/
def execStepAtSlots (p : Port) : State → Result := whenRunning fun s =>
  match s.wires.slotsMotion.get p with
  | .step forward pos _ :: rest =>
    let t := (s.setWires { s.wires with slotsMotion := s.wires.slotsMotion.set p rest }).setSlots p
      { s.slots.get p with pos := pos }
    if forward then t.leadCommits p else t
  | _ => s

/-- WRITE_COMMIT_LEAD (R83): in RUN every slot within the new lead is committed. -/
def execWriteCommitLead (p : Port) : State → Result := whenRunning fun s =>
  match takeWrite (fun w => match w with | .commitLead v => some v | _ => none) (s.wires.toSlots.get p) with
  | none => s
  | some (v, q) =>
    let t := (s.setWires { s.wires with toSlots := s.wires.toSlots.set p q }).setSlots p
      { s.slots.get p with lead := v }
    if (s.slots.get p).mode = .run then t.leadCommits p else t

/-! ## POST (R74 to R78) -/

/-- Whether a slot without NO_MERGE holds the post's merge key (R72, R75). -/
def SlotContent.sameKey (c : SlotContent) (b : PostBody) : Bool :=
  !c.noMerge && c.due == b.due && c.action == b.action && c.tag == b.tag && c.report == b.report

/-- The slot that a post merges into, if any (R75). -/
def Slots.mergeSlot (x : Slots) (b : PostBody) : Option (Fin 4) :=
  if b.noMerge then none
  else (List.finRange 4).find? fun i => (x.slot[i]).elim false fun c => c.sameKey b

/-- The lowest-numbered empty slot (R75). -/
def Slots.freeSlot (x : Slots) : Option (Fin 4) := (List.finRange 4).find? fun i => (x.slot[i]).isNone

/-- A post merged into slot `i`: its lines join the slot (R75). -/
def Slots.merge (x : Slots) (i : Fin 4) (lines : LineSet) : Slots :=
  { x with slot := x.slot.set i ((x.slot[i]).map fun c => { c with lines := c.lines ||| lines }) }

/-- A post placed in slot `i`, at the young end of the age list (R75). -/
def Slots.put (x : Slots) (i : Fin 4) (b : PostBody) : Slots :=
  { x with
    slot := x.slot.set i (some { lines := b.lines, action := b.action, due := b.due, tag := b.tag, report := b.report,
                                 noMerge := b.noMerge })
    age := (x.age.filter fun j => j ≠ i) ++ [i] }

/-- Room for a post: with no empty slot the oldest is committed with reason FULL (R76). -/
def State.makeRoom (s : State) (p : Port) : State × List CommitOutcome :=
  match (s.slots.get p).freeSlot, (s.slots.get p).age with
  | none, i :: _ => s.commitSlot p .full i
  | _, _ => (s, [])

/-- Where a post went, and the commits it caused so far. -/
structure Placed where
  slot : Fin 4
  merged : Bool
  outcomes : List CommitOutcome

/-- The post merges or takes a slot (R75, R76): the lowest-numbered empty one, also where a cut in the FULL commit has emptied a
lower slot than the freed one (log 37). -/
def State.placePost (s : State) (p : Port) (b : PostBody) : State × Placed :=
  match (s.slots.get p).mergeSlot b with
  | some i =>
    (s.setSlots p ((s.slots.get p).merge i b.lines), { slot := i, merged := true, outcomes := [] })
  | none =>
    let r := s.makeRoom p
    let i := (r.1.slots.get p).freeSlot.getD 0
    (r.1.setSlots p ((r.1.slots.get p).put i b), { slot := i, merged := false, outcomes := r.2 })

/-- The commits after the placement: NOW for every slot, or LEAD for the slot just placed (R77, R82). -/
def State.commitAfterPost (s : State) (p : Port) (b : PostBody) (x : Placed) : State × List CommitOutcome :=
  if b.commitNow then s.commitSlots p .now (s.slots.get p).age
  else if x.merged = false ∧ (s.slots.get p).withinLead x.slot = true then s.commitSlot p .lead x.slot
  else (s, [])

/-- The placing of a post that passed R74, with its reply (R78). -/
def State.postPlaced (s : State) (p : Port) (b : PostBody) : State × Reply :=
  let r := s.placePost p b
  let q := r.1.commitAfterPost p b r.2
  let outs := r.2.outcomes ++ q.2
  (q.1, Reply.ok ([byte r.2.slot.val, flagByte r.2.merged, byte outs.length] ++ outs.flatMap outcomeBytes))

/-- POST at the Staging Buffers (R74). -/
def postRequest (p : Port) (body : List Byte) (s : State) : State × Reply :=
  if (s.slots.get p).mode ≠ .run then (s, Reply.refuse .wrongMode)
  else match parsePost body with
    | none => (s, Reply.refuse .badField)
    | some b =>
      let s1 := s.consult b.lines
      match s1.firstUnleased p b.lines with
      | some l => (s1, { status := .notLeased, body := [byte l.val] })
      | none =>
        match s1.firstFailed b.lines with
        | some l => (s1, { status := .lineFailed, body := [byte l.val] })
        | none =>
          match windowStatus (s1.slots.get p).pos b.due with
          | some st => (s1, Reply.refuse st)
          | none => s1.postPlaced p b

/-- POST (R74). -/
def execPost (p : Port) : State → Result := serve .post p (postRequest p)

/-! ## COMMIT and DISCARD_STAGED (R81, R85) -/

/-- COMMIT at the Staging Buffers (R81). -/
def commitRequest (p : Port) (body : List Byte) (s : State) : State × Reply :=
  if (s.slots.get p).mode ≠ .run then (s, Reply.refuse .wrongMode)
  else if body ≠ [] then (s, Reply.refuse .badField)
  else
    let r := s.commitSlots p .request (s.slots.get p).age
    (r.1, Reply.ok (byte r.2.length :: r.2.flatMap outcomeBytes))

/-- COMMIT (R81). -/
def execCommit (p : Port) : State → Result := serve .commit p (commitRequest p)

/-- DISCARD_STAGED at the Staging Buffers (R85). -/
def discardRequest (p : Port) (body : List Byte) (s : State) : State × Reply :=
  if (s.slots.get p).mode ≠ .config ∧ (s.slots.get p).mode ≠ .run then (s, Reply.refuse .wrongMode)
  else if body ≠ [] then (s, Reply.refuse .badField)
  else (s.setSlots p (s.slots.get p).cleared, Reply.ok [byte (s.slots.get p).occupied])

/-- DISCARD_STAGED (R85). -/
def execDiscardStaged (p : Port) : State → Result := serve .discardStaged p (discardRequest p)

end Sys2Proof.Machine
end

