-- ==== Sys2Proof/Machine/Timetable.lean ====
section
/-! DEFINITION. The Timetable (chapter 3) and the firing of entries (chapter 5, sections 5.1 and 5.6): steps and presets
taken there, and its five requests. -/

set_option autoImplicit false

namespace Sys2Proof.Machine

open Sys2Proof

/-! ## Defaults (R60) -/

/-- The default of a HELD entry applied at its decision position (R60). -/
def State.applyDefault (s : State) (e : Entry) : State :=
  match e.fields.stage with
  | .armed => s
  | .held _ d =>
    let t := match d with
      | .fire => s.putEntry (e.rewrite { e.fields with stage := .armed })
      | .drop => s.removeEntry e
    t.notify .timetable e.fields.owner { entryNotice .defaultApplied e.fields with reason := some d.code }

/-- Whether an entry is HELD with its decision at `pos`. -/
def Entry.decidesAt (pos : Word32) (e : Entry) : Bool := e.fields.stage.decision == some pos

/-- The defaults of every HELD entry whose decision position is `pos`, in commit order (R60). -/
def State.applyDefaults (s : State) (pos : Word32) : State :=
  (s.table.live.filter (Entry.decidesAt pos)).foldl State.applyDefault s

/-! ## Fire (R57, R89, R100 to R102) -/

/-- One action handed to one line: suppressed on a forced line, else delivered and counted (R32, R89). -/
def State.deliver (s : State) (a : LineAction) (l : LineNo) : State × LineOutcome :=
  let r := s.line[l]
  if r.force ≠ .none then (s, .suppressed)
  else
    let e := r.engine.deliver s.now r.rest a
    (s.setLine l { r with engine := e, fireCount := r.fireCount + 1, history := r.history ||| 1 }, e.outcome)

/-- The actions of an entry handed to its lines in ascending order, with the outcome of each (R57, R89). -/
def State.deliverAll (s : State) (a : LineAction) : List LineNo → State × List (LineNo × LineOutcome)
  | [] => (s, [])
  | l :: ls =>
    let r := s.deliver a l
    let rest := r.1.deliverAll a ls
    (rest.1, (l, r.2) :: rest.2)

/-- Whether an outcome is in the outcome set (R100). -/
def hasOutcome (o : LineOutcome) (outs : List (LineNo × LineOutcome)) : Bool := outs.any fun x => x.2 == o

/-- The outcome set as the reason of FIRED (R100, 10.6.5). -/
def outcomeSet (outs : List (LineNo × LineOutcome)) : Nat :=
  flagNat (hasOutcome .applied outs) + 2 * flagNat (hasOutcome .delayed outs)
  + 4 * flagNat (hasOutcome .suppressed outs)

/-- FIRED, when the entry's report flag is set (R101). -/
def State.notifyFired (s : State) (f : EntryFields) (outs : List (LineNo × LineOutcome)) : State :=
  if f.report then
    s.notify .timetable f.owner
      { entryNotice .fired f with reason := some (outcomeSet outs), count := some outs.length }
  else s

/-- FIRE_SUPPRESSED, when a line was suppressed (R102). -/
def State.notifySuppressed (s : State) (f : EntryFields) (outs : List (LineNo × LineOutcome)) : State :=
  let sup := outs.filter fun x => x.2 == .suppressed
  match sup with
  | [] => s
  | x :: _ =>
    s.notify .timetable f.owner
      { entryNotice .fireSuppressed f with line := some x.1, count := some sup.length }

/-- One due entry fires (R57). -/
def State.fireEntry (s : State) (e : Entry) : State :=
  if e.codeOk then
    let r := s.deliverAll e.fields.action (linesOf e.fields.lines)
    ((r.1.removeEntry e).notifyFired e.fields r.2).notifySuppressed e.fields r.2
  else s.removeCorrupt e

/-- Whether an entry is ARMED and due at `pos`. -/
def Entry.firesAt (pos : Word32) (e : Entry) : Bool := e.fields.stage == .armed && e.fields.due == pos

/-- Every ARMED entry due at `pos` fires, in commit order (R57). -/
def State.fireDue (s : State) (pos : Word32) : State :=
  (s.table.live.filter (Entry.firesAt pos)).foldl State.fireEntry s

/-- A forward step at the Timetable: defaults first, then the fires; the driven levels are judged at its close
(R56, R99). -/
def State.forwardStep (s : State) (pos : Word32) : State :=
  closeLines s ((s.applyDefaults pos).fireDue pos)

/-! ## Steps and presets at the Timetable -/

/-- A step at the Timetable: P moves; a forward step acts, a backward step changes no entry (R56, R58). -/
def State.takeStep (s : State) (forward : Bool) (pos : Word32) : State :=
  let t := s.setTable { s.table with pos := pos }
  if forward then t.forwardStep pos else t

/-- STEP_AT_TIMETABLE (R56, R58). The step after one that asked for SAFE waits until the request has been taken at
the Mode Controller and its emptying here (R49, log 10). -/
def execStepAtTimetable : State → Result := whenRunning fun s =>
  match s.wires.timetableMotion with
  | .step forward pos asks :: rest =>
    let t := (s.setWires { s.wires with timetableMotion := rest, overrunAsks := s.asksAfterStep }).setTable
      { s.table with askedSafe := asks }
    if s.stepHeld then s else t.takeStep forward pos
  | _ => s

/-- A preset taken at the Timetable (R20): outside RUN, so that no live entry is moved under (log 11). -/
def State.presetAtTimetable (s : State) : State :=
  match s.wires.timetableMotion with
  | .preset v :: rest =>
    if s.table.mode = .run then s
    else (s.setWires { s.wires with timetableMotion := rest }).setTable { s.table with pos := v }
  | _ => s

/-- A preset taken at a port's slots (R20, log 11). -/
def State.presetAtSlots (s : State) (p : Port) : State :=
  match s.wires.slotsMotion.get p with
  | .preset v :: rest =>
    if (s.slots.get p).mode = .run then s
    else (s.setWires { s.wires with slotsMotion := s.wires.slotsMotion.set p rest }).setSlots p
      { s.slots.get p with pos := v }
  | _ => s

/-- PRESET_AT_BLOCK (R20). -/
def execPresetAtBlock (m : MotionBlock) : State → Result := whenRunning fun s =>
  match m with
  | .timetable => s.presetAtTimetable
  | .slots p => s.presetAtSlots p

/-! ## CANCEL_ENTRIES (R61) -/

/-- The requester's entries that a selector other than HANDLE matches (R61). -/
def CancelSelector.selects (sel : CancelSelector) (p : Port) (e : Entry) : Bool :=
  e.fields.owner == p &&
  match sel with
  | .handle h => e.fields.handle == h
  | .tag v => e.fields.origin.tag == some v
  | .capture q => e.fields.origin.captureSeq == some q
  | .all => true

/-- The live entry of port `p` that a handle names (R46). -/
def State.ownEntry (s : State) (p : Port) (h : Handle) : Option Entry :=
  match s.table.resolve h with
  | none => none
  | some e => if e.fields.owner = p then some e else none

/-- One matched entry is cancelled, or removed as corrupt and not counted (R61). -/
def cancelOne (acc : State × Nat) (e : Entry) : State × Nat :=
  if e.codeOk then (acc.1.removeEntry e, acc.2 + 1) else (acc.1.removeCorrupt e, acc.2)

/-- Matched entries taken in commit order; the reply carries the number cancelled (R61). -/
def State.cancelList (s : State) (es : List Entry) : State × Reply :=
  let r := es.foldl cancelOne (s, 0)
  (r.1, Reply.ok (be16Nat r.2))

/-- CANCEL_ENTRIES at the Timetable (R61). -/
def cancelRequest (p : Port) (body : List Byte) (s : State) : State × Reply :=
  if s.table.mode ≠ .run then (s, Reply.refuse .wrongMode)
  else match parseCancel body with
    | none => (s, Reply.refuse .badField)
    | some (.handle h) =>
      match s.ownEntry p h with
      | none => (s, Reply.refuse .noSuchEntry)
      | some e => s.cancelList [e]
    | some sel => s.cancelList (s.table.live.filter (sel.selects p))

/-- CANCEL_ENTRIES (R61). -/
def execCancelEntries (p : Port) : State → Result := serve .cancelEntries p (cancelRequest p)

/-! ## AMEND_ENTRY (R63, R64) -/

/-- The action with the new width, none where a width is given for an action without one (R63 check 5). -/
def LineAction.amended (a : LineAction) (width : Option Word16) : Option LineAction :=
  match width with
  | none => some a
  | some w =>
    match a with
    | .pulse _ => some (.pulse w)
    | .on => none
    | .off => none

/-- The entry takes its new due and width after the displacements (R64). -/
def State.amendEntry (s : State) (e : Entry) (due : Word32) (a : LineAction) (out : List (Entry × LineSet)) :
    State × Reply :=
  ((out.foldl State.displace s).putEntry (e.rewrite { e.fields with due := due, action := a }),
    Reply.ok (handleBytes e.fields.handle ++ be16Nat out.length))

/-- Checks 6 to 8 of R63, then the amendment. -/
def State.amendChecked (s : State) (p : Port) (e : Entry) (due : Word32) (a : LineAction) : State × Reply :=
  let s1 := s.consult e.fields.lines
  if (s1.firstUnleased p e.fields.lines).isSome then (s1, Reply.refuse .notLeased)
  else match windowStatus s1.table.pos due with
    | some st => (s1, Reply.refuse st)
    | none =>
      match conflictOutcome s1.table.limits p (conflicts s1.table.limits p e.fields.lines due s1.table.live) with
      | none => (s1, Reply.refuse .conflict)
      | some out => s1.amendEntry e due a out

/-- AMEND_ENTRY at the Timetable (R63). -/
def amendRequest (p : Port) (body : List Byte) (s : State) : State × Reply :=
  if s.table.mode ≠ .run then (s, Reply.refuse .wrongMode)
  else match parseAmend body with
    | none => (s, Reply.refuse .badField)
    | some b =>
      match s.ownEntry p b.handle with
      | none => (s, Reply.refuse .noSuchEntry)
      | some e =>
        if e.codeOk then
          if e.fields.stage.isHeld then (s, Reply.refuse .notArmed)
          else match e.fields.action.amended b.width with
            | none => (s, Reply.refuse .badField)
            | some a => s.amendChecked p e b.due a
        else (s.removeCorrupt e, Reply.refuse .noSuchEntry)

/-- AMEND_ENTRY (R63). -/
def execAmendEntry (p : Port) : State → Result := serve .amendEntry p (amendRequest p)

/-! ## QUERY_ENTRY and READ_TABLE_STATUS (R65, R66) -/

/-- QUERY_ENTRY at the Timetable (R65): port A reaches entries of every owner (R46). -/
def queryEntryRequest (p : Port) : List Byte → State → State × Reply := reading fun body s =>
  if body.length ≠ 2 then Reply.refuse .badField
  else match s.table.resolve (handleAt body 0) with
    | none => Reply.refuse .noSuchEntry
    | some e => if p = .A ∨ e.fields.owner = p then Reply.ok (entryRecord e.fields) else Reply.refuse .noSuchEntry

/-- QUERY_ENTRY (R65). -/
def execQueryEntry (p : Port) : State → Result := serve .queryEntry p (queryEntryRequest p)

/-- The due distance of the first ARMED entry in the due order, 0 when none is ARMED (R66). -/
def Timetable.firstArmedDistance (t : Timetable) : Nat :=
  match t.dueOrder.find? fun e => e.fields.stage == .armed with
  | none => 0
  | some e => distance t.pos e.fields.due

/-- The values of READ_TABLE_STATUS for port `p` (R66). -/
def tableStatusBytes (p : Port) (s : State) : List Byte :=
  be16Nat s.table.live.length
  ++ be16Nat s.table.liveCount.a ++ be16Nat s.table.liveCount.b ++ be16Nat s.table.liveCount.c
  ++ be16Nat s.table.liveCount.d
  ++ be32 (BitVec.ofNat 32 s.table.firstArmedDistance)
  ++ be16Nat (s.table.live.filter fun e => e.fields.stage.isHeld).length
  ++ [byte (s.slots.get p).occupied]

/-- READ_TABLE_STATUS at the Timetable (R66). -/
def tableStatusRequest (p : Port) : List Byte → State → State × Reply := reading fun body s =>
  if body = [] then Reply.ok (tableStatusBytes p s) else Reply.refuse .badField

/-- READ_TABLE_STATUS (R66). -/
def execReadTableStatus (p : Port) : State → Result := serve .readTableStatus p (tableStatusRequest p)

/-! ## VERDICT (R134 to R136) -/

/-- The entries that a verdict matches (R134). -/
def VerdictBody.selects (b : VerdictBody) (p : Port) (e : Entry) : Bool :=
  e.fields.owner == p &&
  match e.fields.origin with
  | .posted _ => false
  | .template n q => q == b.seq && b.template.elim true fun m => n == m

/-- What a verdict has done so far. -/
structure VerdictCounts where
  decided : Nat
  late : Nat
  deriving DecidableEq, Repr

/-- One matched entry taken by a verdict (R135). -/
def verdictOne (keep : Bool) (acc : State × VerdictCounts) (e : Entry) : State × VerdictCounts :=
  if e.codeOk then
    match e.fields.stage with
    | .armed => (acc.1, { acc.2 with late := acc.2.late + 1 })
    | .held _ _ =>
      (if keep then acc.1.putEntry (e.rewrite { e.fields with stage := .armed }) else acc.1.removeEntry e,
        { acc.2 with decided := acc.2.decided + 1 })
  else (acc.1.removeCorrupt e, acc.2)

/-- The status of a verdict by its counts (R136). -/
def VerdictCounts.status (c : VerdictCounts) : Status :=
  if c.decided ≠ 0 then .ok else if c.late ≠ 0 then .late else .notHeld

/-- VERDICT at the Timetable (R134 to R136). -/
def verdictRequest (p : Port) (body : List Byte) (s : State) : State × Reply :=
  if s.table.mode ≠ .run then (s, Reply.refuse .wrongMode)
  else match parseVerdict body with
    | none => (s, Reply.refuse .badField)
    | some b =>
      let r := (s.table.live.filter (b.selects p)).foldl (verdictOne b.keep) (s, { decided := 0, late := 0 })
      (r.1, { status := r.2.status, body := be16Nat r.2.decided ++ be16Nat r.2.late })

/-- VERDICT (R134). -/
def execVerdict (p : Port) : State → Result := serve .verdict p (verdictRequest p)

end Sys2Proof.Machine
end

