-- ==== Sys2Proof/Machine/Dispatch.lean ====
section
/-! DEFINITION. One arm for each command: its meaning. -/

namespace Sys2Proof.Machine

open Sys2Proof

/-- The effect of a command on everything but the queue. -/
def exec (i : Instr) (s : State) : Host.Outcome State Fault Refusal :=
  match i with
  | .powerOnReset => Sys2Proof.Machine.execPowerOnReset s
  | .resetnAssert => Sys2Proof.Machine.execResetnAssert s
  | .resetEnd => Sys2Proof.Machine.execResetEnd s
  | .initEnd => Sys2Proof.Machine.execInitEnd s
  | .safeinAssert => Sys2Proof.Machine.execSafeinAssert s
  | .safeinDeassert => Sys2Proof.Machine.execSafeinDeassert s
  | .safeRequestOverrun => Sys2Proof.Machine.execSafeRequestOverrun s
  | .motionInputChange a b => Sys2Proof.Machine.execMotionInputChange a b s
  | .stepInputRise b => Sys2Proof.Machine.execStepInputRise b s
  | .internalRateExpiry => Sys2Proof.Machine.execInternalRateExpiry s
  | .stallTimerExpiry => Sys2Proof.Machine.execStallTimerExpiry s
  | .speedWindowExpiry => Sys2Proof.Machine.execSpeedWindowExpiry s
  | .stepAtTimetable => Sys2Proof.Machine.execStepAtTimetable s
  | .stepAtSlots p => Sys2Proof.Machine.execStepAtSlots p s
  | .presetAtBlock m => Sys2Proof.Machine.execPresetAtBlock m s
  | .sensorRawChange k level => Sys2Proof.Machine.execSensorRawChange k level s
  | .sensorFilterExpiry k => Sys2Proof.Machine.execSensorFilterExpiry k s
  | .captureEntry n => Sys2Proof.Machine.execCaptureEntry n s
  | .captureHandOff => Sys2Proof.Machine.execCaptureHandOff s
  | .historyPeriodBoundary => Sys2Proof.Machine.execHistoryPeriodBoundary s
  | .corruptionDecay => Sys2Proof.Machine.execCorruptionDecay s
  | .settleExpiry l readback => Sys2Proof.Machine.execSettleExpiry l readback s
  | .pulseEnd l => Sys2Proof.Machine.execPulseEnd l s
  | .restEnd l => Sys2Proof.Machine.execRestEnd l s
  | .restGuardEnd l => Sys2Proof.Machine.execRestGuardEnd l s
  | .scrubVisit => Sys2Proof.Machine.execScrubVisit s
  | .corruptionFinding k => Sys2Proof.Machine.execCorruptionFinding k s
  | .timetableEmptying => Sys2Proof.Machine.execTimetableEmptying s
  | .slotsEmptying p => Sys2Proof.Machine.execSlotsEmptying p s
  | .templatesSuspension => Sys2Proof.Machine.execTemplatesSuspension s
  | .enginesOff => Sys2Proof.Machine.execEnginesOff s
  | .writeMotionSource => Sys2Proof.Machine.execWriteMotionSource s
  | .writeInternalRate => Sys2Proof.Machine.execWriteInternalRate s
  | .writeStallTime => Sys2Proof.Machine.execWriteStallTime s
  | .writeSpeedWindow => Sys2Proof.Machine.execWriteSpeedWindow s
  | .writeCommitLead p => Sys2Proof.Machine.execWriteCommitLead p s
  | .writeHistoryPeriod => Sys2Proof.Machine.execWriteHistoryPeriod s
  | .writeRest l => Sys2Proof.Machine.execWriteRest l s
  | .writeReadback l => Sys2Proof.Machine.execWriteReadback l s
  | .writeSensorFilter k => Sys2Proof.Machine.execWriteSensorFilter k s
  | .noticeTaken p n => Sys2Proof.Machine.execNoticeTaken p n s
  | .selectFall p => Sys2Proof.Machine.execSelectFall p s
  | .requestFrame p bytes => Sys2Proof.Machine.execRequestFrame p bytes s
  | .replyReady p => Sys2Proof.Machine.execReplyReady p s
  | .replySent p n => Sys2Proof.Machine.execReplySent p n s
  | .selectRelease p => Sys2Proof.Machine.execSelectRelease p s
  | .readPosition p => Sys2Proof.Machine.execReadPosition p s
  | .presetPosition => Sys2Proof.Machine.execPresetPosition s
  | .leaseLines p => Sys2Proof.Machine.execLeaseLines p s
  | .releaseLines p => Sys2Proof.Machine.execReleaseLines p s
  | .revokeLines => Sys2Proof.Machine.execRevokeLines s
  | .forceLines => Sys2Proof.Machine.execForceLines s
  | .unforceLines => Sys2Proof.Machine.execUnforceLines s
  | .readLines p => Sys2Proof.Machine.execReadLines p s
  | .clearLineFault => Sys2Proof.Machine.execClearLineFault s
  | .post p => Sys2Proof.Machine.execPost p s
  | .commit p => Sys2Proof.Machine.execCommit p s
  | .discardStaged p => Sys2Proof.Machine.execDiscardStaged p s
  | .cancelEntries p => Sys2Proof.Machine.execCancelEntries p s
  | .amendEntry p => Sys2Proof.Machine.execAmendEntry p s
  | .queryEntry p => Sys2Proof.Machine.execQueryEntry p s
  | .readTableStatus p => Sys2Proof.Machine.execReadTableStatus p s
  | .subscribe p => Sys2Proof.Machine.execSubscribe p s
  | .readCaptures p => Sys2Proof.Machine.execReadCaptures p s
  | .defineTemplate p => Sys2Proof.Machine.execDefineTemplate p s
  | .deleteTemplate p => Sys2Proof.Machine.execDeleteTemplate p s
  | .setTemplateState p => Sys2Proof.Machine.execSetTemplateState p s
  | .verdict p => Sys2Proof.Machine.execVerdict p s
  | .queryTemplate p => Sys2Proof.Machine.execQueryTemplate p s
  | .setParam => Sys2Proof.Machine.execSetParam s
  | .getParam p => Sys2Proof.Machine.execGetParam p s
  | .start => Sys2Proof.Machine.execStart s
  | .stop => Sys2Proof.Machine.execStop s
  | .resume => Sys2Proof.Machine.execResume s
  | .readHealth p => Sys2Proof.Machine.execReadHealth p s
  | .resetDevice => Sys2Proof.Machine.execResetDevice s
  | .readNotices p => Sys2Proof.Machine.execReadNotices p s
  | .setNoticeMask p => Sys2Proof.Machine.execSetNoticeMask p s
  | .portStatus p => Sys2Proof.Machine.execPortStatus p s
  | .resetPort p => Sys2Proof.Machine.execResetPort p s
  | .modeChangeTakenAtBlock b => Sys2Proof.Machine.execModeChangeTakenAtBlock b s
  | .replyMarkerSent p => Sys2Proof.Machine.execReplyMarkerSent p s

end Sys2Proof.Machine
end

