-- ==== Sys2Proof/Machine/Idle.lean ====
section
/-! DEFINITION. What a step does when no command waits (log 2). -/

namespace Sys2Proof.Machine

open Sys2Proof

/-- With no command waiting: the event that is due is taken, or one microsecond passes (log 2). The counter of free values
advances with each event, so that no two readback levels are the same application (log 9). -/
def idle (s : State) : Host.Outcome State Fault Refusal :=
  match dueEvent s with
  | some c => exec c { s with freeCount := s.freeCount + 1 }
  | none => .next s.tick

end Sys2Proof.Machine
end

