-- ==== Sys2Proof/Safety.lean ====
section
/-! DEFINITION. What claims about the machine are stated with: a request that waits, what a mode change does to the rest of
the part, the reset values of the spec, and the laws that every step keeps. -/

set_option autoImplicit false

namespace Sys2Proof.Machine

open Sys2Proof

/-! ## Requests -/

/-- The request `w` of kind `k` stands at port `p`, handed on and not taken, and no reset is in force (R171). -/
def RequestWaits (s : State) (p : Port) (k : ReqKind) (w : Work) : Prop :=
  s.inReset = none ∧ (s.ports.get p).work = some w ∧ w.kind = k ∧ w.phase = .waiting

/-- The request `w` of port `p` has been taken with this status and reply body (R171). -/
def State.answer (s : State) (p : Port) (w : Work) (st : Status) (body : List Byte) : State :=
  s.setPort p { s.ports.get p with work := some { w with phase := .done st body } }

/-! ## Mode changes (R141, R148) -/

/-- Port `p` has been posted MODE_CHANGED, after the notices already on their way to it (R148). -/
def ToldModeChange (s t : State) (p : Port) (own : Bool) (old new : Mode) (reason : Nat) (line : Option LineNo) : Prop :=
  t.wires.notices.get p = s.wires.notices.get p ++
    [{ source := .modeController, own := own,
       notice := { Notice.bare .modeChanged with modes := some (old, new), reason := some reason, line := line } }]

/-- The change is handed to the five kinds of block, the Line Block's part of STOP and SAFE entry not yet (R141). -/
def ChangeHandedOn (s t : State) (old new : Mode) (linesAtOnce : Bool) : Prop :=
  t.wires.toTimetable = s.wires.toTimetable ++ [.change { old := old, new := new, ready := true }]
  ∧ (∀ p, t.wires.toSlots.get p = s.wires.toSlots.get p ++ [.change { old := old, new := new, ready := true }])
  ∧ t.wires.toTemplates = s.wires.toTemplates ++ [.change { old := old, new := new, ready := true }]
  ∧ t.wires.toLog = s.wires.toLog ++ [.change { old := old, new := new, ready := true }]
  ∧ t.wires.toLines = s.wires.toLines ++ [.change { old := old, new := new, ready := linesAtOnce }]

/-- Everything on its way but notices, mode changes and SAFE requests is as it was. -/
def OtherWiresKept (s t : State) : Prop :=
  t.wires.timetableMotion = s.wires.timetableMotion ∧ t.wires.slotsMotion = s.wires.slotsMotion
  ∧ t.wires.edges = s.wires.edges ∧ t.wires.handOffs = s.wires.handOffs
  ∧ t.wires.boundaries = s.wires.boundaries ∧ t.wires.findings = s.wires.findings
  ∧ t.wires.toPosition = s.wires.toPosition

/-- The part enters SAFE: the cause is the first cause, every port is told, the change is handed on (R145). -/
def EntersSafe (s t : State) (cause : SafeCause) (line : Option LineNo) : Prop :=
  t.control = { s.control with mode := .safe, firstCause := some cause }
  ∧ (∀ p, ToldModeChange s t p false s.control.mode .safe cause.reason line)
  ∧ ChangeHandedOn s t s.control.mode .safe false
  ∧ OtherWiresKept s t

/-- The cause is taken in SAFE: it joins the later-cause set and nothing is handed on (R146). -/
def JoinsLaterCauses (s t : State) (cause : SafeCause) : Prop :=
  t.control = { s.control with later := s.control.later.add cause }
  ∧ t.wires.notices = s.wires.notices ∧ t.wires.toTimetable = s.wires.toTimetable ∧ t.wires.toSlots = s.wires.toSlots
  ∧ t.wires.toTemplates = s.wires.toTemplates ∧ t.wires.toLog = s.wires.toLog ∧ t.wires.toLines = s.wires.toLines
  ∧ OtherWiresKept s t

/-- A pending set with MODE_CHANGED, the lowest kind code, counted once more up to 255 (R159). -/
def withModeChanged : List (NoticeKind × Nat) → List (NoticeKind × Nat)
  | (.modeChanged, n) :: rest => (.modeChanged, min (n + 1) 255) :: rest
  | pending => (.modeChanged, 1) :: pending

/-- Every port has received the MODE_CHANGED that ends INIT: it is counted, it is the detail at priority 7, and the alert line
shows the pending set against the mask (R142, R158). -/
def ToldInitEnds (s t : State) (new : Mode) (kind : ResetKind) : Prop :=
  ∀ p, t.notices.get p = { s.notices.get p with
      pendingSet := withModeChanged (s.notices.get p).pendingSet
      detail := some { Notice.bare .modeChanged with modes := some (.init, new), reason := some kind.reason }
      alert := (t.notices.get p).alert }
    ∧ ((t.notices.get p).alert = true ↔
        ∃ k ∈ (t.notices.get p).pendingSet, (s.notices.get p).mask.getLsbD k.1.code = true)

/-- The part leaves INIT (R142): the change is handed on, and every port has received MODE_CHANGED (R158). -/
def LeavesInit (s t : State) (new : Mode) (first : Option SafeCause) : Prop :=
  t.control = { s.control with mode := new, firstCause := first }
  ∧ ToldInitEnds s t new s.control.resetKind
  ∧ t.wires.notices = s.wires.notices
  ∧ ChangeHandedOn s t .init new (decide (new ≠ .safe))
  ∧ OtherWiresKept s t

/-- A SAFE cause taken at the Mode Controller, by the mode it meets (R142, R145, R146). Only the Mode Controller, the
notices and what is on its way take part. -/
def CauseTaken (s t : State) (cause : SafeCause) (line : Option LineNo) : Prop :=
  t = { s with control := t.control, wires := t.wires, notices := t.notices }
  ∧ (s.control.mode = .safe → JoinsLaterCauses s t cause ∧ t.notices = s.notices)
  ∧ (s.control.mode = .init → LeavesInit s t .safe (some cause))
  ∧ (s.control.mode = .config ∨ s.control.mode = .run → EntersSafe s t cause line ∧ t.notices = s.notices)

/-- The supervisor's request `w` for a mode change accepted (R143, R144, R147): every port is told, the change is handed
on, the reply is OK. The Mode Controller itself is left to the rule of the request. -/
def ModeRequestAccepted (s t : State) (w : Work) (new : Mode) (reason : Nat) (linesAtOnce : Bool) : Prop :=
  t = { s with control := t.control, wires := t.wires, ports := (s.answer .A w .ok []).ports }
  ∧ (∀ p, ToldModeChange s t p (p == .A) s.control.mode new reason none)
  ∧ ChangeHandedOn s t s.control.mode new linesAtOnce
  ∧ OtherWiresKept s t
  ∧ t.wires.overrunAsks = s.wires.overrunAsks

/-- The Timetable of `t` has taken the writes of its limits that stand first in `q`, the last of them in force, and the rest of
`q` waits (R149, log 41). -/
def LimitsTaken (s t : State) (q : List BlockMessage) : Prop :=
  ∀ (vs : List TableLimits) (tail : List BlockMessage), q = vs.map (fun v => .write (.tableLimits v)) ++ tail →
    (∀ v r, tail ≠ .write (.tableLimits v) :: r) →
    t.table.limits = vs.getLast?.getD s.table.limits ∧ t.wires.toTimetable = tail

/-! ## Findings (R154, R155) -/

/-- The Mode Controller's part for a finding taken from the front of those of its kind: ENTRY_CORRUPT where `told` gives it,
the corruption count, then the causes in the order `causes` gives them (R154, R155). -/
def FindingTaken (s t : State) (told : Option Notice) (causes : List (SafeCause × Option LineNo)) : Prop :=
  let counted : State := { s with
    control := { s.control with corruption := min (s.control.corruption + 1) 15 }
    wires := { s.wires with notices := s.wires.notices.map fun q => q ++
      (told.elim [] fun n => [{ source := .modeController, own := false, notice := n }]) } }
  match causes with
  | [] => t = counted
  | [c] => CauseTaken counted t c.1 c.2 ∧ t.wires.overrunAsks = s.wires.overrunAsks
  | c :: d :: _ => ∃ u, CauseTaken counted u c.1 c.2 ∧ CauseTaken u t d.1 d.2 ∧ t.wires.overrunAsks = s.wires.overrunAsks

/-! ## Levels and engines -/

/-- The settle check of line `l` after an event from `s` to `t` that leaves `kept` there: a change of the driven level in
CONFIG or RUN starts a check on a line whose READBACK is on (R36). -/
def settleAfter (s t : State) (l : LineNo) (kept : Option SettleCheck) : Option SettleCheck :=
  if s.driven l ≠ t.driven l ∧ (s.line[l]).readback = true ∧ (t.lineBlock.mode = .config ∨ t.lineBlock.mode = .run)
  then some { start := s.now, duration := s.control.params.settle } else kept

/-- The guard of a length of rest from a fall at `fall`, none where the rest is 0. -/
def guardFrom (fall : Word32) (rest : Nat) : Option Guard :=
  if rest = 0 then none else some { fall := fall, endAt := fall + BitVec.ofNat 32 rest }

/-- An engine set to OFF with no rest, by its state before (the table of R97). -/
def SetOff (now : Word32) (rest : Nat) (before after : Engine) : Prop :=
  match before with
  | .off g => after = .off g
  | .onLatched => after = .off (guardFrom now rest)
  | .onPulse _ _ => after = .off (guardFrom now rest)
  | .resting fall restEnd _ => after = .off (some { fall := fall, endAt := restEnd })

/-- An engine whose level falls by an action or a pulse end: it rests, or is OFF where the rest is 0 (R91, R94). -/
def fallen (now : Word32) (rest : Nat) : Engine :=
  if rest = 0 then .off none else .resting now (now + BitVec.ofNat 32 rest) .none

/-! ## Steps (R9 to R15) -/

/-- A MOTION notice as it is posted (R15). -/
def motionPosted (reason : Nat) : PostedNotice where
  source := .positionUnit
  own := false
  notice := { Notice.bare .motion with reason := some reason }

/-- The table of R12 for a step: `beyond` says that the behind distance after it exceeds REVERSE_LIMIT. -/
def motionAfterStep (old : MotionState) (forward beyond : Bool) : MotionState :=
  if old = .overrun ∧ forward = false then .overrun
  else if beyond = true ∧ ¬(forward = true ∧ (old = .forward ∨ old = .reverse)) then .overrun
  else if forward then .forward else .reverse

/-- The MOTION notices of a change of motion state by a step (R15): OVERRUN 2, MOVING 1. -/
def motionNotices (old new : MotionState) : List PostedNotice :=
  if new = .overrun ∧ old ≠ .overrun then [motionPosted 2]
  else if old = .stalled ∧ new ≠ .stalled then [motionPosted 1]
  else []

/-- A step event taken at the Position Unit of `s` and handed on (R9 to R15). -/
def StepTaken (s t : State) (forward : Bool) : Prop :=
  let u := s.position
  let v := t.position
  let asks := decide (v.motion = .overrun ∧ (u.motion ≠ .overrun ∨ forward = false))
  t = { s with position := v, wires := t.wires }
  ∧ v = { u with p := v.p, epoch := v.epoch, hw := v.hw, acc := v.acc, motion := v.motion, stallStart := some s.now }
  ∧ (forward = true → v.p = u.p + 1 ∧ v.epoch = (if u.p = 0xFFFFFFFF#32 then u.epoch + 1 else u.epoch)
      ∧ v.hw = (if u.hw = u.p then v.p else u.hw) ∧ v.acc = u.acc + 1)
  ∧ (forward = false → v.p = u.p - 1 ∧ v.epoch = (if u.p = 0 then u.epoch - 1 else u.epoch) ∧ v.hw = u.hw
      ∧ v.acc = u.acc - 1)
  ∧ v.motion = motionAfterStep u.motion forward (decide (s.control.params.reverseLimit < (v.hw - v.p).toNat))
  ∧ t.wires = { s.wires with
      timetableMotion := s.wires.timetableMotion ++ [.step forward v.p asks]
      slotsMotion := t.wires.slotsMotion, notices := t.wires.notices
      overrunAsks := s.wires.overrunAsks ++ (if asks then [none] else []) }
  ∧ (∀ p, t.wires.slotsMotion.get p = s.wires.slotsMotion.get p ++ [.step forward v.p asks])
  ∧ ∀ p, t.wires.notices.get p = s.wires.notices.get p ++ motionNotices u.motion v.motion

/-- A quadrature change that is one place forward in the sequence 00, 10, 11, 01 (R5). -/
def quadForward (refA refB a b : Bool) : Prop :=
  (refA, refB, a, b) ∈ [(false, false, true, false), (true, false, true, true), (true, true, false, true),
    (false, true, false, false)]

/-- The stall timer's expiry taken at the Position Unit (R13, R15). -/
def StallTaken (s t : State) : Prop :=
  t = { s with
    position := { s.position with
      motion := if s.position.motion = .overrun then .overrun else .stalled, stallStart := none }
    wires := { s.wires with notices := t.wires.notices } }
  ∧ ∀ p, t.wires.notices.get p = s.wires.notices.get p ++
      (if s.position.motion = .forward ∨ s.position.motion = .reverse then [motionPosted 0] else [])

/-! ## Leases (R24, R25) -/

/-- The table of R25 refuses line record `r` to port `p`. -/
def LeaseRefused (p : Port) (exclusive : Bool) (r : LineRec) : Prop :=
  (r.leaseMode = .exclusive ∧ r.heldBy p = false)
  ∨ (r.leaseMode = .shared ∧ exclusive = true ∧ (r.heldBy p = false ∨ r.shares.length ≠ 1))

/-- The lease mode a line requested in a mode takes (R25). -/
def requestedMode (exclusive : Bool) : LeaseMode := if exclusive then .exclusive else .shared

/-- The table of R25 for a line record that it grants to port `p`: mode and shares; the code follows R21. -/
def leased (p : Port) (exclusive lapse : Bool) (r : LineRec) : LineRec :=
  LineRec.recode r { r with
    leaseMode := if r.leaseMode = .shared ∧ ¬(r.heldBy p = true ∧ r.shares.length = 1) then .shared
      else requestedMode exclusive
    shares := if r.heldBy p then r.shares.map fun h => if h.port = p then { h with lapse := lapse } else h
      else r.shares ++ [{ port := p, lapse := lapse, age := 0 }] }

/-- A line record without the shares that a test picks; the last share dropped makes the line FREE, and the code follows
R21. -/
def withoutShares (drop : Share → Bool) (r : LineRec) : LineRec :=
  let hs := r.shares.filter fun h => !drop h
  if hs = r.shares then r
  else LineRec.recode r { r with shares := hs, leaseMode := if hs = [] then .free else r.leaseMode }

/-! ## Timetable (chapter 3) -/

/-- A notice of the Timetable as it is posted. -/
def timetablePosted (n : Notice) : PostedNotice where
  source := .timetable
  own := false
  notice := n

/-- A notice that names an entry: handle, tag, template and capture sequence (section 9.1). -/
def entryTold (k : NoticeKind) (f : EntryFields) : Notice :=
  { Notice.bare k with handle := some f.handle, tag := f.origin.tag, template := f.origin.templateNo,
                       seq := f.origin.captureSeq }

/-- A live entry after a forward step to `pos`: fired, or its default applied, or as it was (R56, R57, R60). -/
def afterForwardStep (pos : Word32) (e : Entry) : Option Entry :=
  match e.fields.stage with
  | .armed => if e.fields.due = pos then none else some e
  | .held d dflt =>
    if d = pos then
      match dflt with
      | .fire => some { e with fields := { e.fields with stage := .armed }, code := { e.fields with stage := .armed } }
      | .drop => none
    else some e

/-- The oldest write of the parameter `w` among the messages of a block: it writes `v`, and `rest` is what waits beside it. -/
def OldestWrite {α : Type} (w : α → ParamWrite) (v : α) (q rest : List BlockMessage) : Prop :=
  ∃ pre post, q = pre ++ .write (w v) :: post ∧ rest = pre ++ post ∧ ∀ x, .write (w x) ∉ pre

/-- The first step at the Timetable waits: the step before it asked for SAFE, and that request has not been taken at the Mode
Controller with its emptying at the Timetable (R49, log 10). -/
def StepWaits (s : State) : Prop :=
  (∃ d v asks rest, s.wires.timetableMotion = .step d v asks :: rest)
  ∧ s.table.askedSafe = true ∧ s.wires.overrunAsks.head? ≠ some (some 0)

/-- The steps and presets at the Timetable let a change into RUN be taken there: none is a preset (R20, log 11), and none is a
step whose SAFE request has been taken at the Mode Controller with its emptying here (R49, log 10), but for those behind a step
that itself waits. -/
def RunMayBeTaken (s : State) : Prop :=
  StepWaits s ∨ ((∀ v, .preset v ∉ s.wires.timetableMotion)
    ∧ some 0 ∉ (if s.table.askedSafe then s.wires.overrunAsks.drop 1 else s.wires.overrunAsks))

/-- A step stands first among the steps and presets at the Timetable and may be taken there (R11, R49). -/
def StepReady (s : State) (forward : Bool) (pos : Word32) (asks : Bool) (rest : List MotionEvent) : Prop :=
  s.inReset = none ∧ s.wires.timetableMotion = .step forward pos asks :: rest ∧ ¬StepWaits s

/-- The Timetable and the SAFE requests after a step to `pos`, before it acts: the settled request of the step before it, if it
asked for SAFE, goes (R49, log 10). -/
def SteppedTo (s : State) (pos : Word32) (asks : Bool) (rest : List MotionEvent) : State :=
  { s with
    table := { s.table with pos := pos, askedSafe := asks }
    wires := { s.wires with
      timetableMotion := rest
      overrunAsks := if s.table.askedSafe then s.wires.overrunAsks.drop 1 else s.wires.overrunAsks } }

/-! ## Fires and decisions in their order (R57, R60, R89, R100 to R102) -/

/-- A line that an action reaches: a forced line takes nothing, any other hands it to its engine, counts it and shows its
activity (R32, R89). -/
def actedOn (now : Word32) (a : LineAction) (r : LineRec) : LineRec :=
  if r.force ≠ .none then r
  else { r with engine := r.engine.deliver now r.rest a, fireCount := r.fireCount + 1, history := r.history ||| 1 }

/-- What the action did to the line (R89). -/
def lineOutcome (now : Word32) (a : LineAction) (r : LineRec) : LineOutcome :=
  if r.force ≠ .none then .suppressed else (r.engine.deliver now r.rest a).outcome

/-- The lines after an entry has acted on them (R57). -/
def linesActed (now : Word32) (f : EntryFields) (v : Vector LineRec 32) : Vector LineRec 32 :=
  Vector.ofFn fun l => if hasLine f.lines l then actedOn now f.action v[l] else v[l]

/-- The notices that a fire sends its owner: FIRED if the report flag is set, then FIRE_SUPPRESSED if a line was suppressed
(R100 to R102). -/
def fireTold (now : Word32) (f : EntryFields) (v : Vector LineRec 32) : List PostedNotice :=
  let outs := (linesOf f.lines).map fun l => lineOutcome now f.action v[l]
  let sup := (linesOf f.lines).filter fun l => decide ((v[l]).force ≠ .none)
  (if f.report then [timetablePosted { entryTold .fired f with
      reason := some ((if .applied ∈ outs then 1 else 0) + (if .delayed ∈ outs then 2 else 0)
        + (if .suppressed ∈ outs then 4 else 0))
      count := some outs.length }] else [])
  ++ (if sup = [] then [] else [timetablePosted { entryTold .fireSuppressed f with
      line := sup.head?, count := some sup.length }])

/-- The lines after entries have fired one after another; an entry found corrupt reaches no line (R57, R71). -/
def linesAfterFires (now : Word32) (v : Vector LineRec 32) : List Entry → Vector LineRec 32
  | [] => v
  | e :: rest => linesAfterFires now (if e.codeOk then linesActed now e.fields v else v) rest

/-- What port `p` is told of entries that fire one after another (R57, R101, R102). -/
def firesTold (now : Word32) (p : Port) (v : Vector LineRec 32) : List Entry → List PostedNotice
  | [] => []
  | e :: rest =>
    (if e.codeOk = true ∧ e.fields.owner = p then fireTold now e.fields v else [])
    ++ firesTold now p (if e.codeOk then linesActed now e.fields v else v) rest

/-- What port `p` is told of an entry decided by its default (R60). -/
def decisionTold (p : Port) (e : Entry) : List PostedNotice :=
  match e.fields.stage with
  | .armed => []
  | .held _ d => if e.fields.owner = p then [timetablePosted { entryTold .defaultApplied e.fields with
      reason := some (match d with | .fire => 0 | .drop => 1) }] else []

/-- No position at which a HELD entry is decided is also its due (R49). -/
def DecisionsBeforeDues (t : Timetable) : Prop :=
  ∀ e ∈ t.live, ∀ d, e.fields.stage.decision = some d → e.fields.due ≠ d

/-- The line records of a set agree with their check codes, so that a consultation about them clears none (R153). -/
def CodesMatch (s : State) (x : LineSet) : Prop := ∀ l : LineNo, hasLine x l = true → (s.line[l]).codeOk = true

/-- Every line of the set is leased to the port (R23). -/
def AllLeased (s : State) (p : Port) (x : LineSet) : Prop := ∀ l : LineNo, hasLine x l = true → (s.line[l]).heldBy p = true

/-- Line `l` is the lowest of the set that meets a test. -/
def IsLowest (x : LineSet) (test : LineNo → Bool) (l : LineNo) : Prop :=
  hasLine x l = true ∧ test l = true ∧ ∀ k : LineNo, k < l → hasLine x k = true → test k = false

/-- The conflict check refuses a proposal of port `p` with these conflicts (R54). -/
def ConflictRefuses (q : TableLimits) (p : Port) (found : List (Entry × LineSet)) : Prop :=
  (∃ c ∈ found, ∃ l : LineNo, hasLine c.2 l = true ∧ q.policy[l] = .refuseLater)
  ∨ (∃ c ∈ found, ¬q.rankOf p < q.rankOf c.1.fields.owner)

/-- The DISPLACED notices that port `p` receives for the displaced entries (R55), one after another in the order of their
commits: the model's order (log 23). -/
def displacedTold (p : Port) (found : List (Entry × LineSet)) : List PostedNotice :=
  (found.filter fun c => c.1.fields.owner == p).map fun c =>
    timetablePosted { entryTold .displaced c.1.fields with line := (linesOf c.2).head? }

/-- The live entries that stay when those of `found` are displaced. -/
def withoutDisplaced (live : List Entry) (found : List (Entry × LineSet)) : List Entry :=
  live.filter fun e => !(found.any fun c => c.1.index == e.index)

/-- A proposal placed in the table: the displaced entries leave, the new one takes the lowest free index, the next
generation of it and the next commit number (R45, R47, R52, R55). The order of the DISPLACED notices is the model's (log 23). -/
def AdmittedInto (s : State) (n : Proposal) (found : List (Entry × LineSet)) (h : Handle) (t : State) : Prop :=
  let stay := withoutDisplaced s.table.live found
  let f : EntryFields := { handle := h, owner := n.owner, origin := n.origin, lines := n.lines, action := n.action,
                           due := n.due, report := n.report, stage := n.stage, commitNo := s.table.commitCounter }
  (∀ e ∈ stay, e.index ≠ h.index) ∧ (∀ j : Fin 256, j < h.index → ∃ e ∈ stay, e.index = j)
  ∧ h.generation = s.table.generations[h.index] + 1
  ∧ t = { s with
      table := { s.table with
        live := stay ++ [{ index := h.index, fields := f, code := f }]
        generations := s.table.generations.set h.index h.generation
        commitCounter := s.table.commitCounter + 1
        liveCount := t.table.liveCount }
      wires := { s.wires with notices := t.wires.notices } }
  ∧ (∀ p, t.table.liveCount.get p = ownedBy t.table.live p)
  ∧ ∀ p, t.wires.notices.get p = s.wires.notices.get p ++ displacedTold p found

/-- The Timetable of `t` is that of `s` with the entries that a test picks taken out, the live counts with them; nothing else
differs. -/
def EntriesRemoved (s t : State) (gone : Entry → Bool) : Prop :=
  t = { s with table := { s.table with
    live := s.table.live.filter fun e => !gone e, liveCount := t.table.liveCount } }
  ∧ ∀ p, t.table.liveCount.get p = ownedBy t.table.live p

/-! ## Sensors (R106 to R108) -/

/-- The pending change `c` of sensor `k` completes in `s`: a filtered edge, selected by SENSOR_EDGE and tested for
spacing (R106 to R108). -/
def EdgeMade (s : State) (k : SensorNo) (c : PendingChange) (t : State) : Prop :=
  let x := s.sensor[k]
  let y := { x with filtered := !x.filtered, pend := none }
  let e : Edge := if x.filtered then .falling else .rising
  let chosen := s.control.params.sensorEdge[k] = .both ∨ s.control.params.sensorEdge[k] = (if x.filtered then .falling else .rising)
  let near := ∃ last, x.last = some last ∧ last.2 = c.reading.frame
    ∧ modularDistance c.reading.pos last.1 < s.control.params.sensorSpacing[k]
  (¬chosen → t = { s with sensor := s.sensor.set k y })
  ∧ (chosen → near → t = { s with sensor := s.sensor.set k { y with rejected := satInc x.rejected } })
  ∧ (chosen → ¬near → t = { s with
      sensor := s.sensor.set k { y with last := some (c.reading.pos, c.reading.frame) }
      wires := { s.wires with
        edges := s.wires.edges ++ [{ sensor := k, edge := e, reading := c.reading, time := c.start }] } })

/-- The records of the Capture Log that stay after the test of R112: the oldest with an empty outstanding set leave. -/
def held (records : List Capture) : List Capture := records.dropWhile fun c => decide (c.outstanding = PortSet.empty)

/-! ## Parameters (section 8.4) -/

/-- The range of a parameter, or of its codes, by the table of section 8.4. -/
def ParamId.range : ParamId → Nat × Nat
  | .motionSource => (0, 2)
  | .internalRate => (1, 65535)
  | .stallTime => (1, 65535)
  | .speedWindow => (1, 255)
  | .reverseLimit => (0, 65535)
  | .commitLead => (1, 65535)
  | .guard _ => (0, 65535)
  | .policy _ => (0, 2)
  | .rest _ => (0, 65535)
  | .readback _ => (0, 1)
  | .settle => (1, 255)
  | .faultThreshold => (1, 15)
  | .historyPeriod => (0, 4)
  | .quota _ => (0, 256)
  | .portPriority _ => (0, 4)
  | .sensorEdge _ => (0, 3)
  | .sensorFilter _ => (0, 255)
  | .sensorSpacing _ => (0, 65535)
  | .corruptLimit => (1, 15)

/-- Checks 3 and 4 of R149 for the value `n` against the parameter set and the corruption count (R150). -/
def valueAccepted (c : ModeController) (id : ParamId) (n : Nat) : Prop :=
  id.range.1 ≤ n ∧ n ≤ id.range.2
  ∧ (id = .corruptLimit → c.corruption < n)
  ∧ (∀ r, id = .portPriority r → n < 4 → ∀ r', c.params.value (.portPriority r') = n → r' = r)

/-! ## Reset values -/

/-- The Position Unit at its reset values (R1). -/
def PositionReset (s : State) : Prop :=
  let u := s.position
  u.p = 0 ∧ u.hw = 0 ∧ u.epoch = 0 ∧ u.frame = 0 ∧ u.speed = 0 ∧ u.motion = .stalled ∧ u.quadErrors = 0
  ∧ u.refA = s.pinA ∧ u.refB = s.pinB ∧ u.stallStart = none ∧ u.acc = 0 ∧ u.windowStart = 0
  ∧ u.rateStart = (if s.control.params.motionSource = .internal then some 0 else none)
  ∧ u.source = s.control.params.motionSource ∧ u.rate = s.control.params.internalRate
  ∧ u.stallTime = s.control.params.stallTime ∧ u.window = s.control.params.speedWindow

/-- Every line record at its reset values (R22); the engine is OFF (R88). -/
def LinesReset (s : State) : Prop :=
  (∀ l : LineNo, (s.line[l]).leaseMode = .free ∧ (s.line[l]).shares = [] ∧ (s.line[l]).force = .none
    ∧ (s.line[l]).fault = .ok ∧ (s.line[l]).mismatch = 0 ∧ (s.line[l]).history = 0 ∧ (s.line[l]).fireCount = 0
    ∧ (s.line[l]).settle = none ∧ (s.line[l]).code = (s.line[l]).covered ∧ (∃ g, (s.line[l]).engine = .off g)
    ∧ (s.line[l]).rest = s.control.params.rest[l] ∧ (s.line[l]).readback = s.control.params.readback[l])
  ∧ s.lineBlock = { mode := .init, historyStart := 0, historyPeriod := s.control.params.historyPeriod }

/-- Timetable, slots and templates empty (R69, R73, R122). -/
def WorkReset (s : State) : Prop :=
  s.table.live = [] ∧ (∀ i : Fin 256, s.table.generations[i] = 0) ∧ s.table.commitCounter = 0
  ∧ (∀ p, s.table.liveCount.get p = 0) ∧ s.table.pos = 0 ∧ s.table.mode = .init ∧ s.table.askedSafe = false
  ∧ s.table.limits = s.control.params.limits
  ∧ (∀ p, (∀ i : Fin 4, (s.slots.get p).slot[i] = none) ∧ (s.slots.get p).age = [] ∧ (s.slots.get p).pos = 0
      ∧ (s.slots.get p).mode = .init ∧ (s.slots.get p).lead = s.control.params.commitLead)
  ∧ (∀ n : TemplateNo, s.templates.place[n] = none) ∧ s.templates.mode = .init

/-- Sensors and Capture Log at their reset values (R105, R120). -/
def CapturesReset (s : State) : Prop :=
  (∀ k : SensorNo, (s.sensor[k]).filtered = (s.sensor[k]).raw ∧ (s.sensor[k]).pend = none ∧ (s.sensor[k]).last = none
    ∧ (s.sensor[k]).rejected = 0 ∧ (s.sensor[k]).filter = s.control.params.sensorFilter[k])
  ∧ s.log.records = [] ∧ s.log.next = 0 ∧ s.log.mode = .init ∧ s.log.overwriteDue = false
  ∧ (∀ p, s.log.subscription.get p = 0 ∧ s.log.cursor.get p = 0 ∧ s.log.lost.get p = 0)

/-- The Mode Controller at its reset values, the parameter set apart (R140). -/
def ControlReset (s : State) : Prop :=
  s.control.mode = .init ∧ s.control.firstCause = none ∧ s.control.later = CauseSet.empty ∧ s.control.corruption = 0
  ∧ s.control.scrubPos = 0 ∧ s.control.scrubRounds = 0 ∧ s.control.visitStart = 0 ∧ s.control.softArmed = false

/-- The port records at their reset values (R167): a transaction in progress is answered EEh until its release. -/
def PortRecordsReset (s : State) : Prop :=
  ∀ p, (s.ports.get p).state = .idle ∧ (s.ports.get p).buffer = [] ∧ (s.ports.get p).reply = none
    ∧ (s.ports.get p).dropped = false ∧ (s.ports.get p).framing = 0 ∧ (s.ports.get p).crc = 0
    ∧ (s.ports.get p).busy = 0 ∧ (s.ports.get p).work = none ∧ (s.ports.get p).cut = false
    ∧ (s.ports.get p).refusing = (s.ports.get p).selected

/-- Notice Unit and ports at their reset values (R158, R167), nothing on its way (R140). -/
def PortsReset (s : State) : Prop :=
  (∀ p, (s.notices.get p).pendingSet = [] ∧ (s.notices.get p).detail = none ∧ (s.notices.get p).mask = 0x3FFE#16
    ∧ (s.notices.get p).alert = false)
  ∧ PortRecordsReset s
  ∧ s.wires = Wires.empty

/-- Every block stands at its reset values and device time at 0 (R2). -/
def AtResetValues (s : State) : Prop :=
  s.now = 0 ∧ PositionReset s ∧ LinesReset s ∧ WorkReset s ∧ CapturesReset s ∧ ControlReset s ∧ PortsReset s

/-- The pins and the queue are as they were. -/
def PinsKept (s t : State) : Prop :=
  t.pending = s.pending ∧ t.pinA = s.pinA ∧ t.pinB = s.pinB ∧ t.pinReadback = s.pinReadback
  ∧ t.pinSafeIn = s.pinSafeIn ∧ (∀ k : SensorNo, (t.sensor[k]).raw = (s.sensor[k]).raw)
  ∧ (∀ p, (t.ports.get p).selected = (s.ports.get p).selected)

/-- The part held at its reset values by a reset of kind `k` by power or RESETN (R140). -/
def HeldInReset (s t : State) (k : ResetKind) : Prop :=
  t.inReset = some k ∧ AtResetValues t ∧ t.control.params = Params.default ∧ t.control.resetKind = k ∧ PinsKept s t
  ∧ t.freeCount = s.freeCount ∧ (∀ l : LineNo, (t.line[l]).engine = .off none ∧ t.out l = false)
  ∧ t.safeOut = false ∧ (∀ p, t.alertAsserted p = false)

/-- INIT has ended in SAFE as the reset of kind `k` ended, SAFEIN being high (R142): only the mode and its first cause, the
MODE_CHANGED that every port has received (R158) and the change on its way differ from the reset values. -/
def SafeAtResetEnd (t : State) (k : ResetKind) : Prop :=
  let c : ModeChange := { old := .init, new := .safe, ready := true }
  t.now = 0 ∧ PositionReset t ∧ LinesReset t ∧ WorkReset t ∧ CapturesReset t ∧ PortRecordsReset t
  ∧ t.control.mode = .safe ∧ t.control.firstCause = some .safeIn
  ∧ ControlReset { t with control := { t.control with mode := .init, firstCause := none } } ∧ t.safeOut = true
  ∧ (∀ p, t.notices.get p = {
      pendingSet := [(.modeChanged, 1)]
      detail := some { Notice.bare .modeChanged with modes := some (.init, .safe), reason := some k.reason }
      mask := 0x3FFE#16, alert := true })
  ∧ t.wires = { Wires.empty with
      toTimetable := [.change c], toSlots := PerPort.const [.change c], toTemplates := [.change c], toLog := [.change c]
      toLines := [.change { c with ready := false }] }

/-- The end of a reset of kind `k` that started in `s`: the parameters kept, the pins read (R140, R142). -/
def ResetEnded (s t : State) (k : ResetKind) : Prop :=
  t.inReset = none ∧ PinsKept s t ∧ t.control.params = s.control.params ∧ t.control.resetKind = k
  ∧ t.freeCount = s.freeCount
  ∧ (s.pinSafeIn = false → AtResetValues t)
  ∧ (s.pinSafeIn = true → SafeAtResetEnd t k)

/-- The soft reset, which starts and ends in `s`: the parameters are kept, and an engine that was at work or guarded keeps
a guard from the end of the reset (R88, R157). -/
def SoftlyReset (s t : State) : Prop :=
  ResetEnded s t .soft
  ∧ (∀ l : LineNo, (s.line[l]).engine = .off none → (t.line[l]).engine = .off none)
  ∧ (∀ l : LineNo, (s.line[l]).engine ≠ .off none → (t.line[l]).engine = .off (guardFrom 0 s.control.params.rest[l]))

/-! ## Laws of the Capture Log (R111) -/

/-- At most 64 records with consecutive sequences that end below N; a record waits for a port only if the port's cursor is
at or below it; no cursor lags further than its bound. -/
def LogLaw (g : CaptureLog) : Prop :=
  g.records.length ≤ Config.logCapacity
  ∧ (∀ (i : Nat) (h : i < g.records.length),
      (g.records[i]).seq = g.next - BitVec.ofNat 32 (g.records.length - i))
  ∧ (∀ c ∈ g.records, ∀ p, c.outstanding.get p = true → g.lag c.seq ≤ g.lag (g.cursor.get p))
  ∧ (∀ p, g.lag (g.cursor.get p) ≤ Config.cursorLagBound)

/-! ## Laws of the Timetable (R45, R46, R47, R51) -/

/-- At most 256 live entries at distinct indices, each under the handle its index gives, and live counts that count. -/
def TableLaw (t : Timetable) : Prop :=
  t.live.length ≤ Config.tableCapacity
  ∧ (t.live.map Entry.index).Nodup
  ∧ (∀ e ∈ t.live, e.fields.handle = { index := e.index, generation := t.generations[e.index] })
  ∧ (∀ p, t.liveCount.get p = ownedBy t.live p)

/-! ## Laws of a port's slots (R72) -/

/-- Whether two slots have the same merge key (R72). -/
def sameMergeKey (x y : SlotContent) : Prop :=
  x.due = y.due ∧ x.action = y.action ∧ x.tag = y.tag ∧ x.report = y.report

/-- The age list holds each occupied slot once and no empty slot, and no two slots without NO_MERGE share a merge key. -/
def SlotsLaw (b : Slots) : Prop :=
  b.age.Nodup
  ∧ (∀ i : Fin 4, i ∈ b.age ↔ (b.slot[i]).isSome = true)
  ∧ (∀ i j : Fin 4, ∀ x y, b.slot[i] = some x → b.slot[j] = some y → x.noMerge = false → y.noMerge = false →
      sameMergeKey x y → i = j)

/-! ## Laws of a line record (R21, section 2.1) -/

/-- The lease mode agrees with the shares, which belong to distinct ports, and the counts keep their ceilings. -/
def LineLaw (r : LineRec) : Prop :=
  (r.leaseMode = .free ↔ r.shares = [])
  ∧ (r.leaseMode = .exclusive → r.shares.length = 1)
  ∧ (r.shares.map Share.port).Nodup
  ∧ (∀ h ∈ r.shares, h.age ≤ Config.ageCeiling)
  ∧ r.mismatch ≤ Config.mismatchCeiling

/-! ## Laws of a port's notices (R159 to R161) -/

/-- The pending set stands in ascending kind code with counts of 1 to 255, the detail is there exactly when a kind is
pending, and the alert line shows the pending set against the mask. -/
def NoticeLaw (m : Mode) (x : NoticeState) : Prop :=
  x.pendingSet.Pairwise (fun a b => a.1.code < b.1.code)
  ∧ (∀ k ∈ x.pendingSet, 1 ≤ k.2 ∧ k.2 ≤ Config.pendingCeiling)
  ∧ (x.detail = none ↔ x.pendingSet = [])
  ∧ x.mask.getLsbD 0 = false
  ∧ (x.alert = true ↔ m ≠ .init ∧ ∃ k ∈ x.pendingSet, inMask x.mask k.1 = true)

/-! ## Laws of the Mode Controller (R145 to R147, R155) -/

/-- A first cause exactly in SAFE, later causes only there; outside SAFE the corruption count is below its limit. -/
def ControlLaw (c : ModeController) : Prop :=
  (c.mode = .safe ↔ c.firstCause ≠ none)
  ∧ (c.mode ≠ .safe → c.later = CauseSet.empty ∧ c.corruption < c.params.corruptLimit)
  ∧ c.corruption ≤ Config.corruptionCeiling
  ∧ 1 ≤ c.params.corruptLimit ∧ c.params.corruptLimit ≤ 15
  ∧ c.scrubPos < Config.scrubRecords

/-! ## Laws of a port (R168 to R173) -/

/-- A reply is held exactly from its making to its end, work stands only in WORKING, a transaction that the port takes
part in is selected and not refused, and only port A's work is a supervisor request. -/
def PortLaw (p : Port) (r : PortRec) : Prop :=
  (r.reply.isSome = true ↔ r.state = .replyReady ∨ r.state = .replying)
  ∧ (r.work.isSome = true → r.state = .working)
  ∧ (r.state = .receiving ∨ r.state = .replyReady ∨ r.state = .replying → r.selected = true ∧ r.refusing = false)
  ∧ (r.state = .working → r.cut = false → r.selected = true ∧ r.refusing = false ∧ r.work.isSome = true)
  ∧ (r.state = .working → r.work = none → r.refusing = true)
  ∧ (r.refusing = true → r.selected = true)
  ∧ (r.cut = true → r.state = .working)
  ∧ r.buffer.length ≤ Config.maxRequestBytes
  ∧ (∀ w, r.work = some w → w.kind.supervisor = true → p = .A)

/-! ## Laws of the mode across the blocks (R104, R141) -/

/-- The mode changes among a block's messages, oldest first. -/
def changesOf (q : List BlockMessage) : List ModeChange :=
  q.filterMap fun m => match m with
    | .change c => some c
    | .write _ => none

/-- The mode changes that the Mode Controller makes (section 8.2). -/
def legalChange (old new : Mode) : Bool :=
  match old, new with
  | .init, .config => true
  | .init, .safe => true
  | .config, .run => true
  | .config, .safe => true
  | .run, .config => true
  | .run, .safe => true
  | .safe, .config => true
  | _, _ => false

/-- The changes lead, each from the mode the one before left, from the block's mode to the Mode Controller's. -/
def leadsTo (m : Mode) : List ModeChange → Mode → Prop
  | [], last => m = last
  | c :: rest, last => c.old = m ∧ legalChange c.old c.new = true ∧ leadsTo c.new rest last

/-- An engine that is OFF, a guard running or not. -/
def Engine.isOff : Engine → Bool
  | .off _ => true
  | .onLatched => false
  | .onPulse _ _ => false
  | .resting _ _ _ => false

/-- A change without its mark of readiness. -/
def ModeChange.modes (c : ModeChange) : Mode × Mode := (c.old, c.new)

/-- The Line Block's changes `l` against the Timetable's `t`: the later changes are the same, STOP and SAFE entry are ready
exactly when the Timetable has taken them, and no change into RUN has been taken at the Timetable ahead of the Line
Block. -/
def InStep (t l : List ModeChange) : Prop :=
  ((l.map ModeChange.modes) <:+ (t.map ModeChange.modes) ∨ (t.map ModeChange.modes) <:+ (l.map ModeChange.modes))
  ∧ (∀ (i : Nat) (h : i < l.length), (l[i]).teardown = true → ((l[i]).ready = true ↔ i + t.length < l.length))
  ∧ (∀ (i : Nat) (h : i < l.length), (l[i]).teardown = false → (l[i]).ready = true)
  ∧ (∀ (i : Nat) (h : i < l.length), i + t.length < l.length → (l[i]).new ≠ .run)
  ∧ (∀ (i : Nat) (h : i < t.length), i + l.length < t.length → (t[i]).teardown = false)

/-- Every block follows the Mode Controller through the changes it has yet to take; outside RUN the Timetable and the slots
are empty and every engine is OFF. -/
def ModeLaw (s : State) : Prop :=
  leadsTo s.table.mode (changesOf s.wires.toTimetable) s.control.mode
  ∧ leadsTo s.lineBlock.mode (changesOf s.wires.toLines) s.control.mode
  ∧ (∀ p, leadsTo (s.slots.get p).mode (changesOf (s.wires.toSlots.get p)) s.control.mode)
  ∧ leadsTo s.templates.mode (changesOf s.wires.toTemplates) s.control.mode
  ∧ leadsTo s.log.mode (changesOf s.wires.toLog) s.control.mode
  ∧ InStep (changesOf s.wires.toTimetable) (changesOf s.wires.toLines)
  ∧ (s.table.mode ≠ .run → s.table.live = [])
  ∧ (∀ p, (s.slots.get p).mode ≠ .run → ∀ i : Fin 4, (s.slots.get p).slot[i] = none)
  ∧ (s.lineBlock.mode ≠ .run → ∀ l : LineNo, ((s.line[l]).engine).isOff = true)

/-! ## Laws of the Timetable's parameters (R51, R53, R54, R149, R150) -/

/-- No port stands at two ranks (R150). -/
def TableLimits.distinct (v : TableLimits) : Prop :=
  ∀ r k : Fin 4, v.portPriority[r] ≠ none → v.portPriority[r] = v.portPriority[k] → r = k

/-- The limits lead from those in force in mode `m`, through the writes on their way, to the Mode Controller's: a write is
reached in CONFIG, and in RUN every rank is held (R143, R149). -/
def limitsLead (m : Mode) (v : TableLimits) : List BlockMessage → TableLimits → Prop
  | [], last => v = last ∧ (m = .run → ∀ r : Fin 4, v.portPriority[r] ≠ none)
  | .change c :: rest, last => (m = .run → ∀ r : Fin 4, v.portPriority[r] ≠ none) ∧ limitsLead c.new v rest last
  | .write w :: rest, last => ∃ u, w = .tableLimits u ∧ u.distinct ∧ m = .config ∧ limitsLead m u rest last

/-- The limits in force at the Timetable follow the Mode Controller's, no write waits there ahead of every mode change, no port
owns more entries than its quota, and no two live entries of different owners share a line that is not MERGE within its
guard (R51, R53). -/
def State.limitsLaw (s : State) : Prop :=
  limitsLead s.table.mode s.table.limits s.wires.toTimetable s.control.params.limits
  ∧ (∀ w rest, s.wires.toTimetable ≠ .write w :: rest)
  ∧ s.table.limits.distinct ∧ s.control.params.limits.distinct
  ∧ (∀ p, ownedBy s.table.live p ≤ s.table.limits.quota.get p)
  ∧ ∀ x ∈ s.table.live, ∀ y ∈ s.table.live, x.fields.owner ≠ y.fields.owner → ∀ l : LineNo,
      hasLine x.fields.lines l = true → hasLine y.fields.lines l = true → s.table.limits.policy[l] ≠ .merge →
      s.table.limits.guard[l] ≤ modularDistance x.fields.due y.fields.due

/-! ## The laws together, one for each statement about steps -/

/-- R111 in a state. -/
def State.logLaw (s : State) : Prop := LogLaw s.log

/-- R45 to R47 and R51 in a state. -/
def State.tableLaw (s : State) : Prop := TableLaw s.table

/-- R72 in a state. -/
def State.slotsLaw (s : State) : Prop := ∀ p, SlotsLaw (s.slots.get p)

/-- R21 in a state. -/
def State.lineLaw (s : State) : Prop := ∀ l : LineNo, LineLaw s.line[l]

/-- R159 to R161 in a state. -/
def State.noticeLaw (s : State) : Prop := ∀ p, NoticeLaw s.control.mode (s.notices.get p)

/-- R145 to R147 and R155 in a state. -/
def State.controlLaw (s : State) : Prop := ControlLaw s.control

/-- R168 to R173 in a state. -/
def State.portLaw (s : State) : Prop := ∀ p, PortLaw p (s.ports.get p)

end Sys2Proof.Machine
end

