-- ==== Sys2Proof/Certificates/Slice0/Obligations.lean ====
section
/-! DEFINITION. The statements for the provers. Where a statement rests on a choice of the model, its docstring names the
log entry. -/

set_option autoImplicit false

open Sys2Proof Sys2Proof.Machine

/-! ## Steps of the model -/

/-- A step with a command at the front of the queue is that command on the state with the queue's rest. -/
def Obligations.StepTakesTheFrontCommand : Prop :=
  ∀ (c : Instr) (rest : List Instr) (s : State), step { s with pending := c :: rest } = exec c { s with pending := rest }

/-- With no command waiting, a microsecond passes only when no timer of the part has expired (R2, R3); in a reset time
stands still. That the part's clock takes what is due one event a step is the model's choice (log 2). -/
def Obligations.TimePassesOnlyWhenNothingIsDue : Prop :=
  ∀ s : State, s.pending = [] →
    (∀ k, s.inReset = some k → step s = .next s)
    ∧ (∀ c, s.inReset = none → dueEvent s = some c → step s = exec c { s with freeCount := s.freeCount + 1 })
    ∧ (s.inReset = none → dueEvent s = none →
        step s = .next { s with now := s.now + 1 }
        ∧ (∀ t, s.position.stallStart = some t → (s.now - t).toNat < s.position.stallTime * 1000)
        ∧ (∀ t, s.position.rateStart = some t → (s.now - t).toNat < s.position.rate)
        ∧ (s.now - s.position.windowStart).toNat < s.position.window * 1000
        ∧ (s.now - s.lineBlock.historyStart).toNat < s.lineBlock.historyPeriod.micros
        ∧ (s.now - s.control.visitStart).toNat < 32
        ∧ (∀ l : LineNo, ∀ c, (s.line[l]).settle = some c → (s.now - c.start).toNat < c.duration)
        ∧ (∀ l : LineNo, ∀ e f, (s.line[l]).engine = .onPulse e f → e ≠ s.now)
        ∧ (∀ l : LineNo, ∀ f e q, (s.line[l]).engine = .resting f e q → e ≠ s.now)
        ∧ (∀ l : LineNo, ∀ g, (s.line[l]).engine = .off (some g) → g.endAt ≠ s.now)
        ∧ (∀ k : SensorNo, ∀ c, (s.sensor[k]).pend = some c → (s.now - c.start).toNat < (s.sensor[k]).filter)
        ∧ (∀ p w, (s.ports.get p).work = some w → (s.now - w.since).toNat < 40))

/-- Every command is taken: none stops the part. While a reset is in force only pins, selects and resets act; the ports
answer busy and take nothing (R1, R105, R140, R167). -/
def Obligations.EveryCommandIsTakenAndResetsHoldTheBlocks : Prop :=
  (∀ (c : Instr) (s : State), ∃ t, exec c s = .next t)
  ∧ (∀ s : State, ∃ t, step s = .next t)
  ∧ ∀ (s : State) (k : ResetKind), s.inReset = some k →
      (∀ a b, exec (.motionInputChange a b) s = .next { s with pinA := a, pinB := b })
      ∧ (∀ b, exec (.stepInputRise b) s = .next { s with pinA := true, pinB := b })
      ∧ (∀ (n : SensorNo) (v : Bool),
          exec (.sensorRawChange n v) s = .next { s with sensor := s.sensor.set n { s.sensor[n] with raw := v } })
      ∧ exec .safeinAssert s = .next { s with pinSafeIn := true }
      ∧ exec .safeinDeassert s = .next { s with pinSafeIn := false }
      ∧ (∀ p, (s.ports.get p).selected = false → exec (.selectFall p) s =
          .next { s with ports := s.ports.set p { s.ports.get p with selected := true, refusing := true } })
      ∧ (∀ p, (s.ports.get p).selected = true → (s.ports.get p).refusing = true → (s.ports.get p).state = .idle →
          exec (.selectRelease p) s = .next { s with
            ports := s.ports.set p { s.ports.get p with selected := false, refusing := false, buffer := [] } })
      ∧ (∀ c : Instr, c ≠ .powerOnReset → c ≠ .resetnAssert → c ≠ .resetEnd →
          c ≠ .safeinAssert → c ≠ .safeinDeassert → (∀ a b, c ≠ .motionInputChange a b) → (∀ b, c ≠ .stepInputRise b) →
          (∀ n v, c ≠ .sensorRawChange n v) → (∀ p, c ≠ .selectFall p) → (∀ p, c ≠ .selectRelease p) →
          exec c s = .next s)

/-! ## Resets and modes -/

/-- The state right after a power-on reset (R1, R22, R69, R73, R88, R105, R120, R122, R140, R158, R167) with the defaults
of section 8.4. That the pins stand low and the selects released is the model's choice (log 7), as is that this state stands
right after the end of that reset (log 8). -/
def Obligations.ResetStateHoldsTheResetValues : Prop :=
  let s := State.reset
  let d := s.control.params
  AtResetValues s ∧ s.pending = [] ∧ s.inReset = none
  ∧ (s.pinA = false ∧ s.pinB = false ∧ s.pinReadback = 0 ∧ s.pinSafeIn = false)
  ∧ (∀ l : LineNo, (s.line[l]).engine = .off none ∧ s.out l = false)
  ∧ s.safeOut = false ∧ s.control.resetKind = .power
  ∧ (d.value .motionSource = 0 ∧ d.value .internalRate = 100 ∧ d.value .stallTime = 500 ∧ d.value .speedWindow = 10
      ∧ d.value .reverseLimit = 256 ∧ d.value .commitLead = 64 ∧ d.value .settle = 50 ∧ d.value .faultThreshold = 3
      ∧ d.value .historyPeriod = 2 ∧ d.value .corruptLimit = 4)
  ∧ (∀ l, d.value (.guard l) = 0 ∧ d.value (.policy l) = 1 ∧ d.value (.rest l) = 0 ∧ d.value (.readback l) = 0)
  ∧ (∀ p, d.value (.quota p) = 64) ∧ (∀ r : Fin 4, d.value (.portPriority r) = r.val)
  ∧ (∀ k, d.value (.sensorEdge k) = 0 ∧ d.value (.sensorFilter k) = 2 ∧ d.value (.sensorSpacing k) = 0)

/-- Every law that the steps keep holds at reset. -/
def Obligations.LawsHoldAtReset : Prop :=
  State.reset.logLaw ∧ State.reset.tableLaw ∧ State.reset.slotsLaw ∧ State.reset.lineLaw ∧ State.reset.noticeLaw
  ∧ State.reset.controlLaw ∧ State.reset.portLaw ∧ ModeLaw State.reset ∧ State.reset.limitsLaw

/-- A reset by power or RESETN, from any state, holds the part at its reset values with the default parameters; its end
starts INIT, or SAFE where SAFEIN is high, with the MODE_CHANGED that every port has then received (R140, R142, R158). That
RESET_END without a reset in force does nothing (log 1), that a second reset takes the place of the one in force (log 26) and
that the ports have received MODE_CHANGED within that event (log 42) are the model's. -/
def Obligations.HardResetsClearThePart : Prop :=
  ∀ s : State,
    (∃ t, exec .powerOnReset s = .next t ∧ HeldInReset s t .power)
    ∧ (∃ t, exec .resetnAssert s = .next t ∧ HeldInReset s t .pin)
    ∧ (s.inReset = none → exec .resetEnd s = .next s)
    ∧ (∀ k, s.inReset = some k → ∃ t, exec .resetEnd s = .next t ∧ ResetEnded s t k
        ∧ ∀ l : LineNo, (t.line[l]).engine = .off none)

/-- An accepted RESET_DEVICE changes nothing until port A's select is released; the soft reset then keeps the parameters
(R157). Taken after a cut, it resets at once (log 29). The guard it leaves counts its fall from the end of the reset (log 38),
and MODE_CHANGED is received within the event that ends INIT (log 42): the model's. -/
def Obligations.ResetDeviceWaitsForTheRelease : Prop :=
  ∀ s : State,
    (∀ w, RequestWaits s .A .resetDevice w → w.body ≠ [] →
        exec .resetDevice s = .next (s.answer .A w .badField []))
    ∧ (∀ w, RequestWaits s .A .resetDevice w → w.body = [] → (s.ports.get .A).cut = false →
        exec .resetDevice s = .next ({ s with control := { s.control with softArmed := true } }.answer .A w .ok []))
    ∧ (∀ w, RequestWaits s .A .resetDevice w → w.body = [] → (s.ports.get .A).cut = true →
        ∃ t, exec .resetDevice s = .next t ∧ SoftlyReset s t)
    ∧ ((s.ports.get .A).selected = true → s.control.softArmed = true → s.inReset = none →
        ∃ t, exec (.selectRelease .A) s = .next t
          ∧ SoftlyReset { s with ports := s.ports.set .A { s.ports.get .A with selected := false } } t)

/-- INIT ends in CONFIG, or in SAFE where SAFEIN is high; every port has then received MODE_CHANGED with the kind of reset, and
the alert lines are judged (R142, R158, R161). That outside INIT the command does nothing (log 1) and that the notice is
received within this event (log 42) are the model's. -/
def Obligations.InitEndsInConfigOrSafe : Prop :=
  ∀ s : State, s.inReset = none →
    (s.control.mode ≠ .init → exec .initEnd s = .next s)
    ∧ (s.control.mode = .init → ∃ t, exec .initEnd s = .next t
        ∧ t = { s with control := t.control, wires := t.wires, notices := t.notices }
        ∧ t.wires.overrunAsks = s.wires.overrunAsks
        ∧ (s.pinSafeIn = false → LeavesInit s t .config s.control.firstCause)
        ∧ (s.pinSafeIn = true → LeavesInit s t .safe (some .safeIn)))

/-- The assertion of SAFEIN raises SAFE_IN; its level held, or its deassertion, raises nothing. Each SAFE request of the
Position Unit raises OVERRUN (R14, R142, R145, R146). That the command does nothing with no request on its way (log 1), the
count kept with a settled request (log 10) and the notice received as INIT ends (log 42) are the model's. -/
def Obligations.SafeCausesAreTaken : Prop :=
  ∀ s : State,
    exec .safeinDeassert s = .next { s with pinSafeIn := false }
    ∧ (s.pinSafeIn = true → exec .safeinAssert s = .next s)
    ∧ (s.pinSafeIn = false → s.inReset = none → ∃ t, exec .safeinAssert s = .next t ∧ t.pinSafeIn = true
        ∧ t.wires.overrunAsks = s.wires.overrunAsks ∧ CauseTaken { s with pinSafeIn := true } t .safeIn none)
    ∧ (s.inReset = none → none ∉ s.wires.overrunAsks → exec .safeRequestOverrun s = .next s)
    ∧ (∀ pre post, s.inReset = none → s.wires.overrunAsks = pre ++ none :: post → none ∉ pre →
        ∃ t, exec .safeRequestOverrun s = .next t ∧ CauseTaken s t .overrun none
          ∧ t.wires.overrunAsks = pre ++ some (changesWaiting t.wires.toTimetable) :: post)

/-- START, STOP and RESUME: the mode is judged first, then the body, then the ranks or SAFEIN; an accepted one changes the
mode, tells every port and hands the change on (R143, R144, R147, R148). -/
def Obligations.SupervisorChangesTheMode : Prop :=
  ∀ (s : State) (w : Work),
    (RequestWaits s .A .start w →
      (s.control.mode ≠ .config → exec .start s = .next (s.answer .A w .wrongMode []))
      ∧ (s.control.mode = .config → w.body ≠ [] ∨ (∃ r : Fin 4, s.control.params.portPriority[r] = none) →
          exec .start s = .next (s.answer .A w .badField []))
      ∧ (s.control.mode = .config → w.body = [] → (∀ r : Fin 4, s.control.params.portPriority[r] ≠ none) →
          ∃ t, exec .start s = .next t ∧ ModeRequestAccepted s t w .run 3 true
            ∧ t.control = { s.control with mode := .run }))
    ∧ (RequestWaits s .A .stop w →
      (s.control.mode ≠ .run → exec .stop s = .next (s.answer .A w .wrongMode []))
      ∧ (s.control.mode = .run → w.body ≠ [] → exec .stop s = .next (s.answer .A w .badField []))
      ∧ (s.control.mode = .run → w.body = [] →
          ∃ t, exec .stop s = .next t ∧ ModeRequestAccepted s t w .config 4 false
            ∧ t.control = { s.control with mode := .config }))
    ∧ (RequestWaits s .A .resume w →
      (s.control.mode ≠ .safe → exec .resume s = .next (s.answer .A w .wrongMode []))
      ∧ (s.control.mode = .safe → w.body ≠ [] → exec .resume s = .next (s.answer .A w .badField []))
      ∧ (s.control.mode = .safe → w.body = [] → s.pinSafeIn = true →
          exec .resume s = .next (s.answer .A w .safeHold []))
      ∧ (s.control.mode = .safe → w.body = [] → s.pinSafeIn = false →
          ∃ t, exec .resume s = .next t ∧ ModeRequestAccepted s t w .config 5 true
            ∧ t.control = { s.control with
                mode := .config, firstCause := none, later := CauseSet.empty, corruption := 0 }))

/-- STOP and SAFE entry taken at the Timetable, at a port's slots and at the Template Table (R67, R87, R138). The Timetable
then hands on the Line Block's part (R141), a settled SAFE request has one change less to wait for (log 10), and the writes of
its limits behind the change are taken (log 41). -/
def Obligations.TeardownsEmptyTheTimetableAndTheSlots : Prop :=
  ∀ (s : State) (c : ModeChange) (rest : List BlockMessage), s.inReset = none →
    (s.wires.toTimetable = .change c :: rest → c.new = .safe ∨ (c.old = .run ∧ c.new = .config) →
      ∃ t, exec .timetableEmptying s = .next t
        ∧ t = { s with
            table := { s.table with
              live := [], liveCount := PerPort.const 0, mode := c.new, limits := t.table.limits }
            wires := { s.wires with
              toTimetable := t.wires.toTimetable, toLines := t.wires.toLines, notices := t.wires.notices
              overrunAsks := s.wires.overrunAsks.map fun o => o.map fun n => n - 1 } }
        ∧ LimitsTaken s t rest
        ∧ (∀ p, t.wires.notices.get p = s.wires.notices.get p ++
            (if ownedBy s.table.live p = 0 then [] else [{ source := .timetable, own := false, notice :=
              { Notice.bare .entryAbandoned with count := some (ownedBy s.table.live p) } }]))
        ∧ (∀ pre d post, s.wires.toLines = pre ++ .change d :: post → d.ready = false →
            (∀ x, .change x ∈ pre → x.ready = true) →
            t.wires.toLines = pre ++ .change { d with ready := true } :: post))
    ∧ (∀ p, s.wires.toSlots.get p = .change c :: rest → c.new = .safe ∨ (c.old = .run ∧ c.new = .config) →
        exec (.slotsEmptying p) s = .next { s with
          slots := s.slots.set p { s.slots.get p with slot := Vector.replicate 4 none, age := [], mode := c.new }
          wires := { s.wires with toSlots := s.wires.toSlots.set p rest } })
    ∧ (s.wires.toTemplates = .change c :: rest → c.new = .safe →
        ∃ t, exec .templatesSuspension s = .next t
          ∧ t = { s with
              wires := { s.wires with toTemplates := rest }, templates := { place := t.templates.place, mode := .safe } }
          ∧ ∀ n : TemplateNo, t.templates.place[n] = (s.templates.place[n]).map fun x =>
              { fields := { x.fields with active := false }, code := { x.fields with active := false } })

/-- STOP and SAFE entry taken at the Line Block, once the Timetable has handed it on: every engine is OFF with no rest, by
the table of R97; SAFE entry clears every force and settle check (R42) and drives every line OFF (R98); after STOP a change
of the driven level starts a settle check (R36). -/
def Obligations.TeardownsSetEveryEngineOff : Prop :=
  ∀ (s : State) (c : ModeChange) (rest : List BlockMessage), s.inReset = none →
    s.wires.toLines = .change c :: rest → c.ready = true → c.new = .safe ∨ (c.old = .run ∧ c.new = .config) →
    ∃ t, exec .enginesOff s = .next t
      ∧ t = { s with
          wires := { s.wires with toLines := rest }, lineBlock := { s.lineBlock with mode := c.new }, line := t.line }
      ∧ (∀ l : LineNo, SetOff s.now (s.line[l]).rest (s.line[l]).engine (t.line[l]).engine)
      ∧ (c.new = .config → ∀ l : LineNo, t.line[l] = { s.line[l] with
          engine := (t.line[l]).engine, settle := settleAfter s t l (s.line[l]).settle })
      ∧ (c.new = .safe → ∀ l : LineNo, t.driven l = false ∧ t.line[l] = { s.line[l] with
          engine := (t.line[l]).engine, force := .none, settle := none
          code := { (s.line[l]).covered with force := .none } })

/-- The other mode changes taken at the five kinds of block change only the mode by which the block judges (R141); the
templates keep their states (R138) and the log its contents (R120). A change into RUN waits at the Timetable for the Line
Block and at Timetable and slots for a preset, at the Timetable also for a step whose SAFE request is settled, and not for what
stands behind a step that itself waits for a SAFE entry, and the command then does nothing; the Timetable takes the writes of its
limits behind its change: the model's reading (log 10, log 11, log 12, log 1, log 41). -/
def Obligations.OtherModeChangesAreTakenAtEachBlock : Prop :=
  ∀ (s : State) (c : ModeChange) (rest : List BlockMessage), s.inReset = none →
    (s.wires.toTimetable = .change c :: rest → c.new ≠ .safe → ¬(c.old = .run ∧ c.new = .config) →
      (c.new = .run → RunMayBeTaken s ∧ changesWaiting s.wires.toLines < changesWaiting s.wires.toTimetable) →
      ∃ t, exec (.modeChangeTakenAtBlock .timetable) s = .next t
        ∧ t = { s with
            table := { s.table with mode := c.new, limits := t.table.limits }
            wires := { s.wires with
              toTimetable := t.wires.toTimetable, overrunAsks := s.wires.overrunAsks.map fun o => o.map fun n => n - 1 } }
        ∧ LimitsTaken s t rest)
    ∧ (s.wires.toTimetable = .change c :: rest → c.new = .run →
      ¬RunMayBeTaken s ∨ changesWaiting s.wires.toTimetable ≤ changesWaiting s.wires.toLines →
      exec (.modeChangeTakenAtBlock .timetable) s = .next s)
    ∧ (∀ p, s.wires.toSlots.get p = .change c :: rest → c.new = .run → (∃ v, .preset v ∈ s.wires.slotsMotion.get p) →
      exec (.modeChangeTakenAtBlock (.slots p)) s = .next s)
    ∧ (∀ p, s.wires.toSlots.get p = .change c :: rest → c.new ≠ .safe → ¬(c.old = .run ∧ c.new = .config) →
      (c.new = .run → ∀ v, .preset v ∉ s.wires.slotsMotion.get p) →
      exec (.modeChangeTakenAtBlock (.slots p)) s = .next { s with
        slots := s.slots.set p { s.slots.get p with mode := c.new }
        wires := { s.wires with toSlots := s.wires.toSlots.set p rest } })
    ∧ (s.wires.toTemplates = .change c :: rest → c.new ≠ .safe →
      exec (.modeChangeTakenAtBlock .templates) s = .next { s with
        templates := { s.templates with mode := c.new }, wires := { s.wires with toTemplates := rest } })
    ∧ (s.wires.toLog = .change c :: rest →
      exec (.modeChangeTakenAtBlock .log) s = .next { s with
        log := { s.log with mode := c.new }, wires := { s.wires with toLog := rest } })
    ∧ (s.wires.toLines = .change c :: rest → c.new ≠ .safe → ¬(c.old = .run ∧ c.new = .config) →
      ∃ t, exec (.modeChangeTakenAtBlock .lines) s = .next t
        ∧ t = { s with
            lineBlock := { s.lineBlock with mode := c.new }, line := t.line, wires := { s.wires with toLines := rest } }
        ∧ ∀ l : LineNo, t.line[l] = { s.line[l] with settle := settleAfter s t l (s.line[l]).settle })

/-! ## Position -/

/-- In QUAD each change of (MOTA, MOTB) is classified by the table of section 1.3.1; a forward or backward transition is
one step event, an error is counted and reported, and the observed pair becomes the reference (R5, R6, R9, R10). -/
def Obligations.QuadratureChangesAreClassified : Prop :=
  ∀ (s : State) (a b : Bool), s.inReset = none → s.position.source = .quad →
    let u := s.position
    let r : State := { s with pinA := a, pinB := b, position := { u with refA := a, refB := b } }
    (u.refA = a → u.refB = b → exec (.motionInputChange a b) s = .next r)
    ∧ (quadForward u.refA u.refB a b → ∃ t, exec (.motionInputChange a b) s = .next t ∧ StepTaken r t true)
    ∧ (quadForward a b u.refA u.refB → ∃ t, exec (.motionInputChange a b) s = .next t ∧ StepTaken r t false)
    ∧ (u.refA ≠ a → u.refB ≠ b → ∃ t, exec (.motionInputChange a b) s = .next t
        ∧ t = { r with
            position := { r.position with
              quadErrors := if u.quadErrors.toNat = 65535 then u.quadErrors else u.quadErrors + 1 }
            wires := { s.wires with notices := t.wires.notices } }
        ∧ ∀ p, t.wires.notices.get p = s.wires.notices.get p ++ [motionPosted 3])

/-- In STEP_DIR a rise of MOTA is one step in the direction of MOTB and no other change steps (R7); in INTERNAL each expiry
of the rate timer is one forward step and the pins make none (R8). The stall timer's expiry makes FORWARD and REVERSE STALLED
and stops the timer (R13, R15); each speed window ends with the saturated accumulator as the speed and a new window (R16).
Before an expiry its command does nothing (log 1). STEP_INPUT_RISE is the change of the pins to MOTA high with its level of
MOTB, whatever the source (log 34). -/
def Obligations.StepInputsAndTimersOfThePositionUnit : Prop :=
  ∀ (s : State) (a b : Bool), s.inReset = none →
    let u := s.position
    let r : State := { s with pinA := a, pinB := b, position := { u with refA := a, refB := b } }
    exec (.stepInputRise b) s = exec (.motionInputChange true b) s
    ∧ (u.source = .stepDir → u.refA = true ∨ a = false → exec (.motionInputChange a b) s = .next r)
    ∧ (u.source = .stepDir → u.refA = false → a = true →
        ∃ t, exec (.motionInputChange a b) s = .next t ∧ exec (.stepInputRise b) s = .next t ∧ StepTaken r t b)
    ∧ (u.source = .internal → exec (.motionInputChange a b) s = .next { s with pinA := a, pinB := b })
    ∧ (∀ t0, u.rateStart = some t0 → u.rate ≤ (s.now - t0).toNat →
        ∃ t, exec .internalRateExpiry s = .next t
          ∧ StepTaken { s with position := { u with rateStart := some s.now } } t true)
    ∧ (u.rateStart = none ∨ (∃ t0, u.rateStart = some t0 ∧ (s.now - t0).toNat < u.rate) →
        exec .internalRateExpiry s = .next s)
    ∧ (∀ t0, u.stallStart = some t0 → u.stallTime * 1000 ≤ (s.now - t0).toNat →
        ∃ t, exec .stallTimerExpiry s = .next t ∧ StallTaken s t)
    ∧ (u.stallStart = none ∨ (∃ t0, u.stallStart = some t0 ∧ (s.now - t0).toNat < u.stallTime * 1000) →
        exec .stallTimerExpiry s = .next s)
    ∧ (u.window * 1000 ≤ (s.now - u.windowStart).toNat →
        exec .speedWindowExpiry s = .next { s with position := { u with
          speed := if 32767 < u.acc then 32767 else if u.acc < -32767 then -32767 else u.acc
          acc := 0, windowStart := s.now } })
    ∧ ((s.now - u.windowStart).toNat < u.window * 1000 → exec .speedWindowExpiry s = .next s)

/-- The writes taken at the Position Unit (R4, R8, R13, R16) and at the Line Block (R33, R38, R96): the oldest write of the
parameter that waits at the block is taken, whatever mode changes and writes of other parameters wait beside it (log 4, log 32).
Where none waits the command does nothing (log 1). A rest that still runs as a write of REST is taken is re-timed as a guard is,
ending now where that moment has passed: the model's reading (log 32). -/
def Obligations.ParameterWritesAreTakenAtTheirBlocks : Prop :=
  ∀ s : State, s.inReset = none →
    let u := s.position
    (∀ v q, OldestWrite .motionSource v s.wires.toPosition q →
      exec .writeMotionSource s = .next { s with
        position := { u with
          source := v, refA := s.pinA, refB := s.pinB, rateStart := if v = .internal then some s.now else none }
        wires := { s.wires with toPosition := q } })
    ∧ ((∀ v q, ¬OldestWrite .motionSource v s.wires.toPosition q) → exec .writeMotionSource s = .next s)
    ∧ (∀ v q, OldestWrite .internalRate v s.wires.toPosition q →
      exec .writeInternalRate s = .next { s with
        position := { u with rate := v, rateStart := if u.source = .internal then some s.now else u.rateStart }
        wires := { s.wires with toPosition := q } })
    ∧ ((∀ v q, ¬OldestWrite .internalRate v s.wires.toPosition q) → exec .writeInternalRate s = .next s)
    ∧ (∀ v q, OldestWrite .stallTime v s.wires.toPosition q →
      ∃ r t, exec .writeStallTime s = .next t
        ∧ r = { s with position := { u with stallTime := v }, wires := { s.wires with toPosition := q } }
        ∧ ((∀ t0, u.stallStart = some t0 → (s.now - t0).toNat < v * 1000) → t = r)
        ∧ (∀ t0, u.stallStart = some t0 → v * 1000 ≤ (s.now - t0).toNat → StallTaken r t))
    ∧ ((∀ v q, ¬OldestWrite .stallTime v s.wires.toPosition q) → exec .writeStallTime s = .next s)
    ∧ (∀ v q, OldestWrite .speedWindow v s.wires.toPosition q →
      exec .writeSpeedWindow s = .next { s with
        position := { u with window := v, acc := 0, windowStart := s.now }
        wires := { s.wires with toPosition := q } })
    ∧ ((∀ v q, ¬OldestWrite .speedWindow v s.wires.toPosition q) → exec .writeSpeedWindow s = .next s)
    ∧ (∀ v q, OldestWrite .historyPeriod v s.wires.toLines q →
      exec .writeHistoryPeriod s = .next { s with
        lineBlock := { s.lineBlock with historyStart := s.now, historyPeriod := v }
        wires := { s.wires with toLines := q } })
    ∧ ((∀ v q, ¬OldestWrite .historyPeriod v s.wires.toLines q) → exec .writeHistoryPeriod s = .next s)
    ∧ (∀ (l : LineNo) v q, OldestWrite (.rest l) v s.wires.toLines q →
      ∃ e, exec (.writeRest l) s = .next { s with
          line := s.line.set l { s.line[l] with rest := v, engine := e }
          wires := { s.wires with toLines := q } }
        ∧ ((∀ g, (s.line[l]).engine ≠ .off (some g)) → (∀ f rt q, (s.line[l]).engine ≠ .resting f rt q) →
            e = (s.line[l]).engine)
        ∧ (∀ g, (s.line[l]).engine = .off (some g) → (s.now - g.fall).toNat < v →
            e = .off (some { g with endAt := g.fall + BitVec.ofNat 32 v }))
        ∧ (∀ g, (s.line[l]).engine = .off (some g) → v ≤ (s.now - g.fall).toNat → e = .off none)
        ∧ (∀ f rt q, (s.line[l]).engine = .resting f rt q → (s.now - f).toNat < v →
            e = .resting f (f + BitVec.ofNat 32 v) q)
        ∧ (∀ f rt q, (s.line[l]).engine = .resting f rt q → v ≤ (s.now - f).toNat → e = .resting f s.now q))
    ∧ (∀ l : LineNo, (∀ v q, ¬OldestWrite (.rest l) v s.wires.toLines q) → exec (.writeRest l) s = .next s)
    ∧ (∀ (l : LineNo) v q, OldestWrite (.readback l) v s.wires.toLines q →
      exec (.writeReadback l) s = .next { s with
        line := s.line.set l { s.line[l] with readback := v, settle := if v then (s.line[l]).settle else none }
        wires := { s.wires with toLines := q } })
    ∧ (∀ l : LineNo, (∀ v q, ¬OldestWrite (.readback l) v s.wires.toLines q) → exec (.writeReadback l) s = .next s)

/-- PRESET_POSITION (R20): the mode, then the body; taken, it sets P and HW, counts the frame and is handed to the Timetable
and to every port's slots, and nothing else of the part changes. A preset or a backward step taken there moves the P held
there and nothing else (R20, R58, R82). A preset waits at a block that stands in RUN, and a step for the emptying that the step
before it asked for: the model's reading (log 11, log 10); the command of one that waits does nothing (log 1). -/
def Obligations.PresetsAndBackwardStepsMoveOnlyThePosition : Prop :=
  ∀ s : State,
    (∀ w, RequestWaits s .A .presetPosition w →
      (s.control.mode ≠ .config → exec .presetPosition s = .next (s.answer .A w .wrongMode []))
      ∧ (s.control.mode = .config → w.body.length ≠ 4 → exec .presetPosition s = .next (s.answer .A w .badField []))
      ∧ (∀ b0 b1 b2 b3 : Byte, s.control.mode = .config → w.body = [b0, b1, b2, b3] →
          let v : Word32 := (b0 ++ b1) ++ (b2 ++ b3)
          exec .presetPosition s = .next (({ s with
            position := { s.position with p := v, hw := v, frame := s.position.frame + 1 }
            wires := { s.wires with
              timetableMotion := s.wires.timetableMotion ++ [.preset v]
              slotsMotion := s.wires.slotsMotion.map fun q => q ++ [.preset v] } } : State).answer .A w .ok
                [b0, b1, b2, b3, s.position.frame + 1])))
    ∧ (∀ v rest, s.inReset = none → s.wires.timetableMotion = .preset v :: rest →
      (s.table.mode ≠ .run → exec (.presetAtBlock .timetable) s = .next { s with
        table := { s.table with pos := v }, wires := { s.wires with timetableMotion := rest } })
      ∧ (s.table.mode = .run → exec (.presetAtBlock .timetable) s = .next s))
    ∧ (∀ p v rest, s.inReset = none → s.wires.slotsMotion.get p = .preset v :: rest →
      ((s.slots.get p).mode ≠ .run → exec (.presetAtBlock (.slots p)) s = .next { s with
        slots := s.slots.set p { s.slots.get p with pos := v }
        wires := { s.wires with slotsMotion := s.wires.slotsMotion.set p rest } })
      ∧ ((s.slots.get p).mode = .run → exec (.presetAtBlock (.slots p)) s = .next s))
    ∧ (∀ p v asks rest, s.inReset = none → s.wires.slotsMotion.get p = .step false v asks :: rest →
      exec (.stepAtSlots p) s = .next { s with
        slots := s.slots.set p { s.slots.get p with pos := v }
        wires := { s.wires with slotsMotion := s.wires.slotsMotion.set p rest } })
    ∧ (∀ v asks rest, StepReady s false v asks rest → exec .stepAtTimetable s = .next (SteppedTo s v asks rest))
    ∧ (s.inReset = none → StepWaits s → exec .stepAtTimetable s = .next s)

/-! ## Timetable -/

/-- A forward step at the Timetable: first the defaults of the entries decided apply, each told to its owner, then the entries
due fire in commit order, each acting on its lines and telling its owner, a corrupt one removed with no action; every other entry
stays as it is, and lines that no fired entry names are untouched (R56, R57, R60, R71, R89, R99 to R102). A change of the driven
level starts a settle check (R36). Premises: the table's own law and decisions before dues (R49). Which step may be taken, and the
requests it leaves behind, is the model's reading (log 10). -/
def Obligations.ForwardStepFiresAndDecides : Prop :=
  ∀ (s : State) (pos : Word32) (asks : Bool) (rest : List MotionEvent),
    StepReady s true pos asks rest → TableLaw s.table → DecisionsBeforeDues s.table →
    let r := SteppedTo s pos asks rest
    let decided := s.table.live.filter fun e => e.fields.stage.decision == some pos
    let due := s.table.live.filter fun e => e.fields.stage == .armed && e.fields.due == pos
    let fired := linesAfterFires s.now s.line due
    ∃ t, exec .stepAtTimetable s = .next t
      ∧ t = { r with
          table := { r.table with
            live := s.table.live.filterMap (afterForwardStep pos), liveCount := t.table.liveCount }
          line := t.line
          wires := { r.wires with
            notices := t.wires.notices
            findings := s.wires.findings ++ (due.filter fun e => !e.codeOk).map fun e => .entry e.index } }
      ∧ (∀ p, t.table.liveCount.get p = ownedBy t.table.live p)
      ∧ (∀ l : LineNo, t.line[l] = { fired[l] with settle := settleAfter s t l (s.line[l]).settle })
      ∧ (∀ p, t.wires.notices.get p =
          s.wires.notices.get p ++ decided.flatMap (decisionTold p) ++ firesTold s.now p s.line due)
      ∧ (∀ l : LineNo, (∀ e ∈ due, hasLine e.fields.lines l = false) ∨ (s.line[l]).force ≠ .none →
          t.line[l] = s.line[l])
      ∧ (decided = [] → due = [] →
          t.table.live = s.table.live ∧ t.line = s.line ∧ t.wires.notices = s.wires.notices)

/-- The one entry due at a forward step fires: each unforced line takes the action, counts it and shows its activity; a
forced line takes nothing (R32, R57, R89); then FIRED if the report flag is set, and FIRE_SUPPRESSED if a line was
suppressed (R100 to R102). An entry found corrupt is removed with no action (R71). Which step may be taken is the model's reading (log 10). -/
def Obligations.DueEntryActsOnItsLines : Prop :=
  ∀ (s : State) (pos : Word32) (asks : Bool) (rest : List MotionEvent) (e : Entry),
    StepReady s true pos asks rest → TableLaw s.table → e ∈ s.table.live → e.fields.stage = .armed → e.fields.due = pos →
    (∀ x ∈ s.table.live, x.index ≠ e.index → afterForwardStep pos x = some x) →
    let delivered := fun l : LineNo => (s.line[l]).engine.deliver s.now (s.line[l]).rest e.fields.action
    let outs := (linesOf e.fields.lines).map fun l =>
      if (s.line[l]).force ≠ .none then LineOutcome.suppressed else (delivered l).outcome
    let sup := (linesOf e.fields.lines).filter fun l => decide ((s.line[l]).force ≠ .none)
    ∃ t, exec .stepAtTimetable s = .next t
      ∧ t.table.live = s.table.live.filter (fun x => x.index ≠ e.index)
      ∧ (e.codeOk = true →
          (∀ l : LineNo, hasLine e.fields.lines l = true → (s.line[l]).force = .none →
            t.line[l] = { s.line[l] with
              engine := delivered l, fireCount := (s.line[l]).fireCount + 1, history := (s.line[l]).history ||| 1
              settle := settleAfter s t l (s.line[l]).settle })
          ∧ (∀ l : LineNo, hasLine e.fields.lines l = false ∨ (s.line[l]).force ≠ .none → t.line[l] = s.line[l])
          ∧ (∀ p, t.wires.notices.get p = s.wires.notices.get p ++ (if e.fields.owner = p then
              (if e.fields.report then [timetablePosted { entryTold .fired e.fields with
                  reason := some ((if .applied ∈ outs then 1 else 0) + (if .delayed ∈ outs then 2 else 0)
                    + (if .suppressed ∈ outs then 4 else 0))
                  count := some outs.length }] else [])
              ++ (if sup = [] then [] else [timetablePosted { entryTold .fireSuppressed e.fields with
                  line := sup.head?, count := some sup.length }])
              else []))
          ∧ t.wires.findings = s.wires.findings)
      ∧ (e.codeOk = false →
          t.line = s.line ∧ t.wires.notices = s.wires.notices
          ∧ t.wires.findings = s.wires.findings ++ [.entry e.index]
          ∧ ∀ p, t.table.liveCount.get p = ownedBy t.table.live p)

/-- An engine's response to each action in each state, and the outcome it gives (R89 to R93, the table of section 5.2). -/
def Obligations.EngineActionsFollowTheTable : Prop :=
  ∀ (now : Word32) (rest : Nat) (w v : Word16) (e : Word32) (latch : Bool) (g : Guard) (fall : Word32) (pend : PendingStart),
    (Engine.deliver now rest .on (.off none) = .onLatched
      ∧ Engine.deliver now rest .off (.off none) = .off none
      ∧ Engine.deliver now rest (.pulse w) (.off none) = .onPulse (now + w.setWidth 32) false)
    ∧ (Engine.deliver now rest .on (.off (some g)) = .resting g.fall g.endAt .latch
      ∧ Engine.deliver now rest .off (.off (some g)) = .off (some g)
      ∧ Engine.deliver now rest (.pulse w) (.off (some g)) = .resting g.fall g.endAt (.pulse w))
    ∧ (Engine.deliver now rest .on .onLatched = .onLatched
      ∧ Engine.deliver now rest .off .onLatched = fallen now rest
      ∧ Engine.deliver now rest (.pulse w) .onLatched = .onPulse (now + w.setWidth 32) true)
    ∧ (Engine.deliver now rest .on (.onPulse e latch) = .onPulse e true
      ∧ Engine.deliver now rest .off (.onPulse e latch) = .onPulse e false
      ∧ (w.toNat ≤ (e - now).toNat → Engine.deliver now rest (.pulse w) (.onPulse e latch) = .onPulse e latch)
      ∧ ((e - now).toNat < w.toNat →
          Engine.deliver now rest (.pulse w) (.onPulse e latch) = .onPulse (now + w.setWidth 32) latch))
    ∧ (Engine.deliver now rest .on (.resting fall e pend) = .resting fall e .latch
      ∧ Engine.deliver now rest .off (.resting fall e pend) = .resting fall e .none
      ∧ Engine.deliver now rest (.pulse w) (.resting fall e .none) = .resting fall e (.pulse w)
      ∧ Engine.deliver now rest (.pulse w) (.resting fall e .latch) = .resting fall e .latch
      ∧ Engine.deliver now rest (.pulse w) (.resting fall e (.pulse v)) =
          .resting fall e (.pulse (if v.toNat ≤ w.toNat then w else v)))
    ∧ (∀ x : Engine, x.outcome = .delayed ↔ ∃ f r q, x = .resting f r q ∧ q ≠ .none)
    ∧ (∀ x : Engine, x.outcome ≠ .suppressed)
    ∧ (∀ x : Engine, x.level = true ↔ x = .onLatched ∨ ∃ f r, x = .onPulse f r)

/-- The expiry of an engine's pulse end, rest end or guard (R94, R97); it is no delivery, and a change of the driven level
starts a settle check (R36, R99). An end that is not reached does nothing (log 1). -/
def Obligations.EngineExpiriesFollowTheRules : Prop :=
  ∀ (s : State) (l : LineNo), s.inReset = none →
    let r := s.line[l]
    let ends := fun (c : Instr) (e : Engine) => ∃ t, exec c s = .next t
      ∧ t = { s with line := s.line.set l { r with engine := e, settle := settleAfter s t l r.settle } }
    (r.engine = .onPulse s.now true → ends (.pulseEnd l) .onLatched)
    ∧ (r.engine = .onPulse s.now false → ends (.pulseEnd l) (fallen s.now r.rest))
    ∧ (∀ f, r.engine = .resting f s.now .none → ends (.restEnd l) (.off none))
    ∧ (∀ f, r.engine = .resting f s.now .latch → ends (.restEnd l) .onLatched)
    ∧ (∀ f w, r.engine = .resting f s.now (.pulse w) → ends (.restEnd l) (.onPulse (s.now + w.setWidth 32) false))
    ∧ (∀ f, r.engine = .off (some { fall := f, endAt := s.now }) →
        exec (.restGuardEnd l) s = .next { s with line := s.line.set l { r with engine := .off none } })
    ∧ ((∀ f, r.engine ≠ .onPulse s.now f) → exec (.pulseEnd l) s = .next s)
    ∧ ((∀ f q, r.engine ≠ .resting f s.now q) → exec (.restEnd l) s = .next s)
    ∧ ((∀ f, r.engine ≠ .off (some { fall := f, endAt := s.now })) → exec (.restGuardEnd l) s = .next s)

/-- The judgement of a position by its due distance (R17), and the conflicts of a proposal with a live entry: other owners,
shared lines under REFUSE_LATER or PRIORITY, due positions closer than the guard (R53, R54). That owners of equal rank are
refused is the model's reading (log 27). -/
def Obligations.PositionsAndConflictsAreJudged : Prop :=
  (∀ pos d : Word32,
    let n := (d - pos).toNat
    (windowStatus pos d = none ↔ 1 ≤ n ∧ n ≤ 16777216)
    ∧ (windowStatus pos d = some .tooLate ↔ n = 0 ∨ 4278190080 ≤ n)
    ∧ (windowStatus pos d = some .outOfRange ↔ 16777216 < n ∧ n < 4278190080))
  ∧ (∀ (q : TableLimits) (p : Port) (x : LineSet) (due : Word32) (e : Entry) (l : LineNo),
      hasLine (conflictLines q p x due e) l = true ↔
        e.fields.owner ≠ p ∧ hasLine x l = true ∧ hasLine e.fields.lines l = true
        ∧ (q.policy[l] = .refuseLater ∨ q.policy[l] = .priority)
        ∧ min (due - e.fields.due).toNat (e.fields.due - due).toNat < q.guard[l])
  ∧ (∀ (q : TableLimits) (p : Port) (x : LineSet) (due : Word32) (live : List Entry),
      let found := conflicts q p x due live
      (∀ c, c ∈ found ↔ c.1 ∈ live ∧ c.2 = conflictLines q p x due c.1 ∧ c.2 ≠ 0)
      ∧ (conflictOutcome q p found = none ↔ ConflictRefuses q p found)
      ∧ (∀ out, conflictOutcome q p found = some out → out = found))

/-- An admission: the checks of R50 in their order, the first that fails giving the status and changing nothing; a proposal
that passes is placed, the entries it outranks displaced (R45, R47, R51, R52, R55). Equal ranks are refused (log 27),
the limits are those in force at the Timetable (log 41), and several DISPLACED notices to one port stand in the order of the
commits of the entries displaced: the model's order (log 23). Premise: the line records consulted agree with their codes;
ConsultationsClearCorruptLineRecords states the other case. -/
def Obligations.AdmissionIsJudgedInOrder : Prop :=
  ∀ (s : State) (n : Proposal), CodesMatch s n.lines →
    let q := s.table.limits
    let due := (n.due - s.table.pos).toNat
    let found := conflicts q n.owner n.lines n.due s.table.live
    let early := AllLeased s n.owner n.lines ∧ s.table.mode = .run
    (s.table.mode ≠ .run → s.propose n = (s, .no .wrongMode))
    ∧ (s.table.mode = .run → ¬AllLeased s n.owner n.lines → s.propose n = (s, .no .notLeased))
    ∧ (early → due = 0 ∨ 4278190080 ≤ due → s.propose n = (s, .no .tooLate))
    ∧ (early → 16777216 < due ∧ due < 4278190080 → s.propose n = (s, .no .outOfRange))
    ∧ (∀ d f, early → 1 ≤ due ∧ due ≤ 16777216 → n.stage = .held d f →
        ((d - s.table.pos).toNat = 0 ∨ 4278190080 ≤ (d - s.table.pos).toNat → s.propose n = (s, .no .tooLate))
        ∧ (due ≤ (d - s.table.pos).toNat ∧ (d - s.table.pos).toNat < 4278190080 → s.propose n = (s, .no .outOfRange)))
    ∧ (early → 1 ≤ due ∧ due ≤ 16777216 →
        (∀ d f, n.stage = .held d f → 1 ≤ (d - s.table.pos).toNat ∧ (d - s.table.pos).toNat < due) →
        (q.quota.get n.owner ≤ s.table.liveCount.get n.owner → s.propose n = (s, .no .quotaExceeded))
        ∧ (s.table.liveCount.get n.owner < q.quota.get n.owner → 256 ≤ s.table.live.length →
            s.propose n = (s, .no .tableFull))
        ∧ (s.table.liveCount.get n.owner < q.quota.get n.owner → s.table.live.length < 256 →
            (ConflictRefuses q n.owner found → s.propose n = (s, .no .conflict))
            ∧ (¬ConflictRefuses q n.owner found → TableLaw s.table →
                ∃ h t, s.propose n = (t, .yes h found.length) ∧ AdmittedInto s n found h t)))

/-- CANCEL_ENTRIES (R61): outside RUN and for a malformed body refused; a handle that names no entry of the requester is
answered NO_SUCH_ENTRY; otherwise the matched entries leave with no notice and no line action, those that agree with their codes
counted, and each corrupt one a finding and not counted (R71). -/
def Obligations.CancelRemovesTheMatchedEntries : Prop :=
  ∀ (s : State) (p : Port) (w : Work), RequestWaits s p .cancelEntries w →
    let mine := fun e : Entry => e.fields.owner == p
    let cancels := fun gone : Entry → Bool => ∃ t u : State, exec (.cancelEntries p) s = .next (u.answer p w .ok
        (be16 (BitVec.ofNat 16 (s.table.live.filter fun e => gone e && e.codeOk).length)))
      ∧ EntriesRemoved s t gone
      ∧ u = { t with wires := { s.wires with
          findings := s.wires.findings ++ (s.table.live.filter fun e => gone e && !e.codeOk).map fun e => .entry e.index } }
    (s.table.mode ≠ .run → exec (.cancelEntries p) s = .next (s.answer p w .wrongMode []))
    ∧ (s.table.mode = .run → parseCancel w.body = none → exec (.cancelEntries p) s = .next (s.answer p w .badField []))
    ∧ (s.table.mode = .run → TableLaw s.table →
        (∀ v : Word16, w.body = 1 :: be16 v → cancels fun e => mine e && e.fields.origin.tag == some v)
        ∧ (∀ v : Word32, w.body = 2 :: be32 v → cancels fun e => mine e && e.fields.origin.captureSeq == some v)
        ∧ (w.body = [3] → cancels mine)
        ∧ (∀ h : Handle, w.body = 0 :: handleBytes h →
            ((∀ e ∈ s.table.live, e.fields.handle = h → e.fields.owner ≠ p) →
              exec (.cancelEntries p) s = .next (s.answer p w .noSuchEntry []))
            ∧ ((∃ e ∈ s.table.live, e.fields.handle = h ∧ e.fields.owner = p) →
              cancels fun e => mine e && e.fields.handle == h)))

/-- AMEND_ENTRY (R63, R64): the checks in their order; an amendment that passes displaces what it outranks and moves the
entry's due, with a new width where one is given; the entry keeps everything else, and the counts of the table stand. Owners of
equal rank are refused (log 27), the limits are those in force at the Timetable (log 41), and several DISPLACED notices to one port
stand in the order of the commits of the entries displaced: the model's order (log 23). Premise: the line records consulted
agree with their codes; ConsultationsClearCorruptLineRecords states the other case. -/
def Obligations.AmendMovesTheEntry : Prop :=
  ∀ (s : State) (p : Port) (w : Work), RequestWaits s p .amendEntry w →
    let q := s.table.limits
    let refused := fun st : Status => exec (.amendEntry p) s = .next (s.answer p w st [])
    (s.table.mode ≠ .run → refused .wrongMode)
    ∧ (s.table.mode = .run → parseAmend w.body = none → refused .badField)
    ∧ (∀ b, s.table.mode = .run → parseAmend w.body = some b → TableLaw s.table →
        ((∀ e ∈ s.table.live, e.fields.handle = b.handle → e.fields.owner ≠ p) → refused .noSuchEntry)
        ∧ (∀ e ∈ s.table.live, e.fields.handle = b.handle → e.fields.owner = p →
            (e.codeOk = false → ∃ t u : State, exec (.amendEntry p) s = .next (u.answer p w .noSuchEntry [])
              ∧ EntriesRemoved s t (fun x => x.index == e.index)
              ∧ u = { t with wires := { s.wires with findings := s.wires.findings ++ [.entry e.index] } })
            ∧ (e.codeOk = true → e.fields.stage ≠ .armed → refused .notArmed)
            ∧ (e.codeOk = true → e.fields.stage = .armed → b.width ≠ none → (∀ v, e.fields.action ≠ .pulse v) →
                refused .badField)
            ∧ (∀ a, e.codeOk = true → e.fields.stage = .armed → CodesMatch s e.fields.lines →
                (b.width = none ∧ a = e.fields.action ∨ ∃ u v, b.width = some v ∧ e.fields.action = .pulse u ∧ a = .pulse v) →
                (¬AllLeased s p e.fields.lines → refused .notLeased)
                ∧ (AllLeased s p e.fields.lines →
                    (∀ st, windowStatus s.table.pos b.due = some st → refused st)
                    ∧ (windowStatus s.table.pos b.due = none →
                        let found := conflicts q p e.fields.lines b.due s.table.live
                        let f := { e.fields with due := b.due, action := a }
                        (ConflictRefuses q p found → refused .conflict)
                        ∧ (¬ConflictRefuses q p found → ∃ t : State,
                            exec (.amendEntry p) s = .next (t.answer p w .ok
                              (handleBytes b.handle ++ be16 (BitVec.ofNat 16 found.length)))
                            ∧ t = { s with
                                table := { s.table with
                                  live := (withoutDisplaced s.table.live found).map fun x =>
                                    if x.index = e.index then { e with fields := f, code := f } else x
                                  liveCount := t.table.liveCount }
                                wires := { s.wires with notices := t.wires.notices } }
                            ∧ (∀ r, t.table.liveCount.get r = ownedBy t.table.live r)
                            ∧ ∀ r, t.wires.notices.get r = s.wires.notices.get r ++ displacedTold r found))))))

/-- VERDICT (R134 to R136): KEEP arms and DROP removes the requester's HELD instances of the capture; ARMED ones count as
late and stay; the counts give the status. A matched entry found corrupt is removed, a finding, and neither decided nor late
(R71, R135). -/
def Obligations.VerdictDecidesHeldInstances : Prop :=
  ∀ (s : State) (p : Port) (w : Work), RequestWaits s p .verdict w →
    (s.table.mode ≠ .run → exec (.verdict p) s = .next (s.answer p w .wrongMode []))
    ∧ (s.table.mode = .run → parseVerdict w.body = none → exec (.verdict p) s = .next (s.answer p w .badField []))
    ∧ (∀ (seq : Word32) (sel verd : Byte), s.table.mode = .run → w.body = be32 seq ++ [sel, verd] →
        sel.toNat < 32 ∨ sel = 0xFF#8 → verd = 0 ∨ verd = 1 → TableLaw s.table →
        let hit := fun e : Entry => e.fields.owner == p && e.fields.origin.captureSeq == some seq
          && (sel == 0xFF#8 || e.fields.origin.templateNo.elim false fun n => n.val == sel.toNat)
        let corrupt := fun e : Entry => hit e && !e.codeOk
        let waits := fun e : Entry => hit e && e.codeOk && e.fields.stage.isHeld
        let decided := (s.table.live.filter waits).length
        let late := (s.table.live.filter fun e => hit e && e.codeOk && !e.fields.stage.isHeld).length
        let armed := fun e : Entry =>
          ({ e with fields := { e.fields with stage := .armed }, code := { e.fields with stage := .armed } } : Entry)
        ∃ t : State, exec (.verdict p) s = .next (t.answer p w
            (if 1 ≤ decided then .ok else if 1 ≤ late then .late else .notHeld)
            (be16 (BitVec.ofNat 16 decided) ++ be16 (BitVec.ofNat 16 late)))
          ∧ t = { s with
              table := { s.table with live := t.table.live, liveCount := t.table.liveCount }
              wires := { s.wires with
                findings := s.wires.findings ++ (s.table.live.filter corrupt).map fun e => .entry e.index } }
          ∧ (verd = 1 → t.table.live = s.table.live.filter fun e => !(corrupt e || waits e))
          ∧ (verd = 0 → t.table.live =
              (s.table.live.filter fun e => !corrupt e).map fun e => if waits e then armed e else e)
          ∧ ∀ q, t.table.liveCount.get q = ownedBy t.table.live q)

/-! ## Staging Buffers -/

/-- POST (R74 to R78, R82): the checks in their order, then the merge into the slot of its key or the lowest free slot; with all
four occupied the oldest is first committed by FULL; with COMMIT_NOW, every slot is then committed; a slot placed within the lead
is committed by LEAD. The reply carries every outcome. Where a cut of the FULL commit frees a lower slot too, the post takes the
lowest: the model's choice (log 37). Premise: the line records of the post agree with their codes;
ConsultationsClearCorruptLineRecords states the other case. -/
def Obligations.PostMergesOrTakesASlot : Prop :=
  ∀ (s : State) (p : Port) (w : Work), RequestWaits s p .post w →
    let x := s.slots.get p
    ((s.slots.get p).mode ≠ .run → exec (.post p) s = .next (s.answer p w .wrongMode []))
    ∧ (x.mode = .run → parsePost w.body = none → exec (.post p) s = .next (s.answer p w .badField []))
    ∧ ∀ b, x.mode = .run → parsePost w.body = some b → CodesMatch s b.lines →
      (∀ l, IsLowest b.lines (fun l => !(s.line[l]).heldBy p) l →
        exec (.post p) s = .next (s.answer p w .notLeased [byte l.val]))
      ∧ (AllLeased s p b.lines →
        (∀ l, IsLowest b.lines (fun l => decide ((s.line[l]).fault = .failed)) l →
          exec (.post p) s = .next (s.answer p w .lineFailed [byte l.val]))
        ∧ ((∀ l : LineNo, hasLine b.lines l = true → (s.line[l]).fault = .ok) →
          (∀ st, windowStatus x.pos b.due = some st → exec (.post p) s = .next (s.answer p w st []))
          ∧ (windowStatus x.pos b.due = none → SlotsLaw x →
            let content : SlotContent := { lines := b.lines, action := b.action, due := b.due, tag := b.tag,
                                           report := b.report, noMerge := b.noMerge }
            let merges := fun (i : Fin 4) (c : SlotContent) => x.slot[i] = some c ∧ b.noMerge = false ∧ c.noMerge = false
              ∧ sameMergeKey c content
            let lowest := fun i : Fin 4 => (∀ i c, ¬merges i c) ∧ x.slot[i] = none ∧ ∀ j : Fin 4, j < i → x.slot[j] ≠ none
            let merged := fun (i : Fin 4) (c : SlotContent) => ({ s with
              slots := s.slots.set p { x with
                slot := x.slot.set i (some { c with lines := c.lines ||| b.lines }) } } : State)
            let placed := fun i : Fin 4 => ({ s with
              slots := s.slots.set p { x with slot := x.slot.set i (some content), age := x.age ++ [i] } } : State)
            let replies := fun (t : State) (i : Fin 4) (m : Byte) (outs : List CommitOutcome) => exec (.post p) s =
              .next (t.answer p w .ok ([byte i.val, m, byte outs.length] ++ outs.flatMap outcomeBytes))
            let committed := fun (t : State × List CommitOutcome) (i : Fin 4) (m : Byte) => replies t.1 i m t.2
            (b.commitNow = false →
              (∀ i c, merges i c → exec (.post p) s = .next ((merged i c).answer p w .ok [byte i.val, 1, 0]))
              ∧ (∀ i, lowest i → x.lead < (b.due - x.pos).toNat →
                  exec (.post p) s = .next ((placed i).answer p w .ok [byte i.val, 0, 0]))
              ∧ (∀ i, lowest i → (b.due - x.pos).toNat ≤ x.lead → committed ((placed i).commitSlot p .lead i) i 0))
            ∧ (b.commitNow = true →
              (∀ i c, merges i c → committed ((merged i c).commitSlots p .now x.age) i 1)
              ∧ (∀ i, lowest i → committed ((placed i).commitSlots p .now (x.age ++ [i])) i 0))
            ∧ (∀ (i j : Fin 4) older, (∀ k c, ¬merges k c) → (∀ k : Fin 4, x.slot[k] ≠ none) → x.age = i :: older →
              let full := s.commitSlot p .full i
              let y := full.1.slots.get p
              y.slot[j] = none → (∀ k : Fin 4, k < j → y.slot[k] ≠ none) →
              let now : State := { full.1 with
                slots := full.1.slots.set p { y with slot := y.slot.set j (some content), age := y.age ++ [j] } }
              let lead := now.commitSlot p .lead j
              let all := now.commitSlots p .now (y.age ++ [j])
              ((∀ c, x.slot[i] = some c → CodesMatch s c.lines) → j = i ∧ y.age = older ∧ y.pos = x.pos ∧ y.lead = x.lead)
              ∧ (b.commitNow = false → y.lead < (b.due - y.pos).toNat → replies now j 0 full.2)
              ∧ (b.commitNow = false → (b.due - y.pos).toNat ≤ y.lead → replies lead.1 j 0 (full.2 ++ lead.2))
              ∧ (b.commitNow = true → replies all.1 j 0 (full.2 ++ all.2))))))

/-- A commit of a slot empties it and proposes its content for its port (R79); several are committed oldest first, each
against what the one before left (R80). A post that needs room has the oldest slot committed with reason FULL first and takes
its place (R76). COMMIT commits every slot and leaves none (R81), and DISCARD_STAGED empties every slot (R85). -/
def Obligations.CommitsProposeTheSlots : Prop :=
  ∀ (s : State) (p : Port),
    let x := s.slots.get p
    (∀ reason (i : Fin 4), x.slot[i] = none → s.commitSlot p reason i = (s, []))
    ∧ (∀ reason (i : Fin 4) c, x.slot[i] = some c →
        let r := ({ s with slots := s.slots.set p { x with
            slot := x.slot.set i none, age := x.age.filter fun j => j ≠ i } } : State).propose
          { owner := p, origin := .posted c.tag, lines := c.lines, action := c.action, due := c.due, report := c.report,
            stage := .armed }
        ∃ o, s.commitSlot p reason i = (r.1, [o]) ∧ o.reason = reason ∧ o.slot = i ∧ o.tag = c.tag
          ∧ (∀ h d, r.2 = .yes h d → o.result = .ok h) ∧ (∀ st, r.2 = .no st → o.result = .error st))
    ∧ (∀ reason (i : Fin 4) rest, s.commitSlots p reason (i :: rest) =
        (((s.commitSlot p reason i).1.commitSlots p reason rest).1,
          (s.commitSlot p reason i).2 ++ ((s.commitSlot p reason i).1.commitSlots p reason rest).2))
    ∧ (∀ (b : PostBody) (i : Fin 4) rest, x.age = i :: rest → (∀ j : Fin 4, x.slot[j] ≠ none) →
        (∀ c, x.slot[i] = some c → CodesMatch s c.lines) →
        (∀ (j : Fin 4) c, x.slot[j] = some c → b.noMerge = true ∨ c.noMerge = true
          ∨ ¬(c.due = b.due ∧ c.action = b.action ∧ c.tag = b.tag ∧ c.report = b.report)) →
        let r := s.commitSlot p .full i
        (s.placePost p b).1 = { r.1 with
            slots := r.1.slots.set p ((r.1.slots.get p).put i b) }
          ∧ (s.placePost p b).2 = { slot := i, merged := false, outcomes := r.2 })
    ∧ (∀ w, RequestWaits s p .commit w →
        (x.mode ≠ .run → exec (.commit p) s = .next (s.answer p w .wrongMode []))
        ∧ (x.mode = .run → w.body ≠ [] → exec (.commit p) s = .next (s.answer p w .badField []))
        ∧ (x.mode = .run → w.body = [] →
            let r := s.commitSlots p .request x.age
            exec (.commit p) s = .next (r.1.answer p w .ok (byte r.2.length :: r.2.flatMap outcomeBytes))
            ∧ (SlotsLaw x → ∀ i : Fin 4, (r.1.slots.get p).slot[i] = none)))
    ∧ (∀ w, RequestWaits s p .discardStaged w →
        (x.mode ≠ .run → x.mode ≠ .config → exec (.discardStaged p) s = .next (s.answer p w .wrongMode []))
        ∧ (x.mode = .run ∨ x.mode = .config → w.body ≠ [] →
            exec (.discardStaged p) s = .next (s.answer p w .badField []))
        ∧ (x.mode = .run ∨ x.mode = .config → w.body = [] →
            exec (.discardStaged p) s = .next (({ s with
              slots := s.slots.set p { x with slot := Vector.replicate 4 none, age := [] } } : State).answer p w .ok
                [byte (x.slot.toList.filter Option.isSome).length])))

/-- A forward step and a write of COMMIT_LEAD in RUN commit exactly the slots within the lead, with reason LEAD, oldest first, and
post each outcome to the port in that order (R80, R82 to R84); afterwards every slot stands beyond the lead. With no slot within
it nothing is committed. A write is taken whatever mode changes wait at the slots (log 32); with none there its command does
nothing (log 1). -/
def Obligations.LeadCommitsTheSlotsWithinIt : Prop :=
  ∀ (s : State) (p : Port), s.inReset = none → SlotsLaw (s.slots.get p) →
    let x := s.slots.get p
    let lead := fun (r t : State) =>
      let y := r.slots.get p
      (∀ (i : Fin 4) c, (t.slots.get p).slot[i] = some c → y.lead < (c.due - y.pos).toNat)
      ∧ ((∀ (i : Fin 4) c, y.slot[i] = some c → CodesMatch s c.lines) → ∀ (i : Fin 4) c, y.slot[i] = some c →
          y.lead < (c.due - y.pos).toNat → (t.slots.get p).slot[i] = some c)
      ∧ ((∀ (i : Fin 4) c, y.slot[i] = some c → y.lead < (c.due - y.pos).toNat) → t = r)
      ∧ (let within := y.age.filter fun i => (y.slot[i]).elim false fun c => decide ((c.due - y.pos).toNat ≤ y.lead)
         let u := r.commitSlots p .lead within
         t = { u.1 with wires := { u.1.wires with notices := u.1.wires.notices.set p (u.1.wires.notices.get p ++
           u.2.map fun o => { source := .slots, own := false, notice := match o.result with
             | .ok h => { Notice.bare .commitDone with handle := some h, tag := o.tag, reason := some 3 }
             | .error st => { Notice.bare .commitFailed with status := some st, tag := o.tag, reason := some 3 } }) } })
    (∀ pos asks rest, s.wires.slotsMotion.get p = .step true pos asks :: rest →
      ∃ t, exec (.stepAtSlots p) s = .next t
        ∧ lead { s with
            slots := s.slots.set p { x with pos := pos }
            wires := { s.wires with slotsMotion := s.wires.slotsMotion.set p rest } } t)
    ∧ (∀ v q, OldestWrite .commitLead v (s.wires.toSlots.get p) q →
        ∃ t, exec (.writeCommitLead p) s = .next t
          ∧ (x.mode = .run → lead { s with
              slots := s.slots.set p { x with lead := v }
              wires := { s.wires with toSlots := s.wires.toSlots.set p q } } t)
          ∧ (x.mode ≠ .run → t = { s with
              slots := s.slots.set p { x with lead := v }
              wires := { s.wires with toSlots := s.wires.toSlots.set p q } }))
    ∧ ((∀ v q, ¬OldestWrite .commitLead v (s.wires.toSlots.get p) q) → exec (.writeCommitLead p) s = .next s)

/-! ## Lines -/

/-- A cut of a line set for a port: no slot, entry or template of the port names a line of the set afterwards; a record that
keeps a line keeps every other field, a record left with none is gone, its slot out of the age list; the slots that stay occupied
keep their places there (R86), and the port's P, mode and COMMIT_LEAD, the records of the other ports and everything else stay;
the six counts count the records named and those gone (R26, R70, R86, R128). -/
def Obligations.CutTakesTheLinesOutOfEveryRecord : Prop :=
  ∀ (s : State) (p : Port) (x : LineSet),
    let t := s.cut p x
    t = { s with slots := t.slots, table := { s.table with live := t.table.live, liveCount := t.table.liveCount }
                 templates := { s.templates with place := t.templates.place } }
    ∧ (∀ q, q ≠ p → t.slots.get q = s.slots.get q)
    ∧ (∀ i : Fin 4, (t.slots.get p).slot[i] = ((s.slots.get p).slot[i]).bind fun c =>
        if c.lines &&& x = 0 then some c else if c.lines &&& ~~~x = 0 then none
        else some { c with lines := c.lines &&& ~~~x })
    ∧ (t.slots.get p = { s.slots.get p with
        slot := (t.slots.get p).slot, age := (s.slots.get p).age.filter fun i => ((t.slots.get p).slot[i]).isSome })
    ∧ (SlotsLaw (s.slots.get p) → SlotsLaw (t.slots.get p))
    ∧ (t.table.live = s.table.live.filterMap fun e =>
        if e.fields.owner ≠ p ∨ e.fields.lines &&& x = 0 then some e else if e.fields.lines &&& ~~~x = 0 then none
        else some { e with fields := { e.fields with lines := e.fields.lines &&& ~~~x }
                           code := { e.fields with lines := e.fields.lines &&& ~~~x } })
    ∧ (TableLaw s.table → ∀ q, t.table.liveCount.get q = ownedBy t.table.live q)
    ∧ (∀ n : TemplateNo, t.templates.place[n] = (s.templates.place[n]).bind fun m =>
        if m.fields.owner ≠ p ∨ m.fields.lines &&& x = 0 then some m else if m.fields.lines &&& ~~~x = 0 then none
        else some { fields := { m.fields with lines := m.fields.lines &&& ~~~x }
                    code := { m.fields with lines := m.fields.lines &&& ~~~x } })
    ∧ (let c := cutCounts s p x
       c.slotsNamed = ((List.finRange 4).filter fun i =>
         ((s.slots.get p).slot[i]).any fun k => decide (k.lines &&& x ≠ 0)).length
       ∧ c.slotsEmptied = ((List.finRange 4).filter fun i =>
         ((s.slots.get p).slot[i]).isSome && ((t.slots.get p).slot[i]).isNone).length
       ∧ c.entriesNamed = (s.table.live.filter fun e => e.fields.owner == p && decide (e.fields.lines &&& x ≠ 0)).length
       ∧ c.entriesRemoved = s.table.live.length - t.table.live.length
       ∧ c.templatesNamed = ((List.finRange 32).filter fun n =>
         (s.templates.place[n]).any fun m => m.fields.owner == p && decide (m.fields.lines &&& x ≠ 0)).length
       ∧ c.templatesDeleted = ((List.finRange 32).filter fun n =>
         (s.templates.place[n]).isSome && (t.templates.place[n]).isNone).length)

/-- LEASE_LINES (R24, R25): the mode, then the fields; one line refused refuses the whole request with the lowest such line;
otherwise every line of the set takes its new lease state by the table of R25, and nothing else changes. -/
def Obligations.LeasesAreGrantedByTheTable : Prop :=
  ∀ (s : State) (p : Port) (w : Work), RequestWaits s p .leaseLines w →
    (s.lineBlock.mode ≠ .config → s.lineBlock.mode ≠ .run → exec (.leaseLines p) s = .next (s.answer p w .wrongMode []))
    ∧ (s.lineBlock.mode = .config ∨ s.lineBlock.mode = .run →
      ((∀ (x : LineSet) (m f : Byte), w.body = be32 x ++ [m, f] → x = 0 ∨ 2 ≤ m.toNat ∨ 2 ≤ f.toNat) →
        exec (.leaseLines p) s = .next (s.answer p w .badField []))
      ∧ ∀ (x : LineSet) (m f : Byte), w.body = be32 x ++ [m, f] → x ≠ 0 → m = 0 ∨ m = 1 → f = 0 ∨ f = 1 →
        (∀ l : LineNo, hasLine x l = true → LeaseRefused p (m == 0) s.line[l] →
          (∀ k : LineNo, k < l → hasLine x k = true → ¬LeaseRefused p (m == 0) s.line[k]) →
          exec (.leaseLines p) s = .next (s.answer p w .heldByOther [byte l.val]))
        ∧ ((∀ l : LineNo, hasLine x l = true → ¬LeaseRefused p (m == 0) s.line[l]) → s.lineLaw →
          ∃ t : State, exec (.leaseLines p) s = .next (t.answer p w .ok []) ∧ t = { s with line := t.line }
            ∧ ∀ l : LineNo, t.line[l] = if hasLine x l then leased p (m == 0) (f == 1) s.line[l] else s.line[l]))

/-- RELEASE_LINES (R28) and REVOKE_LINES (R29): the shares are dropped by R21 and the lines cut out of the records of those
who held them; a revoke tells each former holder its lowest line and how many of its records were touched. -/
def Obligations.ReleaseAndRevokeDropSharesAndCut : Prop :=
  ∀ (s : State) (p : Port) (w : Work),
    let open_ := s.lineBlock.mode = .config ∨ s.lineBlock.mode = .run
    let bad := ∀ x : LineSet, w.body = be32 x → x = 0
    (RequestWaits s p .releaseLines w →
      (¬open_ → exec (.releaseLines p) s = .next (s.answer p w .wrongMode []))
      ∧ (open_ → bad → exec (.releaseLines p) s = .next (s.answer p w .badField []))
      ∧ (∀ x l, open_ → w.body = be32 x → x ≠ 0 → IsLowest x (fun l => !(s.line[l]).heldBy p) l →
          exec (.releaseLines p) s = .next (s.answer p w .notLeased [byte l.val]))
      ∧ (∀ x, open_ → w.body = be32 x → x ≠ 0 → AllLeased s p x →
          ∃ t : State, exec (.releaseLines p) s = .next ((t.cut p x).answer p w .ok (cutCounts s p x).bytes)
            ∧ t = { s with line := t.line }
            ∧ ∀ l : LineNo, t.line[l] =
                if hasLine x l then withoutShares (fun h => h.port == p) s.line[l] else s.line[l]))
    ∧ (p = .A → RequestWaits s .A .revokeLines w →
      (¬open_ → exec .revokeLines s = .next (s.answer .A w .wrongMode []))
      ∧ (open_ → bad → exec .revokeLines s = .next (s.answer .A w .badField []))
      ∧ (∀ x, open_ → w.body = be32 x → x ≠ 0 → s.lineLaw →
          let held := fun q : Port => lineSetOf fun l => hasLine x l && (s.line[l]).heldBy q
          ∃ t : State, exec .revokeLines s = .next (t.answer .A w .ok
              (byte ((linesOf x).filter fun l => decide ((s.line[l]).leaseMode ≠ .free)).length
                :: (revokeCounts s x).bytes))
            ∧ t = { s with
                line := t.line, slots := t.slots
                table := { s.table with live := t.table.live, liveCount := t.table.liveCount }
                templates := { s.templates with place := t.templates.place }
                wires := { s.wires with notices := t.wires.notices } }
            ∧ (TableLaw s.table → ∀ q, t.table.liveCount.get q = ownedBy t.table.live q)
            ∧ (∀ l : LineNo, t.line[l] = if hasLine x l then withoutShares (fun _ => true) s.line[l] else s.line[l])
            ∧ (∀ q, t.slots.get q = if held q = 0 then s.slots.get q else (s.cut q (held q)).slots.get q)
            ∧ t.table.live = s.table.live.filterMap (fun e => cutEntry e.fields.owner (held e.fields.owner) e)
            ∧ (∀ n : TemplateNo, t.templates.place[n] = (s.templates.place[n]).bind fun m =>
                cutPlace m.fields.owner (held m.fields.owner) (some m))
            ∧ ∀ q, t.wires.notices.get q = s.wires.notices.get q ++ (if held q = 0 then [] else
                [{ source := .lineBlock, own := q == .A, notice := { Notice.bare .leaseRevoked with
                    line := (linesOf (held q)).head?, count := some (cutCounts s q (held q)).touched } }])))

/-- FORCE_LINES (R34), UNFORCE_LINES (R35) and CLEAR_LINE_FAULT (R40): each line of the set takes the force, or loses it, or
is OK with count 0; the engine, the lease and the other lines stay, and a change of the driven level starts a settle check
(R36). -/
def Obligations.ForcesAndClearedFaults : Prop :=
  ∀ (s : State) (w : Work),
    let open_ := s.lineBlock.mode = .config ∨ s.lineBlock.mode = .run
    let takes := fun (c : Instr) (x : LineSet) (f : LineRec → LineRec) =>
      ∃ t : State, exec c s = .next (t.answer .A w .ok []) ∧ t = { s with line := t.line }
        ∧ ∀ l : LineNo, t.line[l] = if hasLine x l then
            { LineRec.recode s.line[l] (f s.line[l]) with settle := settleAfter s t l (s.line[l]).settle }
          else s.line[l]
    (RequestWaits s .A .forceLines w →
      (¬open_ → exec .forceLines s = .next (s.answer .A w .wrongMode []))
      ∧ (open_ → (∀ (x : LineSet) (v : Byte), w.body = be32 x ++ [v] → x = 0 ∨ 2 ≤ v.toNat) →
          exec .forceLines s = .next (s.answer .A w .badField []))
      ∧ (∀ x, open_ → x ≠ 0 → w.body = be32 x ++ [1] → takes .forceLines x fun r => { r with force := .forcedOn })
      ∧ (∀ x, open_ → x ≠ 0 → w.body = be32 x ++ [0] → takes .forceLines x fun r => { r with force := .forcedOff }))
    ∧ (RequestWaits s .A .unforceLines w →
      (¬open_ → exec .unforceLines s = .next (s.answer .A w .wrongMode []))
      ∧ (open_ → (∀ x : LineSet, w.body = be32 x → x = 0) →
          exec .unforceLines s = .next (s.answer .A w .badField []))
      ∧ (∀ x, open_ → x ≠ 0 → w.body = be32 x → takes .unforceLines x fun r => { r with force := .none }))
    ∧ (RequestWaits s .A .clearLineFault w →
      (¬open_ → exec .clearLineFault s = .next (s.answer .A w .wrongMode []))
      ∧ (open_ → (∀ x : LineSet, w.body = be32 x → x = 0) →
          exec .clearLineFault s = .next (s.answer .A w .badField []))
      ∧ (∀ x, open_ → x ≠ 0 → w.body = be32 x →
          takes .clearLineFault x fun r => { r with fault := .ok, mismatch := 0 }))

/-- A history period boundary: every history shifts, every share ages to at most 8, the shares that lapse are dropped and
their ports told, and the boundary is handed to the Mode Controller (R30, R31). -/
def Obligations.HistoryBoundaryShiftsAgesAndLapses : Prop :=
  ∀ s : State, s.inReset = none → s.lineLaw → s.slotsLaw →
    let aged := fun l : LineNo => ({ s.line[l] with
      history := (s.line[l]).history <<< 1
      shares := (s.line[l]).shares.map fun h => { h with age := min (h.age + 1) 8 } } : LineRec)
    let named := fun (p : Port) (l : LineNo) =>
      (∃ i : Fin 4, ∃ c, (s.slots.get p).slot[i] = some c ∧ hasLine c.lines l = true)
      ∨ (∃ e ∈ s.table.live, e.fields.owner = p ∧ hasLine e.fields.lines l = true)
      ∨ (∃ n : TemplateNo, ∃ m, s.templates.place[n] = some m ∧ m.fields.owner = p ∧ hasLine m.fields.lines l = true)
    (s.lineBlock.historyPeriod.micros ≤ (s.now - s.lineBlock.historyStart).toNat →
      ∃ (t : State) (lapsed : LineNo → Share → Bool), exec .historyPeriodBoundary s = .next t
        ∧ (∀ l h, lapsed l h = true ↔ h.lapse = true ∧ h.age = 8 ∧ (aged l).history = 0 ∧ ¬named h.port l)
        ∧ t = { s with
            line := t.line, lineBlock := { s.lineBlock with historyStart := s.now }
            wires := { s.wires with boundaries := s.wires.boundaries + 1, notices := t.wires.notices } }
        ∧ (∀ l : LineNo, t.line[l] = withoutShares (lapsed l) (aged l))
        ∧ ∀ p, t.wires.notices.get p = s.wires.notices.get p ++
            (allLines.filter fun l => (aged l).shares.any fun h => h.port == p && lapsed l h).map fun l =>
              { source := .lineBlock, own := false, notice := { Notice.bare .leaseLapsed with line := some l } })
    ∧ ((s.now - s.lineBlock.historyStart).toNat < s.lineBlock.historyPeriod.micros →
        exec .historyPeriodBoundary s = .next s)

/-- The expiry of a settle check with the readback level of the wire: a match clears the mismatch count, a mismatch raises
it; at the threshold an unforced OK line is FAILED, its engine OFF, the line cut for every holder, and every holder and port A
told (R37, R39, R97). The level as the command's operand (log 9), and that a check that is not due does nothing (log 1), are
the model's. -/
def Obligations.SettleCheckCountsAndFails : Prop :=
  ∀ (s : State) (l : LineNo) (rb : Bool), s.inReset = none →
    let r := s.line[l]
    let count := if rb = s.driven l then 0 else min (r.mismatch + 1) 15
    let fails := rb ≠ s.driven l ∧ r.force = .none ∧ r.fault = .ok ∧ s.control.params.faultThreshold ≤ count
    let wire := fun t : State => ∀ k : LineNo, hasLine t.pinReadback k = if k = l then rb else hasLine s.pinReadback k
    (∀ c, r.settle = some c → c.duration ≤ (s.now - c.start).toNat →
      (¬fails → ∃ t, exec (.settleExpiry l rb) s = .next t ∧ wire t ∧ t = { s with
        line := s.line.set l { r with mismatch := count, settle := none }, pinReadback := t.pinReadback })
      ∧ (fails → ∃ t, exec (.settleExpiry l rb) s = .next t ∧ wire t
        ∧ t = { s with
            line := s.line.set l { r with
              mismatch := count, fault := .failed, engine := (t.line[l]).engine
              settle := settleAfter s t l none, code := { r.covered with fault := .failed } }
            slots := (s.cutAll (r.shares.map Share.port) (singleLine l)).slots
            table := (s.cutAll (r.shares.map Share.port) (singleLine l)).table
            templates := (s.cutAll (r.shares.map Share.port) (singleLine l)).templates
            pinReadback := t.pinReadback, wires := { s.wires with notices := t.wires.notices } }
        ∧ SetOff s.now r.rest r.engine (t.line[l]).engine
        ∧ t.driven l = false
        ∧ ∀ p, t.wires.notices.get p = s.wires.notices.get p ++ (if p = .A ∨ r.heldBy p = true then
            [{ source := .lineBlock, own := false, notice := { Notice.bare .lineFailed with line := some l } }] else [])))
    ∧ (r.settle = none ∨ (∃ c, r.settle = some c ∧ (s.now - c.start).toNat < c.duration) →
        exec (.settleExpiry l rb) s = .next s)

/-- A consultation clears every mismatched line record of its set, with its cut for all ports and its finding, and answers from
the cleared records: an admission, POST, AMEND_ENTRY and DEFINE_TEMPLATE are refused NOT_LEASED, and an instance fails so (R23,
R43, R132, R153). That every record of the set is verified, in ascending order (log 19), and the count of a template that the cut
deletes (log 21), are the model's reading. -/
def Obligations.ConsultationsClearCorruptLineRecords : Prop :=
  (∀ (s : State) (x : LineSet),
    let bad := (linesOf x).filter fun l => !(s.line[l]).codeOk
    let cuts := bad.foldl (fun u l => u.cutAll Port.all (singleLine l)) s
    let t := s.consult x
    t = { s with
      line := t.line, slots := cuts.slots, table := cuts.table, templates := cuts.templates
      wires := { s.wires with findings := s.wires.findings ++ bad.map .line } }
    ∧ (∀ l : LineNo, l ∉ bad → t.line[l] = s.line[l])
    ∧ (∀ l ∈ bad, t.line[l] = { s.line[l] with
        leaseMode := .free, shares := [], fault := .ok, settle := settleAfter s t l (s.line[l]).settle
        code := { leaseMode := .free, holders := [], force := (s.line[l]).force, fault := .ok } }))
  ∧ (∀ (s : State) (n : Proposal), s.table.mode = .run → ¬CodesMatch s n.lines →
      s.propose n = (s.consult n.lines, .no .notLeased))
  ∧ (∀ (s : State) (p : Port) (w : Work) (b : PostBody), RequestWaits s p .post w → (s.slots.get p).mode = .run →
      parsePost w.body = some b → ¬CodesMatch s b.lines →
      let u := s.consult b.lines
      ∃ l, IsLowest b.lines (fun l => !(u.line[l]).heldBy p) l
        ∧ exec (.post p) s = .next (u.answer p w .notLeased [byte l.val]))
  ∧ (∀ (s : State) (p : Port) (w : Work) (b : AmendBody) (e : Entry), RequestWaits s p .amendEntry w → s.table.mode = .run →
      parseAmend w.body = some b → TableLaw s.table → e ∈ s.table.live → e.fields.handle = b.handle → e.fields.owner = p →
      e.codeOk = true → e.fields.stage = .armed → b.width = none ∨ (∃ v, e.fields.action = .pulse v) →
      ¬CodesMatch s e.fields.lines →
      exec (.amendEntry p) s = .next ((s.consult e.fields.lines).answer p w .notLeased []))
  ∧ (∀ (s : State) (p : Port) (w : Work) (b : TemplateBody), RequestWaits s p .defineTemplate w →
      s.templates.mode = .config ∨ s.templates.mode = .run → parseTemplate w.body = some b →
      (∀ m, s.templates.place[b.num] = some m → m.fields.owner = p) → ¬CodesMatch s b.lines →
      let u := s.consult b.lines
      ∃ l, IsLowest b.lines (fun l => !(u.line[l]).heldBy p) l
        ∧ exec (.defineTemplate p) s = .next (u.answer p w .notLeased [byte l.val]))
  ∧ ∀ (s : State) (h : HandOff) (rest : List HandOff) (n : TemplateNo) (m : Template),
      s.inReset = none → s.wires.handOffs = h :: rest → s.table.mode = .run → s.templates.place[n] = some m →
      let hits := fun m : Template => m.fields.active = true ∧ m.fields.sensor = h.sensor ∧ m.fields.edge = h.edge
      hits m → m.codeOk = true → (∀ (k : TemplateNo) x, k ≠ n → s.templates.place[k] = some x → ¬hits x) →
      ¬CodesMatch s m.fields.lines →
      let u := ({ s with wires := { s.wires with handOffs := rest } } : State).consult m.fields.lines
      let counted := fun k : Template =>
        let f := { k.fields with failures := satInc k.fields.failures }
        ({ fields := f, code := f } : Template)
      exec .captureHandOff s = .next { u with
        templates := { u.templates with place := u.templates.place.set n ((u.templates.place[n]).map counted) }
        wires := { u.wires with notices := u.wires.notices.set m.fields.owner (u.wires.notices.get m.fields.owner ++
          [{ source := .templateTable, own := false, notice := { Notice.bare .instanceFailed with
              template := some n, seq := some h.seq, status := some .notLeased
              count := some (satInc m.fields.failures).toNat } }]) } }

/-! ## Sensors and the Capture Log -/

/-- Raw changes, filter expiries and writes of SENSOR_FILTER (R106 to R109): a departure starts a pending change with the
time and the position reading of that moment, a return discards it, and it becomes an edge when it has lasted the filter
time. A departed level reported again is a return and a new departure within one event (log 31); a write is taken whatever mode changes
wait at the log (log 32); an expiry that is not due and the command of a write that is not there do nothing (log 1). -/
def Obligations.SensorInputsFilterAndTestEdges : Prop :=
  ∀ (s : State) (k : SensorNo), s.inReset = none →
    let x := s.sensor[k]
    let reading : Reading := { pos := s.position.p, epoch := s.position.epoch, frame := s.position.frame }
    let departed : PendingChange := { start := s.now, reading := reading }
    let r : State := { s with sensor := s.sensor.set k { x with raw := !x.filtered, pend := some departed } }
    exec (.sensorRawChange k x.filtered) s =
      .next { s with sensor := s.sensor.set k { x with raw := x.filtered, pend := none } }
    ∧ (1 ≤ x.filter → exec (.sensorRawChange k (!x.filtered)) s = .next r)
    ∧ (x.filter = 0 → ∃ t, exec (.sensorRawChange k (!x.filtered)) s = .next t ∧ EdgeMade r k departed t)
    ∧ (∀ c, x.pend = some c → x.filter ≤ (s.now - c.start).toNat →
        ∃ t, exec (.sensorFilterExpiry k) s = .next t ∧ EdgeMade s k c t)
    ∧ (x.pend = none ∨ (∃ c, x.pend = some c ∧ (s.now - c.start).toNat < x.filter) →
        exec (.sensorFilterExpiry k) s = .next s)
    ∧ (∀ v q, OldestWrite (.sensorFilter k) v s.wires.toLog q →
        let u : State := { s with
          sensor := s.sensor.set k { x with filter := v }, wires := { s.wires with toLog := q } }
        (x.pend = none ∨ (∃ c, x.pend = some c ∧ (s.now - c.start).toNat < v) →
          exec (.writeSensorFilter k) s = .next u)
        ∧ (∀ c, x.pend = some c → v ≤ (s.now - c.start).toNat →
          ∃ t, exec (.writeSensorFilter k) s = .next t ∧ EdgeMade u k c t))
    ∧ ((∀ v q, ¬OldestWrite (.sensorFilter k) v s.wires.toLog q) → exec (.writeSensorFilter k) s = .next s)

/-- An accepted edge is entered under the next sequence with the ports subscribed to its sensor outstanding; a full log
first loses its oldest record, charged to the ports still outstanding on it; the oldest records with no port outstanding
leave; in RUN the capture is handed on (R110 to R114). An entry that met a read which let the oldest record of a full log leave
removes the oldest that is held instead, also with fewer than 64 (R118); with fewer, every other entry removes nothing and charges
no port. Which entry the table of R118 means (log 39), and that the edges on their way are entered in any order (log 17), are the
model's reading. -/
def Obligations.AcceptedEdgesAreEntered : Prop :=
  ∀ (s : State) (i : Nat) (e : AcceptedEdge), s.inReset = none → s.logLaw → s.wires.edges[i]? = some e →
    let g := s.log
    ∃ (t : State) (c : Capture) (old : List Capture), exec (.captureEntry i) s = .next t
      ∧ c.seq = g.next ∧ c.sensor = e.sensor ∧ c.edge = e.edge ∧ c.reading = e.reading ∧ c.time = e.time
      ∧ (∀ p, c.outstanding.get p = (g.subscription.get p).getLsbD e.sensor)
      ∧ t = { s with
          log := { g with
            records := held (old ++ [c]), next := g.next + 1, cursor := t.log.cursor, lost := t.log.lost
            overwriteDue := false }
          wires := { s.wires with
            edges := s.wires.edges.eraseIdx i, notices := t.wires.notices
            handOffs := s.wires.handOffs ++ (if g.mode = .run then
              [{ seq := g.next, sensor := e.sensor, edge := e.edge, reading := e.reading, time := e.time }] else []) } }
      ∧ (∀ p, t.log.cursor.get p =
          if (g.next - g.cursor.get p).toNat = 2147483648 then g.cursor.get p + 1 else g.cursor.get p)
      ∧ (g.records.length < 64 ∧ g.overwriteDue = false ∨ g.records = [] →
          old = g.records ∧ t.log.lost = g.lost ∧ t.wires.notices = s.wires.notices)
      ∧ (∀ o rest, g.records.length = 64 ∨ g.overwriteDue = true → g.records = o :: rest → old = held rest ∧ ∀ p,
          t.log.lost.get p = (if o.outstanding.get p then satInc (g.lost.get p) else g.lost.get p)
          ∧ t.wires.notices.get p = s.wires.notices.get p ++ (if o.outstanding.get p then
              [{ source := .captureLog, own := false, notice := { Notice.bare .captureLost with
                  seq := some o.seq, count := some (satInc (g.lost.get p)).toNat } }] else []))

/-- SUBSCRIBE takes the port out of the records of the sensors it drops (R115); READ_CAPTURES returns the oldest records
that wait for the port, at most as many as asked, and moves the cursor past what it examined (R116, R117). Records that no
port waits for then leave from the old end (R112). A read that so lets the oldest record of a full log leave while an entry is on
its way makes that entry remove the next oldest instead (R118, log 39). That neither request looks at the mode of the log is the
model's choice (log 40). -/
def Obligations.SubscriptionsAndReadsOfCaptures : Prop :=
  ∀ (s : State) (p : Port) (w : Work),
    let g := s.log
    (RequestWaits s p .subscribe w →
      (w.body.length ≠ 1 → exec (.subscribe p) s = .next (s.answer p w .badField []))
      ∧ (∀ x : Byte, w.body = [x] →
        let gone := fun c : Capture => (g.subscription.get p).getLsbD c.sensor && !x.getLsbD c.sensor && c.outstanding.get p
        exec (.subscribe p) s = .next (({ s with log := { g with
            subscription := g.subscription.set p x
            records := held (g.records.map fun c =>
              if gone c then { c with outstanding := c.outstanding.set p false } else c) } } : State).answer p w .ok
          [byte (g.records.filter gone).length])))
    ∧ (RequestWaits s p .readCaptures w →
      ((∀ n : Byte, w.body = [n] → n = 0 ∨ 7 ≤ n.toNat) →
        exec (.readCaptures p) s = .next (s.answer p w .badField []))
      ∧ (∀ n : Byte, w.body = [n] → 1 ≤ n.toNat → n.toNat ≤ 6 → s.logLaw →
        let mine := g.records.filter fun c => c.outstanding.get p
        let back := mine.take n.toNat
        let meets := s.wires.edges ≠ [] ∧ g.records.length = 64 ∧ ∃ o rest, g.records = o :: rest ∧ o.outstanding.get p = true
          ∧ o.outstanding.set p false = PortSet.empty
        ∃ due, (due = true ↔ g.overwriteDue = true ∨ meets) ∧ exec (.readCaptures p) s = .next (({ s with
            log := { g with
              records := held (g.records.map fun c =>
                if c ∈ back then { c with outstanding := c.outstanding.set p false } else c)
              cursor := g.cursor.set p (if mine.length < n.toNat then g.next
                else (back.getLast?.elim g.next fun c => c.seq + 1))
              lost := g.lost.set p 0
              overwriteDue := due } } : State).answer p w .ok
          ([byte back.length, byte (if n.toNat < mine.length then 1 else 0)] ++ be16 (g.lost.get p)
            ++ (List.finRange 8).flatMap (fun k => be16 (s.sensor[k]).rejected) ++ back.flatMap captureRecord))))

/-! ## Templates -/

/-- A hand-off proposes one entry for each ACTIVE template of its sensor and edge, due the offset after the capture's
position (R129 to R132): with no match nothing happens; with one, its instance is admitted or its failure counted and told;
a template whose code mismatches is deleted (R139). Several matches are taken one after another in ascending number. That each
proposal is judged before the next place is examined, so that a cut by an earlier proposal's consultation reaches a later template
before it proposes, is the model's choice (log 44). A refusal by a corrupt line record is stated in
ConsultationsClearCorruptLineRecords. -/
def Obligations.HandOffsMakeInstances : Prop :=
  ∀ (s : State) (h : HandOff) (rest : List HandOff), s.inReset = none → s.wires.handOffs = h :: rest →
    let r : State := { s with wires := { s.wires with handOffs := rest } }
    let hits := fun m : Template => m.fields.active = true ∧ m.fields.sensor = h.sensor ∧ m.fields.edge = h.edge
    ((∀ (n : TemplateNo) m, s.templates.place[n] = some m → ¬hits m) → exec .captureHandOff s = .next r)
    ∧ (exec .captureHandOff s = .next ((List.finRange 32).foldl (State.examinePlace h) r))
    ∧ ∀ (n : TemplateNo) m, s.templates.place[n] = some m → hits m →
      (∀ (k : TemplateNo) x, k ≠ n → s.templates.place[k] = some x → ¬hits x) →
      let f := m.fields
      let due := h.reading.pos + f.offset
      let a := r.propose {
        owner := f.owner, origin := .template n h.seq, lines := f.lines, action := f.action, due := due
        report := f.report
        stage := match f.verdict with
          | .none => .armed
          | .required dist d => .held (due - dist) d }
      (m.codeOk = false → exec .captureHandOff s = .next { s with
        templates := { s.templates with place := s.templates.place.set n none }
        wires := { s.wires with handOffs := rest, findings := s.wires.findings ++ [.template n] } })
      ∧ (∀ i d, m.codeOk = true → a.2 = .yes i d → exec .captureHandOff s = .next a.1)
      ∧ (∀ st, m.codeOk = true → a.2 = .no st → s.table.mode ≠ .run ∨ CodesMatch s f.lines → exec .captureHandOff s = .next { s with
        templates := { s.templates with place := s.templates.place.set n (some
          { fields := { f with failures := satInc f.failures }, code := { f with failures := satInc f.failures } }) }
        wires := { s.wires with
          handOffs := rest
          notices := s.wires.notices.set f.owner (s.wires.notices.get f.owner ++
            [{ source := .templateTable, own := false, notice := { Notice.bare .instanceFailed with
                template := some n, seq := some h.seq, status := some st
                count := some (satInc f.failures).toNat } }]) } })

/-- DEFINE_TEMPLATE (R123, R124), DELETE_TEMPLATE (R125) and SET_TEMPLATE_STATE (R126): the checks in their order, and the
place defined anew, freed, or in its new state with its code over the new fields. Premise of a definition: the line records
consulted agree with their codes; ConsultationsClearCorruptLineRecords states the other case. That a deletion and a suspension
do not look at the mode of the Template Table is the model's choice (log 40). -/
def Obligations.TemplatesAreDefinedDeletedAndSuspended : Prop :=
  ∀ (s : State) (p : Port) (w : Work),
    let open_ := s.templates.mode = .config ∨ s.templates.mode = .run
    let put := fun (n : TemplateNo) (m : Option Template) =>
      ({ s with templates := { s.templates with place := s.templates.place.set n m } } : State)
    let other := fun n : TemplateNo => ∃ m, s.templates.place[n] = some m ∧ m.fields.owner ≠ p
    (RequestWaits s p .defineTemplate w →
      (¬open_ → exec (.defineTemplate p) s = .next (s.answer p w .wrongMode []))
      ∧ (open_ → parseTemplate w.body = none → exec (.defineTemplate p) s = .next (s.answer p w .badField []))
      ∧ ∀ b, open_ → parseTemplate w.body = some b →
        (other b.num → exec (.defineTemplate p) s = .next (s.answer p w .heldByOther []))
        ∧ (¬other b.num → CodesMatch s b.lines →
          (∀ l, IsLowest b.lines (fun l => !(s.line[l]).heldBy p) l →
            exec (.defineTemplate p) s = .next (s.answer p w .notLeased [byte l.val]))
          ∧ (∀ l, AllLeased s p b.lines → IsLowest b.lines (fun l => decide ((s.line[l]).fault = .failed)) l →
            exec (.defineTemplate p) s = .next (s.answer p w .lineFailed [byte l.val]))
          ∧ (AllLeased s p b.lines → (∀ l : LineNo, hasLine b.lines l = true → (s.line[l]).fault = .ok) →
            let f : TemplateFields := {
              owner := p, sensor := b.sensor, edge := b.edge, lines := b.lines, action := b.action, offset := b.offset
              verdict := b.verdict, report := b.report, active := true, failures := 0 }
            exec (.defineTemplate p) s = .next ((put b.num (some { fields := f, code := f })).answer p w .ok
              [byte b.num.val, byte (if (s.templates.place[b.num]).isSome then 1 else 0)]))))
    ∧ (RequestWaits s p .deleteTemplate w →
      ((∀ n : Byte, w.body = [n] → 32 ≤ n.toNat) → exec (.deleteTemplate p) s = .next (s.answer p w .badField []))
      ∧ ∀ n : TemplateNo, w.body = [byte n.val] →
        (s.templates.place[n] = none → exec (.deleteTemplate p) s = .next (s.answer p w .noSuchTemplate []))
        ∧ (other n → exec (.deleteTemplate p) s = .next (s.answer p w .heldByOther []))
        ∧ (∀ m, s.templates.place[n] = some m → m.fields.owner = p →
            exec (.deleteTemplate p) s = .next ((put n none).answer p w .ok [])))
    ∧ (RequestWaits s p .setTemplateState w →
      ((∀ n v : Byte, w.body = [n, v] → 32 ≤ n.toNat ∨ 2 ≤ v.toNat) →
        exec (.setTemplateState p) s = .next (s.answer p w .badField []))
      ∧ ∀ (n : TemplateNo) (v : Byte), w.body = [byte n.val, v] → v = 0 ∨ v = 1 →
        (v = 0 → ¬open_ → exec (.setTemplateState p) s = .next (s.answer p w .wrongMode []))
        ∧ (v = 1 ∨ open_ →
          (s.templates.place[n] = none → exec (.setTemplateState p) s = .next (s.answer p w .noSuchTemplate []))
          ∧ (other n → exec (.setTemplateState p) s = .next (s.answer p w .heldByOther []))
          ∧ (∀ m, s.templates.place[n] = some m → m.fields.owner = p →
            let f := { m.fields with active := v == 0 }
            exec (.setTemplateState p) s = .next ((put n (some { fields := f, code := f })).answer p w .ok
              [byte (if m.fields.active then 0 else 1)]))))

/-- READ_POSITION (R19), GET_PARAM (R151), READ_HEALTH (R156), QUERY_ENTRY (R65), READ_TABLE_STATUS (R66), READ_LINES (R41) and
QUERY_TEMPLATE (R127) answer with the values and records of the moment, and nothing else changes. The code of the level of SAFEIN,
1 for high and 0 for low, is the model's choice (log 43). -/
def Obligations.ReadingsAnswerWithTheMoment : Prop :=
  ∀ (s : State) (p : Port) (w : Work),
    (RequestWaits s p .readPosition w → w.body = [] →
      exec (.readPosition p) s = .next (s.answer p w .ok
        (be32 s.position.p ++ be16 s.position.epoch ++ [s.position.frame] ++ be32 s.position.hw
          ++ be16 (BitVec.ofInt 16 s.position.speed) ++ [byte s.position.motion.code] ++ be16 s.position.quadErrors
          ++ be32 s.now)))
    ∧ (RequestWaits s p .readPosition w → w.body ≠ [] →
      exec (.readPosition p) s = .next (s.answer p w .badField []))
    ∧ (∀ i n id, RequestWaits s p .getParam w → w.body = [i, n] → ParamId.ofBytes i.toNat n.toNat = some id →
      exec (.getParam p) s = .next (s.answer p w .ok (be32 (BitVec.ofNat 32 (s.control.params.value id)))))
    ∧ (RequestWaits s p .getParam w → (∀ i n, w.body = [i, n] → ParamId.ofBytes i.toNat n.toNat = none) →
      exec (.getParam p) s = .next (s.answer p w .badField []))
    ∧ (RequestWaits s p .readHealth w → w.body ≠ [] →
      exec (.readHealth p) s = .next (s.answer p w .badField []))
    ∧ (RequestWaits s p .readHealth w → w.body = [] →
      ∃ later failed forced, exec (.readHealth p) s = .next (s.answer p w .ok
          ([byte s.control.mode.code, byte (causeCode s.control.firstCause), later, byte s.control.corruption]
            ++ be32 s.control.scrubRounds ++ be32 failed ++ be32 forced
            ++ be16 (BitVec.ofNat 16 s.table.live.length)
            ++ [byte (if s.pinSafeIn then 1 else 0), byte s.control.params.corruptLimit]
            ++ be16 (BitVec.ofNat 16 s.control.scrubPos)))
        ∧ (later.getLsbD 0 = s.control.later.safeIn ∧ later.getLsbD 1 = s.control.later.overrun
            ∧ later.getLsbD 2 = s.control.later.corruptLimit ∧ later.getLsbD 3 = s.control.later.recordCorrupt
            ∧ later.toNat < 16)
        ∧ ∀ l : LineNo, (failed.getLsbD l = true ↔ (s.line[l]).fault = .failed)
            ∧ (forced.getLsbD l = true ↔ (s.line[l]).force ≠ .none))
    ∧ (RequestWaits s p .queryEntry w →
      (w.body.length ≠ 2 → exec (.queryEntry p) s = .next (s.answer p w .badField []))
      ∧ (∀ h : Handle, w.body = handleBytes h → TableLaw s.table →
        (∀ e ∈ s.table.live, e.fields.handle = h → p = .A ∨ e.fields.owner = p →
          exec (.queryEntry p) s = .next (s.answer p w .ok (entryRecord e.fields)))
        ∧ ((∀ e ∈ s.table.live, e.fields.handle = h → p ≠ .A ∧ e.fields.owner ≠ p) →
          exec (.queryEntry p) s = .next (s.answer p w .noSuchEntry []))))
    ∧ (RequestWaits s p .readTableStatus w →
      (w.body ≠ [] → exec (.readTableStatus p) s = .next (s.answer p w .badField []))
      ∧ (w.body = [] → ∃ first : Nat, exec (.readTableStatus p) s = .next (s.answer p w .ok
            (be16 (BitVec.ofNat 16 s.table.live.length)
              ++ Port.all.flatMap (fun q => be16 (BitVec.ofNat 16 (s.table.liveCount.get q)))
              ++ be32 (BitVec.ofNat 32 first)
              ++ be16 (BitVec.ofNat 16 (s.table.live.filter fun e => e.fields.stage.isHeld).length)
              ++ [byte ((s.slots.get p).slot.toList.filter Option.isSome).length]))
          ∧ ((∀ e ∈ s.table.live, e.fields.stage ≠ .armed) → first = 0)
          ∧ (∀ e ∈ s.table.live, e.fields.stage = .armed → first ≤ (e.fields.due - s.table.pos).toNat)
          ∧ ((∃ e ∈ s.table.live, e.fields.stage = .armed) →
              ∃ e ∈ s.table.live, e.fields.stage = .armed ∧ first = (e.fields.due - s.table.pos).toNat)))
    ∧ (RequestWaits s p .readLines w →
      ((∀ x, w.body = be32 x → (linesOf x).length = 0 ∨ 7 < (linesOf x).length) →
        exec (.readLines p) s = .next (s.answer p w .badField []))
      ∧ (∀ x, w.body = be32 x → 1 ≤ (linesOf x).length → (linesOf x).length ≤ 7 →
        exec (.readLines p) s = .next (s.answer p w .ok (byte (linesOf x).length ::
          (linesOf x).flatMap fun l => lineRecord l s.line[l] (s.driven l)))))
    ∧ (RequestWaits s p .queryTemplate w →
      ((∀ n : Byte, w.body = [n] → 32 ≤ n.toNat) → exec (.queryTemplate p) s = .next (s.answer p w .badField []))
      ∧ (∀ n : TemplateNo, w.body = [byte n.val] →
        (s.templates.place[n] = none → exec (.queryTemplate p) s = .next (s.answer p w .noSuchTemplate []))
        ∧ (∀ m, s.templates.place[n] = some m →
          exec (.queryTemplate p) s = .next (s.answer p w .ok (templateRecord n m.fields)))))

/-! ## Integrity and parameters -/

/-- The scrubber visits one record every 32 µs: a record that agrees with its code stays, and one that does not is removed,
deleted or cleared with a finding handed on (R43, R71, R139, R152); the round goes on. -/
def Obligations.ScrubberVisitsTheNextRecord : Prop :=
  ∀ s : State, s.inReset = none → s.control.scrubPos < 320 →
    let pos := s.control.scrubPos
    let moved : ModeController := { s.control with
      visitStart := s.now
      scrubPos := if pos = 319 then 0 else pos + 1
      scrubRounds := if pos = 319 then s.control.scrubRounds + 1 else s.control.scrubRounds }
    let found := fun f : Finding => { s.wires with findings := s.wires.findings ++ [f] }
    ((s.now - s.control.visitStart).toNat < 32 → exec .scrubVisit s = .next s)
    ∧ (32 ≤ (s.now - s.control.visitStart).toNat →
      ((∀ e ∈ s.table.live, e.index.val = pos → e.codeOk = true) →
        (∀ n : TemplateNo, ∀ m, n.val + 256 = pos → s.templates.place[n] = some m → m.codeOk = true) →
        (∀ l : LineNo, l.val + 288 = pos → (s.line[l]).codeOk = true) →
        exec .scrubVisit s = .next { s with control := moved })
      ∧ (∀ e ∈ s.table.live, e.index.val = pos → e.codeOk = false → TableLaw s.table →
        ∃ t, exec .scrubVisit s = .next { t with control := moved, wires := found (.entry e.index) }
          ∧ EntriesRemoved s t fun x => x.index == e.index)
      ∧ (∀ (n : TemplateNo) m, n.val + 256 = pos → s.templates.place[n] = some m → m.codeOk = false →
        exec .scrubVisit s = .next { s with
          control := moved, wires := found (.template n)
          templates := { s.templates with place := s.templates.place.set n none } })
      ∧ (∀ l : LineNo, l.val + 288 = pos → (s.line[l]).codeOk = false →
        ∃ t, exec .scrubVisit s = .next t ∧ t = { s with
            control := moved, wires := found (.line l)
            line := s.line.set l { s.line[l] with
              leaseMode := .free, shares := [], fault := .ok, settle := settleAfter s t l (s.line[l]).settle
              code := { leaseMode := .free, holders := [], force := (s.line[l]).force, fault := .ok } }
            slots := (s.cutAll Port.all (singleLine l)).slots, table := (s.cutAll Port.all (singleLine l)).table
            templates := (s.cutAll Port.all (singleLine l)).templates }))

/-- The oldest finding of a kind at the Mode Controller: ENTRY_CORRUPT for an entry or a template, the corruption count,
RECORD_CORRUPT for a line record, then CORRUPT_LIMIT where the count has reached it (R154, R155). A boundary lets the count
decay by one (R30, R155). Findings of one kind are taken in the order they were made (log 18), and with no boundary on its way
CORRUPTION_DECAY does nothing (log 1): the model's. -/
def Obligations.FindingsAreCountedAndDecay : Prop :=
  ∀ (s : State) (pre post : List Finding), s.inReset = none →
    let n := min (s.control.corruption + 1) 15
    let limit := if s.control.params.corruptLimit ≤ n then [(SafeCause.corruptLimit, none)] else []
    let r : State := { s with wires := { s.wires with findings := pre ++ post } }
    (∀ i, s.wires.findings = pre ++ .entry i :: post → (∀ j, .entry j ∉ pre) →
      ∃ t, exec (.corruptionFinding .entry) s = .next t ∧ FindingTaken r t
        (some { Notice.bare .entryCorrupt with reason := some 0, handle := some { index := i, generation := 0 } }) limit)
    ∧ (∀ m, s.wires.findings = pre ++ .template m :: post → (∀ j, .template j ∉ pre) →
      ∃ t, exec (.corruptionFinding .template) s = .next t ∧ FindingTaken r t
        (some { Notice.bare .entryCorrupt with reason := some 1, template := some m }) limit)
    ∧ (∀ l, s.wires.findings = pre ++ .line l :: post → (∀ j, .line j ∉ pre) →
      ∃ t, exec (.corruptionFinding .line) s = .next t
        ∧ FindingTaken r t none ((SafeCause.recordCorrupt, some l) :: limit))
    ∧ (s.wires.boundaries = 0 → exec .corruptionDecay s = .next s)
    ∧ (1 ≤ s.wires.boundaries → exec .corruptionDecay s = .next { s with
        control := { s.control with corruption := s.control.corruption - 1 }
        wires := { s.wires with boundaries := s.wires.boundaries - 1 } })

/-- SET_PARAM (R149, R150): the body, then the mode, then the value; an accepted write changes that parameter alone, is
handed to the block that takes it as an event, and the reply carries the value now held. That the copy in force at the block
stays until the write is taken there, and that the parameters without such an event are handed to no block (log 4), and when the
Timetable takes its limits (log 41), is the model's reading. -/
def Obligations.ParametersAreWrittenAndHandedOn : Prop :=
  ∀ (s : State) (w : Work), RequestWaits s .A .setParam w →
    let c := s.control
    let refused := fun st : Status => exec .setParam s = .next (s.answer .A w st [])
    ((∀ (i n : Byte) (v : Word32), w.body = i :: n :: be32 v → ParamId.ofBytes i.toNat n.toNat = none) → refused .badField)
    ∧ ∀ (i n : Byte) (v : Word32) (id : ParamId), w.body = i :: n :: be32 v → ParamId.ofBytes i.toNat n.toNat = some id →
      let open_ := c.mode = .config
        ∨ (c.mode = .run ∧ (id = .commitLead ∨ id = .faultThreshold ∨ id = .historyPeriod))
      (¬open_ → refused .wrongMode)
      ∧ (open_ → ¬valueAccepted c id v.toNat → refused .badField)
      ∧ (open_ → valueAccepted c id v.toNat → ∃ (t : State) (q : Params), exec .setParam s = .next (t.answer .A w .ok (be32 v))
        ∧ q.value id = v.toNat ∧ (∀ other, other ≠ id → q.value other = c.params.value other)
        ∧ t = { s with
            control := { c with params := q }, table := { s.table with limits := t.table.limits }
            wires := { s.wires with
              toPosition := t.wires.toPosition, toLines := t.wires.toLines, toLog := t.wires.toLog
              toSlots := t.wires.toSlots, toTimetable := t.wires.toTimetable } }
        ∧ (match id with
            | .guard _ | .policy _ | .quota _ | .portPriority _ =>
              LimitsTaken s t (s.wires.toTimetable ++ [.write (.tableLimits q.limits)])
            | _ => t.table.limits = s.table.limits ∧ t.wires.toTimetable = s.wires.toTimetable)
        ∧ t.wires.toPosition = s.wires.toPosition ++ (match id with
            | .motionSource => [.write (.motionSource q.motionSource)]
            | .internalRate => [.write (.internalRate v.toNat)]
            | .stallTime => [.write (.stallTime v.toNat)]
            | .speedWindow => [.write (.speedWindow v.toNat)]
            | _ => [])
        ∧ t.wires.toLines = s.wires.toLines ++ (match id with
            | .historyPeriod => [.write (.historyPeriod q.historyPeriod)]
            | .rest l => [.write (.rest l v.toNat)]
            | .readback l => [.write (.readback l (v == 1))]
            | _ => [])
        ∧ t.wires.toLog = s.wires.toLog ++ (match id with
            | .sensorFilter k => [.write (.sensorFilter k v.toNat)]
            | _ => [])
        ∧ ∀ p, t.wires.toSlots.get p = s.wires.toSlots.get p ++ (match id with
            | .commitLead => [.write (.commitLead v.toNat)]
            | _ => []))

/-- Multi-byte fields, bodies and records stand as section 10.6 lays them out (R178). The bodies of POST, AMEND_ENTRY,
CANCEL_ENTRIES, DEFINE_TEMPLATE and VERDICT are read as a content exactly where their bytes are the layout of that content and
its fields keep the ranges of R74, R63, R123 and R134, so that any other body is refused. The records of the replies are spelled
out byte by byte, with the codes of R19, R156 and sections 9.1, 10.4 and 10.6 (R41, R65, R78, R127, R162). -/
def Obligations.BodiesAndRecordsAreLaidOut : Prop :=
  let flag := fun b : Bool => if b then 1 else 0
  let port := fun p : Port => match p with | .A => 0 | .B => 1 | .C => 2 | .D => 3
  let action := fun a : LineAction => match a with | .on => 0 | .off => 1 | .pulse _ => 2
  let width := fun a : LineAction => match a with | .on => be16 0 | .off => be16 0 | .pulse v => be16 v
  let widthLaw := fun a : LineAction => ∀ v, a = .pulse v → v ≠ 0
  let default := fun d : Default => match d with | .fire => 0 | .drop => 1
  let mode := fun m : Mode => match m with | .init => 0 | .config => 1 | .run => 2 | .safe => 3
  let sensor := fun (k : SensorNo) (e : Edge) => byte (k.val + match e with | .rising => 0 | .falling => 128)
  let verdict := fun v : VerdictMode => match v with
    | .none => [byte 0] ++ be32 0 ++ [byte 0]
    | .required dist d => [byte 1] ++ be32 dist ++ [byte (default d)]
  let lineName := fun o : Option LineNo => o.elim 0 fun l => l.val
  let templateName := fun o : Option TemplateNo => o.elim 0 fun n => n.val
  (∀ n, byte n = BitVec.ofNat 8 n)
  ∧ (∀ w : Word16, be16 w = [byte (w.toNat / 0x100), byte w.toNat])
  ∧ (∀ w : Word32, be32 w = [byte (w.toNat / 0x1000000), byte (w.toNat / 0x10000), byte (w.toNat / 0x100), byte w.toNat])
  ∧ (∀ h : Handle, handleBytes h = [byte h.index.val, h.generation])
  ∧ (∀ b c, parsePost b = some c ↔
      b = [byte (flag c.report + 2 * flag c.noMerge + 4 * flag c.commitNow + 8 * flag c.tag.isSome), byte (action c.action)]
          ++ be32 c.lines ++ width c.action ++ be32 c.due ++ be16 (c.tag.getD 0)
      ∧ c.lines ≠ 0 ∧ widthLaw c.action)
  ∧ (∀ b c, parseAmend b = some c ↔
      b = handleBytes c.handle ++ be32 c.due ++ c.width.elim [] be16 ∧ c.width ≠ some 0)
  ∧ (∀ b c, parseCancel b = some c ↔ b = (match c with
      | .handle h => byte 0 :: handleBytes h
      | .tag v => byte 1 :: be16 v
      | .capture q => byte 2 :: be32 q
      | .all => [byte 3]))
  ∧ (∀ b c, parseTemplate b = some c ↔
      b = [byte c.num.val, sensor c.sensor c.edge] ++ be32 c.lines ++ [byte (action c.action)] ++ width c.action
          ++ be32 c.offset ++ verdict c.verdict ++ [byte (flag c.report)]
      ∧ c.lines ≠ 0 ∧ widthLaw c.action ∧ 1 ≤ c.offset.toNat ∧ c.offset.toNat ≤ 1048576
      ∧ ∀ dist d, c.verdict = .required dist d → 1 ≤ dist.toNat ∧ dist.toNat < c.offset.toNat)
  ∧ (∀ b c, parseVerdict b = some c ↔
      b = be32 c.seq ++ [byte (c.template.elim 0xFF fun n => n.val), byte (if c.keep then 0 else 1)])
  ∧ (∀ o : CommitOutcome, outcomeBytes o =
      [byte (match o.reason with | .request => 0 | .now => 1 | .full => 2 | .lead => 3), byte o.slot.val,
        byte (flag o.tag.isSome)] ++ be16 (o.tag.getD 0)
      ++ (match o.result with | .ok h => byte 0 :: handleBytes h | .error st => [byte st.code, 0, 0]))
  ∧ (∀ f : EntryFields, entryRecord f =
      handleBytes f.handle
      ++ [byte (port f.owner),
          byte (flag f.report + (match f.origin with | .posted none => 0 | .posted (some _) => 2 | .template _ _ => 4)
            + (match f.stage with | .armed => 0 | .held _ _ => 8)),
          byte (action f.action), byte (match f.origin with | .posted _ => 0 | .template n _ => n.val)]
      ++ be32 f.lines ++ width f.action ++ be32 f.due
      ++ be16 (match f.origin with | .posted (some v) => v | .posted none => 0 | .template _ _ => 0)
      ++ be32 (match f.origin with | .posted _ => 0 | .template _ q => q)
      ++ (match f.stage with
          | .armed => be32 0 ++ [byte 0]
          | .held d x => be32 d ++ [byte (default x)])
      ++ be32 f.commitNo)
  ∧ (∀ c : Capture, captureRecord c =
      be32 c.seq ++ [sensor c.sensor c.edge] ++ be32 c.reading.pos ++ be16 c.reading.epoch ++ [c.reading.frame]
      ++ be32 c.time)
  ∧ (∀ (l : LineNo) (r : LineRec) (driven : Bool), lineRecord l r driven =
      [byte l.val, byte ((match r.leaseMode with | .free => 0 | .exclusive => 1 | .shared => 2) + 16 * r.shares.length)]
      ++ (List.range 4).map (fun i => match r.shares[i]? with
          | none => 0
          | some h => byte (port h.port + 4 * flag h.lapse + 8 * h.age))
      ++ [byte ((match r.force with | .none => 0 | .forcedOn => 1 | .forcedOff => 2)
            + (match r.fault with | .ok => 0 | .failed => 4)
            + 8 * (match r.engine with | .off _ => 0 | .onLatched => 1 | .onPulse _ _ => 2 | .resting _ _ _ => 3)
            + 32 * flag driven),
          byte r.mismatch, r.history]
      ++ be32 r.fireCount)
  ∧ (∀ (n : TemplateNo) (f : TemplateFields), templateRecord n f =
      [byte n.val, byte (port f.owner), sensor f.sensor f.edge] ++ be32 f.lines ++ [byte (action f.action)]
      ++ width f.action ++ be32 f.offset ++ verdict f.verdict
      ++ [byte (flag f.report + 2 * flag (!f.active))] ++ be16 f.failures)
  ∧ (∀ c : CutCounts, c.bytes = [byte c.slotsNamed, byte c.slotsEmptied] ++ be16 (BitVec.ofNat 16 c.entriesNamed)
      ++ be16 (BitVec.ofNat 16 c.entriesRemoved) ++ [byte c.templatesNamed, byte c.templatesDeleted])
  ∧ detailBytes none = List.replicate 18 0
  ∧ (∀ n : Notice, detailBytes (some n) =
      [byte n.kind.code,
        byte (flag n.handle.isSome + 2 * flag n.tag.isSome + 4 * flag n.line.isSome + 8 * flag n.seq.isSome
          + 16 * flag n.template.isSome + 32 * flag n.count.isSome + 64 * flag n.status.isSome + 128 * flag n.reason.isSome)]
      ++ n.handle.elim [0, 0] handleBytes ++ be16 (n.tag.getD 0) ++ [byte (lineName n.line)] ++ be32 (n.seq.getD 0)
      ++ [byte (templateName n.template), byte (n.status.elim 0 Status.code), byte (n.reason.getD 0)]
      ++ be16 (BitVec.ofNat 16 (n.count.getD 0))
      ++ n.modes.elim [0, 0] fun m => [byte (mode m.1), byte (mode m.2)])
  ∧ (∀ m : Mode, m.code = mode m)
  ∧ [MotionState.stalled, .forward, .reverse, .overrun].map MotionState.code = List.range 4
  ∧ [none, some .safeIn, some .overrun, some .corruptLimit, some .recordCorrupt].map causeCode = List.range 5
  ∧ [Status.ok, .frameError, .unknownRequest, .notPermitted, .wrongMode, .badField, .notLeased, .heldByOther, .lineFailed,
      .tooLate, .outOfRange, .tableFull, .quotaExceeded, .conflict, .noSuchEntry, .notArmed, .late, .notHeld,
      .noSuchTemplate, .safeHold].map Status.code = List.range 20
  ∧ [NoticeKind.modeChanged, .entryAbandoned, .entryCorrupt, .lineFailed, .motion, .leaseRevoked, .leaseLapsed, .displaced,
      .captureLost, .instanceFailed, .commitFailed, .fireSuppressed, .defaultApplied, .commitDone, .fired].map
        (fun k => (k.code, k.priority))
      = [(1, 7), (2, 6), (3, 6), (4, 5), (5, 5), (6, 4), (7, 4), (8, 4), (9, 3), (10, 3), (11, 3), (12, 2), (13, 2), (14, 1),
        (15, 1)]
  ∧ [ReqKind.readPosition, .presetPosition, .leaseLines, .releaseLines, .revokeLines, .forceLines, .unforceLines, .readLines,
      .clearLineFault, .post, .commit, .discardStaged, .cancelEntries, .amendEntry, .queryEntry, .readTableStatus, .subscribe,
      .readCaptures, .defineTemplate, .deleteTemplate, .setTemplateState, .verdict, .queryTemplate, .setParam, .getParam,
      .start, .stop, .resume, .readHealth, .resetDevice, .readNotices, .setNoticeMask, .portStatus, .resetPort].map ReqKind.code
      = [0x01, 0x02, 0x10, 0x11, 0x12, 0x13, 0x14, 0x15, 0x16, 0x20, 0x21, 0x22, 0x30, 0x31, 0x32, 0x33, 0x40, 0x41, 0x50,
        0x51, 0x52, 0x53, 0x54, 0x60, 0x61, 0x62, 0x63, 0x64, 0x65, 0x66, 0x70, 0x71, 0x7E, 0x7F]

/-! ## Notices -/

/-- A notice taken at a port: its kind counted up to 255, the detail replaced by one of equal or higher priority, the alert
line judged (R159 to R161). READ_NOTICES answers with the account and empties it (R162); SET_NOTICE_MASK replaces the mask
(R164). The order in which the notices of different blocks are taken is open (log 14). -/
def Obligations.NoticesAreCountedReadAndMasked : Prop :=
  ∀ (s : State) (p : Port),
    let x := s.notices.get p
    let judged := fun y : NoticeState => y.alert = true ↔
      s.control.mode ≠ .init ∧ ∃ k ∈ y.pendingSet, y.mask.getLsbD k.1.code = true
    (∀ pre n post, s.inReset = none → s.wires.notices.get p = pre ++ n :: post →
      (∀ e ∈ pre, e.source ≠ n.source) →
      (n.notice.kind = .entryAbandoned → ∀ e ∈ pre, e.notice.kind ≠ .modeChanged) → NoticeLaw s.control.mode x →
      ∃ t, exec (.noticeTaken p pre.length) s = .next t
        ∧ t = { s with
            notices := s.notices.set p { x with
              pendingSet := (t.notices.get p).pendingSet, detail := (t.notices.get p).detail
              alert := (t.notices.get p).alert }
            wires := { s.wires with notices := s.wires.notices.set p (pre ++ post) } }
        ∧ (∀ k m, (k, m) ∈ (t.notices.get p).pendingSet ↔ (k ≠ n.notice.kind ∧ (k, m) ∈ x.pendingSet)
            ∨ (k = n.notice.kind ∧ ((∃ j, (k, j) ∈ x.pendingSet ∧ m = min (j + 1) 255)
                ∨ ((∀ j, (k, j) ∉ x.pendingSet) ∧ m = 1))))
        ∧ (t.notices.get p).detail = (match x.detail with
            | none => some n.notice
            | some d => if d.kind.priority ≤ n.notice.kind.priority then some n.notice else some d)
        ∧ judged (t.notices.get p) ∧ NoticeLaw s.control.mode (t.notices.get p))
    ∧ (∀ w, RequestWaits s p .readNotices w →
      (w.body ≠ [] → exec (.readNotices p) s = .next (s.answer p w .badField []))
      ∧ (w.body = [] → exec (.readNotices p) s = .next (({ s with
          notices := s.notices.set p { x with pendingSet := [], detail := none, alert := false } } : State).answer p w .ok
            (byte x.pendingSet.length :: (x.pendingSet.flatMap fun k => [byte k.1.code, byte k.2]) ++ detailBytes x.detail))))
    ∧ (∀ w, RequestWaits s p .setNoticeMask w →
      ((∀ m : Word16, w.body = be16 m → m.getLsbD 0 = true) →
        exec (.setNoticeMask p) s = .next (s.answer p w .badField []))
      ∧ (∀ m : Word16, w.body = be16 m → m.getLsbD 0 = false → ∃ a, exec (.setNoticeMask p) s = .next (({ s with
          notices := s.notices.set p { x with mask := m, alert := a } } : State).answer p w .ok (be16 x.mask))
          ∧ judged { x with mask := m, alert := a }))

/-! ## Ports -/

/-- A fall of select opens a transaction in IDLE, is refused as busy in WORKING and refused in INIT until its release (R167,
R168); a release before the reply has gone out cuts it (R169, R173). That a fall while selected and a release while released do
nothing (log 1), and that a transaction opened in INIT is answered EEh until its release (log 24), are the model's. -/
def Obligations.SelectOpensAndCutsTransactions : Prop :=
  ∀ (s : State) (p : Port), s.inReset = none →
    let r := s.ports.get p
    let falls := fun x : PortRec => exec (.selectFall p) s = .next { s with ports := s.ports.set p x }
    let releases := fun x : PortRec => exec (.selectRelease p) s = .next { s with ports := s.ports.set p x }
    (r.selected = false →
      (s.control.mode = .init → falls { r with selected := true, refusing := true })
      ∧ (s.control.mode ≠ .init → r.state = .idle →
          falls { r with selected := true, state := .receiving, buffer := [] })
      ∧ (s.control.mode ≠ .init → r.state = .working → falls { r with
          selected := true, refusing := true, busy := if r.busy.toNat = 255 then r.busy else r.busy + 1 }))
    ∧ (r.selected = true → exec (.selectFall p) s = .next s)
    ∧ (r.selected = false → exec (.selectRelease p) s = .next s)
    ∧ (r.selected = true → (p = .A → s.control.softArmed = false) →
      (r.refusing = true → r.state = .working → r.work = none →
        releases { r with selected := false, refusing := false, buffer := [], state := .idle, cut := false })
      ∧ (r.refusing = true → r.work ≠ none ∨ r.state = .idle →
        releases { r with selected := false, refusing := false, buffer := [] })
      ∧ (r.refusing = false →
        (r.state = .idle → releases { r with selected := false, buffer := [] })
        ∧ (r.state = .receiving → releases { r with
            selected := false, buffer := [], state := .idle
            framing := if r.framing.toNat = 255 then r.framing else r.framing + 1 })
        ∧ (r.state = .working → releases { r with selected := false, buffer := [], cut := true, dropped := true })
        ∧ (r.state = .replyReady ∨ r.state = .replying → releases { r with
            selected := false, buffer := [], state := .idle, reply := none, dropped := true })))
    ∧ (r.refusing = true → r.nextByte = 0xEE#8)
    ∧ (r.refusing = false → r.state = .replyReady → r.nextByte = 0x7E#8)
    ∧ (r.refusing = false → r.state = .working ∨ r.state = .receiving ∨ r.state = .idle → r.nextByte = 0)

/-- The bytes of a request frame (R169, R170, R174): a short frame waits for more; a frame with a bad length byte, a bad CRC,
an unknown kind or a supervisor request from another port is answered at the port itself; every other is handed on. That
bytes come in chunks is the model's operand (log 24). -/
def Obligations.RequestFramesAreJudged : Prop :=
  ∀ (s : State) (p : Port) (bytes : List Byte), s.inReset = none →
    let r := s.ports.get p
    (¬(r.selected = true ∧ r.refusing = false ∧ r.state = .receiving) → exec (.requestFrame p bytes) s = .next s)
    ∧ (r.selected = true → r.refusing = false → r.state = .receiving → bytes ≠ [] → ∀ len rest,
      r.buffer ++ bytes = len :: rest →
      let frame := (len :: rest).take len.toNat
      let payload := frame.take (frame.length - 2)
      let reply := fun (kind seq : Byte) (st : Status) =>
        replyFrame kind seq st (decide ((s.notices.get p).pendingSet ≠ [])) r.dropped []
      let told := fun (x : PortRec) (kind seq : Byte) (st : Status) => exec (.requestFrame p bytes) s =
        .next { s with
          ports := s.ports.set p { x with state := .replyReady, reply := some { frame := reply kind seq st, sent := 0 } } }
      let x := { r with buffer := frame }
      (len.toNat < 5 ∨ 128 < len.toNat → told { r with
        buffer := [len], framing := if r.framing.toNat = 255 then r.framing else r.framing + 1 } 0 0 .frameError)
      ∧ (5 ≤ len.toNat → len.toNat ≤ 128 → rest.length + 1 < len.toNat →
          exec (.requestFrame p bytes) s = .next { s with ports := s.ports.set p x })
      ∧ (∀ kind seq body, 5 ≤ len.toNat → len.toNat ≤ 128 → payload = len :: kind :: seq :: body →
          frame.length = len.toNat →
        (be16 (crc16 payload) ≠ frame.drop (frame.length - 2) →
          told { x with crc := if r.crc.toNat = 255 then r.crc else r.crc + 1 } kind seq .frameError)
        ∧ (be16 (crc16 payload) = frame.drop (frame.length - 2) →
          ((∀ k : ReqKind, k.code ≠ kind.toNat) → told x kind seq .unknownRequest)
          ∧ (∀ k : ReqKind, k.code = kind.toNat →
            (k.supervisor = true → p ≠ .A → told x kind seq .notPermitted)
            ∧ (k.supervisor = false ∨ p = .A →
                let w : Work := { kind := k, seq := seq, body := body, since := s.now, phase := .waiting }
                exec (.requestFrame p bytes) s = .next { s with
                  ports := s.ports.set p { x with state := .working, work := some w } })))))

/-- A reply is made ready with the notices-pending and dropped-reply flags of that moment, or discarded after a cut (R165,
R171, R173, R174); the marker, then its bytes, go out, and its end clears a dropped-reply flag it carried (R172).
PORT_STATUS answers with the three counts and clears them (R175). A reply waits for its own request's notices (log 15), a command
out of its place does nothing (log 1), and the count of bytes is the operand (log 24): the model's. -/
def Obligations.RepliesGoOut : Prop :=
  ∀ (s : State) (p : Port), s.inReset = none →
    let r := s.ports.get p
    let becomes := fun (c : Instr) (x : PortRec) => exec c s = .next { s with ports := s.ports.set p x }
    (∀ w st body, r.work = some w → w.phase = .done st body → (∀ n ∈ s.wires.notices.get p, n.own = false) →
      let frame := replyFrame (byte w.kind.code) w.seq st (decide ((s.notices.get p).pendingSet ≠ [])) r.dropped body
      (r.cut = false → becomes (.replyReady p)
        { r with state := .replyReady, work := none, reply := some { frame := frame, sent := 0 } })
      ∧ (r.cut = true → r.refusing = false → becomes (.replyReady p) { r with work := none, state := .idle, cut := false })
      ∧ (r.cut = true → r.refusing = true → becomes (.replyReady p) { r with work := none }))
    ∧ (r.work = none ∨ (∃ w, r.work = some w ∧ ∀ st body, w.phase ≠ .done st body) → exec (.replyReady p) s = .next s)
    ∧ ((∃ n ∈ s.wires.notices.get p, n.own = true) → exec (.replyReady p) s = .next s)
    ∧ (r.state = .replyReady → becomes (.replyMarkerSent p) { r with state := .replying })
    ∧ (r.state ≠ .replyReady → exec (.replyMarkerSent p) s = .next s)
    ∧ (∀ b n, r.state = .replying → r.reply = some b →
      (b.sent + n < b.frame.length → becomes (.replySent p n) { r with reply := some { b with sent := b.sent + n } })
      ∧ (b.frame.length ≤ b.sent + n → becomes (.replySent p n) { r with
          state := .idle, reply := none, dropped := if frameDropped b.frame then false else r.dropped })
      ∧ (r.refusing = false → b.sent < b.frame.length → some r.nextByte = b.frame[b.sent]?))
    ∧ (∀ n, r.state ≠ .replying → exec (.replySent p n) s = .next s)
    ∧ (∀ w, RequestWaits s p .portStatus w →
      (w.body ≠ [] → exec (.portStatus p) s = .next (s.answer p w .badField []))
      ∧ (w.body = [] → exec (.portStatus p) s = .next (({ s with
          ports := s.ports.set p { r with framing := 0, crc := 0, busy := 0 } } : State).answer p w .ok
            [byte p.code, byte (if p = .A then 1 else 0), r.framing, r.crc, r.busy])))

/-- RESET_PORT, part by part in the order of R176: templates, slots, entries, shares, captures, notices; nothing of the
other ports changes. Each command takes the next part, and the last waits for notices of the slots and templates on their
way: the model's reading (log 16). -/
def Obligations.ResetPortClearsThePortPartByPart : Prop :=
  ∀ (s : State) (p : Port) (w : Work) (c : PortResetCounts), s.inReset = none → w.kind = .resetPort →
    (s.ports.get p).work = some w →
    let becomes := fun (t : State) (ph : WorkPhase) => exec (.resetPort p) s =
      .next { t with ports := s.ports.set p { s.ports.get p with work := some { w with phase := ph } } }
    (w.phase = .waiting → w.body ≠ [] → exec (.resetPort p) s = .next (s.answer p w .badField []))
    ∧ (w.phase = .waiting → w.body = [] → ∃ t n, becomes t (.partly 1 { templates := n, slots := 0, entries := 0, lines := 0 })
        ∧ n = (s.templates.place.toList.filter fun o => o.any fun m => m.fields.owner == p).length
        ∧ t = { s with templates := { s.templates with place := t.templates.place } }
        ∧ ∀ n : TemplateNo, t.templates.place[n] = (s.templates.place[n]).filter fun m => m.fields.owner != p)
    ∧ (w.phase = .partly 1 c → becomes { s with
          slots := s.slots.set p { s.slots.get p with slot := Vector.replicate 4 none, age := [] } }
        (.partly 2 { c with slots := ((s.slots.get p).slot.toList.filter Option.isSome).length }))
    ∧ (w.phase = .partly 2 c → becomes { s with table := { s.table with
            live := s.table.live.filter fun e => e.fields.owner != p
            liveCount := s.table.liveCount.set p 0 } }
        (.partly 3 { c with entries := ownedBy s.table.live p }))
    ∧ (w.phase = .partly 3 c → ∃ t : State,
        becomes (t.cut p (s.linesHeld p)) (.partly 4 { c with lines := (allLines.filter fun l => (s.line[l]).heldBy p).length })
        ∧ t = { s with line := t.line }
        ∧ ∀ l : LineNo, t.line[l] = withoutShares (fun h => h.port == p) s.line[l])
    ∧ (w.phase = .partly 4 c → becomes { s with log := { s.log with
            subscription := s.log.subscription.set p 0, cursor := s.log.cursor.set p s.log.next
            lost := s.log.lost.set p 0
            records := held (s.log.records.map fun m => { m with outstanding := m.outstanding.set p false }) } }
        (.partly 5 c))
    ∧ (w.phase = .partly 5 c → (∀ n ∈ s.wires.notices.get p, n.source ≠ .slots ∧ n.source ≠ .templateTable) →
        let x := { s.notices.get p with pendingSet := [], detail := none, mask := 0x3FFE#16, alert := false }
        becomes { s with notices := s.notices.set p x }
          (.done .ok ([byte c.templates, byte c.slots] ++ be16 (BitVec.ofNat 16 c.entries) ++ [byte c.lines])))
    ∧ (w.phase = .partly 5 c → (∃ n ∈ s.wires.notices.get p, n.source = .slots ∨ n.source = .templateTable) →
        exec (.resetPort p) s = .next s)

/-! ## Laws that every step keeps -/

/-- Every step keeps the law of the Capture Log (R111). -/
def Obligations.StepsKeepTheLogLaw : Prop :=
  ∀ s t : State, s.logLaw → step s = .next t → t.logLaw

/-- Every step keeps the law of the Timetable (R45 to R47, R51). -/
def Obligations.StepsKeepTheTableLaw : Prop :=
  ∀ s t : State, s.tableLaw → step s = .next t → t.tableLaw

/-- Every step keeps the law of the slots (R72). -/
def Obligations.StepsKeepTheSlotsLaw : Prop :=
  ∀ s t : State, s.slotsLaw → step s = .next t → t.slotsLaw

/-- Every step keeps the law of the line records (R21). -/
def Obligations.StepsKeepTheLineLaw : Prop :=
  ∀ s t : State, s.lineLaw → step s = .next t → t.lineLaw

/-- Every step keeps the law of the notices (R159 to R161). -/
def Obligations.StepsKeepTheNoticeLaw : Prop :=
  ∀ s t : State, s.noticeLaw → step s = .next t → t.noticeLaw

/-- Every step keeps the law of the Mode Controller (R145 to R147, R155). -/
def Obligations.StepsKeepTheControlLaw : Prop :=
  ∀ s t : State, s.controlLaw → step s = .next t → t.controlLaw

/-- Every step keeps the law of the ports (R168 to R173). -/
def Obligations.StepsKeepThePortLaw : Prop :=
  ∀ s t : State, s.portLaw → step s = .next t → t.portLaw

/-- Every step keeps the law of the mode across the blocks: outside RUN the Timetable and the slots are empty and every
engine is OFF (R104, R141). That the Timetable takes no change into RUN ahead of the Line Block is the model's reading
(log 12). -/
def Obligations.StepsKeepTheModeLaw : Prop :=
  ∀ s t : State, ModeLaw s → step s = .next t → ModeLaw t

/-- Every step keeps the law of the Timetable's parameters: the limits in force follow the Mode Controller's, no port owns more
entries than its quota, two ports' entries keep the guard of the lines they share, and in RUN every rank is held (R51, R53,
R54, R149). When the Timetable takes a write of its limits is the model's reading (log 41). -/
def Obligations.StepsKeepTheLimitsLaw : Prop :=
  ∀ s t : State, s.limitsLaw → s.tableLaw → ModeLaw s → step s = .next t → t.limitsLaw
end

