-- ==== Sys2Proof/Laws/Collections.lean ====
section
/-! SUPPORT. Lemmas of the collections and small types: items by port, line sets, byte fields, messages of a block. -/

set_option autoImplicit false

namespace Sys2Proof.Machine

open Sys2Proof

/-! ## Items by port -/

@[simp] theorem PerPort.get_set_same {α : Type} (t : PerPort α) (p : Port) (x : α) : (t.set p x).get p = x := by
  cases p <;> rfl

theorem PerPort.get_set_other {α : Type} (t : PerPort α) (p q : Port) (x : α) (h : q ≠ p) :
    (t.set p x).get q = t.get q := by
  cases p <;> cases q <;> first | rfl | exact absurd rfl h

theorem PerPort.get_set {α : Type} (t : PerPort α) (p q : Port) (x : α) :
    (t.set p x).get q = if q = p then x else t.get q := by
  cases p <;> cases q <;> rfl

@[simp] theorem PerPort.set_get_self {α : Type} (t : PerPort α) (p : Port) : t.set p (t.get p) = t := by
  cases p <;> rfl

@[simp] theorem PerPort.set_set {α : Type} (t : PerPort α) (p : Port) (x y : α) : (t.set p x).set p y = t.set p y := by
  cases p <;> rfl

@[simp] theorem PerPort.get_const {α : Type} (x : α) (p : Port) : (PerPort.const x).get p = x := by cases p <;> rfl

@[simp] theorem PerPort.get_map {α β : Type} (f : α → β) (t : PerPort α) (p : Port) : (t.map f).get p = f (t.get p) := by
  cases p <;> rfl

theorem PerPort.ext_get {α : Type} (t u : PerPort α) (h : ∀ p, t.get p = u.get p) : t = u := by
  cases t; cases u
  have ha := h .A; have hb := h .B; have hc := h .C; have hd := h .D
  simp only [PerPort.get] at ha hb hc hd
  subst ha; subst hb; subst hc; subst hd; rfl

theorem Port.mem_all (p : Port) : p ∈ Port.all := by cases p <;> decide

theorem Port.all_nodup : Port.all.Nodup := by decide

theorem Port.ofCode_code (p : Port) : Port.ofCode p.code = some p := by cases p <;> rfl

/-! ## Line sets -/

theorem mem_allLines (l : LineNo) : l ∈ allLines := List.mem_finRange l

theorem mem_linesOf (x : LineSet) (l : LineNo) : l ∈ linesOf x ↔ hasLine x l = true := by
  simp [linesOf, mem_allLines]

theorem linesOf_nodup (x : LineSet) : (linesOf x).Nodup := (List.nodup_finRange 32).filter _

theorem hasLine_or (x y : LineSet) (l : LineNo) : hasLine (x ||| y) l = (hasLine x l || hasLine y l) := by
  simp [hasLine]

theorem hasLine_and (x y : LineSet) (l : LineNo) : hasLine (x &&& y) l = (hasLine x l && hasLine y l) := by
  simp [hasLine]

theorem hasLine_lineDiff (x y : LineSet) (l : LineNo) :
    hasLine (lineDiff x y) l = (hasLine x l && !hasLine y l) := by
  simp [hasLine, lineDiff, l.isLt]

theorem hasLine_singleLine (l m : LineNo) : hasLine (singleLine l) m = decide (l = m) := by
  revert l m; decide

@[simp] theorem hasLine_zero (l : LineNo) : hasLine 0#32 l = false := by simp [hasLine]

theorem hasLine_foldl_or (f : LineNo → Bool) (ls : List LineNo) (x : LineSet) (m : LineNo) :
    hasLine (ls.foldl (fun x l => if f l then x ||| singleLine l else x) x) m
      = (hasLine x m || (decide (m ∈ ls) && f m)) := by
  induction ls generalizing x with
  | nil => simp
  | cons l ls ih =>
    rw [List.foldl_cons, ih]
    by_cases hlm : l = m
    · subst hlm
      cases hf : f l <;> simp [hasLine_or, hasLine_singleLine]
    · have hml : ¬ m = l := fun h => hlm h.symm
      cases hf : f l <;> simp [hasLine_or, hasLine_singleLine, hlm, hml]

theorem hasLine_lineSetOf (f : LineNo → Bool) (l : LineNo) : hasLine (lineSetOf f) l = f l := by
  simp [lineSetOf, hasLine_foldl_or, mem_allLines]

theorem lineSet_ext (x y : LineSet) (h : ∀ l, hasLine x l = hasLine y l) : x = y :=
  BitVec.eq_of_getLsbD_eq fun i hi => h ⟨i, hi⟩

/-! ## Byte fields -/

@[simp] theorem be16_length (w : Word16) : (be16 w).length = 2 := rfl
@[simp] theorem be32_length (w : Word32) : (be32 w).length = 4 := rfl
@[simp] theorem be16Nat_length (n : Nat) : (be16Nat n).length = 2 := rfl
@[simp] theorem handleBytes_length (h : Handle) : (handleBytes h).length = 2 := rfl
@[simp] theorem entryRecord_length (f : EntryFields) : (entryRecord f).length = 31 := rfl
@[simp] theorem captureRecord_length (c : Capture) : (captureRecord c).length = 16 := rfl
@[simp] theorem CutCounts.bytes_length (c : CutCounts) : c.bytes.length = 8 := rfl

theorem replyFrame_length (kind seq : Byte) (st : Status) (a b : Bool) (body : List Byte) :
    (replyFrame kind seq st a b body).length = 7 + body.length := by
  simp [replyFrame]; omega

/-! ## Messages of a block -/

/-- A write is taken exactly where it is the oldest that `f` accepts, whatever mode changes wait before it. -/
theorem takeWrite_iff {α : Type} (f : ParamWrite → Option α) (v : α) (q r : List BlockMessage) :
    takeWrite f q = some (v, r) ↔ ∃ (pre : List BlockMessage) (w : ParamWrite) (post : List BlockMessage),
      q = pre ++ .write w :: post ∧ r = pre ++ post ∧ f w = some v ∧ ∀ x, .write x ∈ pre → f x = none := by
  constructor
  · induction q generalizing r with
    | nil => simp [takeWrite]
    | cons m q ih =>
      cases m with
      | change c =>
        intro h
        simp only [takeWrite, Option.map_eq_some_iff, Prod.mk.injEq] at h
        obtain ⟨⟨u, q'⟩, hq, rfl, rfl⟩ := h
        obtain ⟨pre, x, post, rfl, rfl, hx, hp⟩ := ih q' hq
        exact ⟨.change c :: pre, x, post, rfl, rfl, hx, fun y hy => hp y (by simpa using hy)⟩
      | write w =>
        cases hw : f w with
        | some u =>
          intro h
          simp only [takeWrite, hw, Option.some.injEq, Prod.mk.injEq] at h
          obtain ⟨rfl, rfl⟩ := h
          exact ⟨[], w, q, rfl, rfl, hw, by simp⟩
        | none =>
          intro h
          simp only [takeWrite, hw, Option.map_eq_some_iff, Prod.mk.injEq] at h
          obtain ⟨⟨u, q'⟩, hq, rfl, rfl⟩ := h
          obtain ⟨pre, x, post, rfl, rfl, hx, hp⟩ := ih q' hq
          refine ⟨.write w :: pre, x, post, rfl, rfl, hx, fun y hy => ?_⟩
          rcases List.mem_cons.mp hy with h | h
          · cases h; exact hw
          · exact hp y h
  · rintro ⟨pre, w, post, rfl, rfl, hw, hp⟩
    induction pre with
    | nil => simp [takeWrite, hw]
    | cons m pre ih =>
      have ih := ih fun y hy => hp y (List.mem_cons_of_mem _ hy)
      cases m with
      | change c => simp [takeWrite, ih]
      | write x => simp [takeWrite, hp x (List.mem_cons_self ..), ih]

/-- Nothing is taken exactly where no write that `f` accepts waits. -/
theorem takeWrite_none_iff {α : Type} (f : ParamWrite → Option α) (q : List BlockMessage) :
    takeWrite f q = none ↔ ∀ w, .write w ∈ q → f w = none := by
  induction q with
  | nil => simp [takeWrite]
  | cons m q ih =>
    cases m with
    | change c => simp [takeWrite, ih]
    | write x => cases hx : f x <;> simp [takeWrite, hx, ih]

theorem takeChange_head (test : ModeChange → Bool) (c : ModeChange) (post : List BlockMessage) (h : test c = true) :
    takeChange test (.change c :: post) = some (c, post) := by
  simp [takeChange, h]

/-- A change is taken only from the front. -/
theorem takeChange_some (test : ModeChange → Bool) (q post : List BlockMessage) (c : ModeChange)
    (h : takeChange test q = some (c, post)) : q = .change c :: post ∧ test c = true := by
  unfold takeChange at h
  split at h
  · split at h
    · rename_i ht; simp only [Option.some.injEq, Prod.mk.injEq] at h
      obtain ⟨rfl, rfl⟩ := h; exact ⟨rfl, ht⟩
    · exact absurd h (by simp)
  · exact absurd h (by simp)
  · exact absurd h (by simp)

/-! ## Counting and codes -/

/-- Unchanged fields agree with their code. -/
@[simp] theorem codeAgrees_self {α : Type} [DecidableEq α] (x : α) : codeAgrees x x = true := by simp [codeAgrees]

theorem satIncAt_le (top n : Nat) : satIncAt top n ≤ top := Nat.min_le_right ..

theorem ReqKind.ofCode_code (k : ReqKind) : ReqKind.ofCode k.code = some k := by cases k <;> decide

end Sys2Proof.Machine
end

