-- ==== Sys2Proof/Laws/State.lean ====
section
/-! SUPPORT. One lemma for each field of State and each accessor of Machine/Ops.lean: what the update leaves and what it
sets, all by rfl. Generated. -/

set_option autoImplicit false

namespace Sys2Proof.Machine

open Sys2Proof

/-! ### setLine -/

@[simp] theorem State.setLine_pending (s : State) (l : LineNo) (r : LineRec) :
    (s.setLine l r).pending = s.pending := rfl
@[simp] theorem State.setLine_inReset (s : State) (l : LineNo) (r : LineRec) :
    (s.setLine l r).inReset = s.inReset := rfl
@[simp] theorem State.setLine_pinA (s : State) (l : LineNo) (r : LineRec) : (s.setLine l r).pinA = s.pinA := rfl
@[simp] theorem State.setLine_pinB (s : State) (l : LineNo) (r : LineRec) : (s.setLine l r).pinB = s.pinB := rfl
@[simp] theorem State.setLine_pinReadback (s : State) (l : LineNo) (r : LineRec) :
    (s.setLine l r).pinReadback = s.pinReadback := rfl
@[simp] theorem State.setLine_pinSafeIn (s : State) (l : LineNo) (r : LineRec) :
    (s.setLine l r).pinSafeIn = s.pinSafeIn := rfl
@[simp] theorem State.setLine_now (s : State) (l : LineNo) (r : LineRec) : (s.setLine l r).now = s.now := rfl
@[simp] theorem State.setLine_position (s : State) (l : LineNo) (r : LineRec) :
    (s.setLine l r).position = s.position := rfl
@[simp] theorem State.setLine_lineBlock (s : State) (l : LineNo) (r : LineRec) :
    (s.setLine l r).lineBlock = s.lineBlock := rfl
@[simp] theorem State.setLine_line (s : State) (l : LineNo) (r : LineRec) :
    (s.setLine l r).line = s.line.set l r := rfl
@[simp] theorem State.setLine_table (s : State) (l : LineNo) (r : LineRec) : (s.setLine l r).table = s.table := rfl
@[simp] theorem State.setLine_slots (s : State) (l : LineNo) (r : LineRec) : (s.setLine l r).slots = s.slots := rfl
@[simp] theorem State.setLine_sensor (s : State) (l : LineNo) (r : LineRec) : (s.setLine l r).sensor = s.sensor := rfl
@[simp] theorem State.setLine_log (s : State) (l : LineNo) (r : LineRec) : (s.setLine l r).log = s.log := rfl
@[simp] theorem State.setLine_templates (s : State) (l : LineNo) (r : LineRec) :
    (s.setLine l r).templates = s.templates := rfl
@[simp] theorem State.setLine_control (s : State) (l : LineNo) (r : LineRec) :
    (s.setLine l r).control = s.control := rfl
@[simp] theorem State.setLine_notices (s : State) (l : LineNo) (r : LineRec) :
    (s.setLine l r).notices = s.notices := rfl
@[simp] theorem State.setLine_ports (s : State) (l : LineNo) (r : LineRec) : (s.setLine l r).ports = s.ports := rfl
@[simp] theorem State.setLine_wires (s : State) (l : LineNo) (r : LineRec) : (s.setLine l r).wires = s.wires := rfl
@[simp] theorem State.setLine_freeCount (s : State) (l : LineNo) (r : LineRec) :
    (s.setLine l r).freeCount = s.freeCount := rfl

/-! ### setSlots -/

@[simp] theorem State.setSlots_pending (s : State) (p : Port) (x : Slots) :
    (s.setSlots p x).pending = s.pending := rfl
@[simp] theorem State.setSlots_inReset (s : State) (p : Port) (x : Slots) :
    (s.setSlots p x).inReset = s.inReset := rfl
@[simp] theorem State.setSlots_pinA (s : State) (p : Port) (x : Slots) : (s.setSlots p x).pinA = s.pinA := rfl
@[simp] theorem State.setSlots_pinB (s : State) (p : Port) (x : Slots) : (s.setSlots p x).pinB = s.pinB := rfl
@[simp] theorem State.setSlots_pinReadback (s : State) (p : Port) (x : Slots) :
    (s.setSlots p x).pinReadback = s.pinReadback := rfl
@[simp] theorem State.setSlots_pinSafeIn (s : State) (p : Port) (x : Slots) :
    (s.setSlots p x).pinSafeIn = s.pinSafeIn := rfl
@[simp] theorem State.setSlots_now (s : State) (p : Port) (x : Slots) : (s.setSlots p x).now = s.now := rfl
@[simp] theorem State.setSlots_position (s : State) (p : Port) (x : Slots) :
    (s.setSlots p x).position = s.position := rfl
@[simp] theorem State.setSlots_lineBlock (s : State) (p : Port) (x : Slots) :
    (s.setSlots p x).lineBlock = s.lineBlock := rfl
@[simp] theorem State.setSlots_line (s : State) (p : Port) (x : Slots) : (s.setSlots p x).line = s.line := rfl
@[simp] theorem State.setSlots_table (s : State) (p : Port) (x : Slots) : (s.setSlots p x).table = s.table := rfl
@[simp] theorem State.setSlots_slots (s : State) (p : Port) (x : Slots) :
    (s.setSlots p x).slots = s.slots.set p x := rfl
@[simp] theorem State.setSlots_sensor (s : State) (p : Port) (x : Slots) : (s.setSlots p x).sensor = s.sensor := rfl
@[simp] theorem State.setSlots_log (s : State) (p : Port) (x : Slots) : (s.setSlots p x).log = s.log := rfl
@[simp] theorem State.setSlots_templates (s : State) (p : Port) (x : Slots) :
    (s.setSlots p x).templates = s.templates := rfl
@[simp] theorem State.setSlots_control (s : State) (p : Port) (x : Slots) :
    (s.setSlots p x).control = s.control := rfl
@[simp] theorem State.setSlots_notices (s : State) (p : Port) (x : Slots) :
    (s.setSlots p x).notices = s.notices := rfl
@[simp] theorem State.setSlots_ports (s : State) (p : Port) (x : Slots) : (s.setSlots p x).ports = s.ports := rfl
@[simp] theorem State.setSlots_wires (s : State) (p : Port) (x : Slots) : (s.setSlots p x).wires = s.wires := rfl
@[simp] theorem State.setSlots_freeCount (s : State) (p : Port) (x : Slots) :
    (s.setSlots p x).freeCount = s.freeCount := rfl

/-! ### setSensor -/

@[simp] theorem State.setSensor_pending (s : State) (k : SensorNo) (x : Sensor) :
    (s.setSensor k x).pending = s.pending := rfl
@[simp] theorem State.setSensor_inReset (s : State) (k : SensorNo) (x : Sensor) :
    (s.setSensor k x).inReset = s.inReset := rfl
@[simp] theorem State.setSensor_pinA (s : State) (k : SensorNo) (x : Sensor) : (s.setSensor k x).pinA = s.pinA := rfl
@[simp] theorem State.setSensor_pinB (s : State) (k : SensorNo) (x : Sensor) : (s.setSensor k x).pinB = s.pinB := rfl
@[simp] theorem State.setSensor_pinReadback (s : State) (k : SensorNo) (x : Sensor) :
    (s.setSensor k x).pinReadback = s.pinReadback := rfl
@[simp] theorem State.setSensor_pinSafeIn (s : State) (k : SensorNo) (x : Sensor) :
    (s.setSensor k x).pinSafeIn = s.pinSafeIn := rfl
@[simp] theorem State.setSensor_now (s : State) (k : SensorNo) (x : Sensor) : (s.setSensor k x).now = s.now := rfl
@[simp] theorem State.setSensor_position (s : State) (k : SensorNo) (x : Sensor) :
    (s.setSensor k x).position = s.position := rfl
@[simp] theorem State.setSensor_lineBlock (s : State) (k : SensorNo) (x : Sensor) :
    (s.setSensor k x).lineBlock = s.lineBlock := rfl
@[simp] theorem State.setSensor_line (s : State) (k : SensorNo) (x : Sensor) : (s.setSensor k x).line = s.line := rfl
@[simp] theorem State.setSensor_table (s : State) (k : SensorNo) (x : Sensor) :
    (s.setSensor k x).table = s.table := rfl
@[simp] theorem State.setSensor_slots (s : State) (k : SensorNo) (x : Sensor) :
    (s.setSensor k x).slots = s.slots := rfl
@[simp] theorem State.setSensor_sensor (s : State) (k : SensorNo) (x : Sensor) :
    (s.setSensor k x).sensor = s.sensor.set k x := rfl
@[simp] theorem State.setSensor_log (s : State) (k : SensorNo) (x : Sensor) : (s.setSensor k x).log = s.log := rfl
@[simp] theorem State.setSensor_templates (s : State) (k : SensorNo) (x : Sensor) :
    (s.setSensor k x).templates = s.templates := rfl
@[simp] theorem State.setSensor_control (s : State) (k : SensorNo) (x : Sensor) :
    (s.setSensor k x).control = s.control := rfl
@[simp] theorem State.setSensor_notices (s : State) (k : SensorNo) (x : Sensor) :
    (s.setSensor k x).notices = s.notices := rfl
@[simp] theorem State.setSensor_ports (s : State) (k : SensorNo) (x : Sensor) :
    (s.setSensor k x).ports = s.ports := rfl
@[simp] theorem State.setSensor_wires (s : State) (k : SensorNo) (x : Sensor) :
    (s.setSensor k x).wires = s.wires := rfl
@[simp] theorem State.setSensor_freeCount (s : State) (k : SensorNo) (x : Sensor) :
    (s.setSensor k x).freeCount = s.freeCount := rfl

/-! ### setPlace -/

@[simp] theorem State.setPlace_pending (s : State) (n : TemplateNo) (x : Option Template) :
    (s.setPlace n x).pending = s.pending := rfl
@[simp] theorem State.setPlace_inReset (s : State) (n : TemplateNo) (x : Option Template) :
    (s.setPlace n x).inReset = s.inReset := rfl
@[simp] theorem State.setPlace_pinA (s : State) (n : TemplateNo) (x : Option Template) :
    (s.setPlace n x).pinA = s.pinA := rfl
@[simp] theorem State.setPlace_pinB (s : State) (n : TemplateNo) (x : Option Template) :
    (s.setPlace n x).pinB = s.pinB := rfl
@[simp] theorem State.setPlace_pinReadback (s : State) (n : TemplateNo) (x : Option Template) :
    (s.setPlace n x).pinReadback = s.pinReadback := rfl
@[simp] theorem State.setPlace_pinSafeIn (s : State) (n : TemplateNo) (x : Option Template) :
    (s.setPlace n x).pinSafeIn = s.pinSafeIn := rfl
@[simp] theorem State.setPlace_now (s : State) (n : TemplateNo) (x : Option Template) :
    (s.setPlace n x).now = s.now := rfl
@[simp] theorem State.setPlace_position (s : State) (n : TemplateNo) (x : Option Template) :
    (s.setPlace n x).position = s.position := rfl
@[simp] theorem State.setPlace_lineBlock (s : State) (n : TemplateNo) (x : Option Template) :
    (s.setPlace n x).lineBlock = s.lineBlock := rfl
@[simp] theorem State.setPlace_line (s : State) (n : TemplateNo) (x : Option Template) :
    (s.setPlace n x).line = s.line := rfl
@[simp] theorem State.setPlace_table (s : State) (n : TemplateNo) (x : Option Template) :
    (s.setPlace n x).table = s.table := rfl
@[simp] theorem State.setPlace_slots (s : State) (n : TemplateNo) (x : Option Template) :
    (s.setPlace n x).slots = s.slots := rfl
@[simp] theorem State.setPlace_sensor (s : State) (n : TemplateNo) (x : Option Template) :
    (s.setPlace n x).sensor = s.sensor := rfl
@[simp] theorem State.setPlace_log (s : State) (n : TemplateNo) (x : Option Template) :
    (s.setPlace n x).log = s.log := rfl
@[simp] theorem State.setPlace_templates (s : State) (n : TemplateNo) (x : Option Template) :
    (s.setPlace n x).templates = { s.templates with place := s.templates.place.set n x } := rfl
@[simp] theorem State.setPlace_control (s : State) (n : TemplateNo) (x : Option Template) :
    (s.setPlace n x).control = s.control := rfl
@[simp] theorem State.setPlace_notices (s : State) (n : TemplateNo) (x : Option Template) :
    (s.setPlace n x).notices = s.notices := rfl
@[simp] theorem State.setPlace_ports (s : State) (n : TemplateNo) (x : Option Template) :
    (s.setPlace n x).ports = s.ports := rfl
@[simp] theorem State.setPlace_wires (s : State) (n : TemplateNo) (x : Option Template) :
    (s.setPlace n x).wires = s.wires := rfl
@[simp] theorem State.setPlace_freeCount (s : State) (n : TemplateNo) (x : Option Template) :
    (s.setPlace n x).freeCount = s.freeCount := rfl

/-! ### setPort -/

@[simp] theorem State.setPort_pending (s : State) (p : Port) (x : PortRec) :
    (s.setPort p x).pending = s.pending := rfl
@[simp] theorem State.setPort_inReset (s : State) (p : Port) (x : PortRec) :
    (s.setPort p x).inReset = s.inReset := rfl
@[simp] theorem State.setPort_pinA (s : State) (p : Port) (x : PortRec) : (s.setPort p x).pinA = s.pinA := rfl
@[simp] theorem State.setPort_pinB (s : State) (p : Port) (x : PortRec) : (s.setPort p x).pinB = s.pinB := rfl
@[simp] theorem State.setPort_pinReadback (s : State) (p : Port) (x : PortRec) :
    (s.setPort p x).pinReadback = s.pinReadback := rfl
@[simp] theorem State.setPort_pinSafeIn (s : State) (p : Port) (x : PortRec) :
    (s.setPort p x).pinSafeIn = s.pinSafeIn := rfl
@[simp] theorem State.setPort_now (s : State) (p : Port) (x : PortRec) : (s.setPort p x).now = s.now := rfl
@[simp] theorem State.setPort_position (s : State) (p : Port) (x : PortRec) :
    (s.setPort p x).position = s.position := rfl
@[simp] theorem State.setPort_lineBlock (s : State) (p : Port) (x : PortRec) :
    (s.setPort p x).lineBlock = s.lineBlock := rfl
@[simp] theorem State.setPort_line (s : State) (p : Port) (x : PortRec) : (s.setPort p x).line = s.line := rfl
@[simp] theorem State.setPort_table (s : State) (p : Port) (x : PortRec) : (s.setPort p x).table = s.table := rfl
@[simp] theorem State.setPort_slots (s : State) (p : Port) (x : PortRec) : (s.setPort p x).slots = s.slots := rfl
@[simp] theorem State.setPort_sensor (s : State) (p : Port) (x : PortRec) : (s.setPort p x).sensor = s.sensor := rfl
@[simp] theorem State.setPort_log (s : State) (p : Port) (x : PortRec) : (s.setPort p x).log = s.log := rfl
@[simp] theorem State.setPort_templates (s : State) (p : Port) (x : PortRec) :
    (s.setPort p x).templates = s.templates := rfl
@[simp] theorem State.setPort_control (s : State) (p : Port) (x : PortRec) :
    (s.setPort p x).control = s.control := rfl
@[simp] theorem State.setPort_notices (s : State) (p : Port) (x : PortRec) :
    (s.setPort p x).notices = s.notices := rfl
@[simp] theorem State.setPort_ports (s : State) (p : Port) (x : PortRec) :
    (s.setPort p x).ports = s.ports.set p x := rfl
@[simp] theorem State.setPort_wires (s : State) (p : Port) (x : PortRec) : (s.setPort p x).wires = s.wires := rfl
@[simp] theorem State.setPort_freeCount (s : State) (p : Port) (x : PortRec) :
    (s.setPort p x).freeCount = s.freeCount := rfl

/-! ### setNotices -/

@[simp] theorem State.setNotices_pending (s : State) (p : Port) (x : NoticeState) :
    (s.setNotices p x).pending = s.pending := rfl
@[simp] theorem State.setNotices_inReset (s : State) (p : Port) (x : NoticeState) :
    (s.setNotices p x).inReset = s.inReset := rfl
@[simp] theorem State.setNotices_pinA (s : State) (p : Port) (x : NoticeState) :
    (s.setNotices p x).pinA = s.pinA := rfl
@[simp] theorem State.setNotices_pinB (s : State) (p : Port) (x : NoticeState) :
    (s.setNotices p x).pinB = s.pinB := rfl
@[simp] theorem State.setNotices_pinReadback (s : State) (p : Port) (x : NoticeState) :
    (s.setNotices p x).pinReadback = s.pinReadback := rfl
@[simp] theorem State.setNotices_pinSafeIn (s : State) (p : Port) (x : NoticeState) :
    (s.setNotices p x).pinSafeIn = s.pinSafeIn := rfl
@[simp] theorem State.setNotices_now (s : State) (p : Port) (x : NoticeState) : (s.setNotices p x).now = s.now := rfl
@[simp] theorem State.setNotices_position (s : State) (p : Port) (x : NoticeState) :
    (s.setNotices p x).position = s.position := rfl
@[simp] theorem State.setNotices_lineBlock (s : State) (p : Port) (x : NoticeState) :
    (s.setNotices p x).lineBlock = s.lineBlock := rfl
@[simp] theorem State.setNotices_line (s : State) (p : Port) (x : NoticeState) :
    (s.setNotices p x).line = s.line := rfl
@[simp] theorem State.setNotices_table (s : State) (p : Port) (x : NoticeState) :
    (s.setNotices p x).table = s.table := rfl
@[simp] theorem State.setNotices_slots (s : State) (p : Port) (x : NoticeState) :
    (s.setNotices p x).slots = s.slots := rfl
@[simp] theorem State.setNotices_sensor (s : State) (p : Port) (x : NoticeState) :
    (s.setNotices p x).sensor = s.sensor := rfl
@[simp] theorem State.setNotices_log (s : State) (p : Port) (x : NoticeState) : (s.setNotices p x).log = s.log := rfl
@[simp] theorem State.setNotices_templates (s : State) (p : Port) (x : NoticeState) :
    (s.setNotices p x).templates = s.templates := rfl
@[simp] theorem State.setNotices_control (s : State) (p : Port) (x : NoticeState) :
    (s.setNotices p x).control = s.control := rfl
@[simp] theorem State.setNotices_notices (s : State) (p : Port) (x : NoticeState) :
    (s.setNotices p x).notices = s.notices.set p x := rfl
@[simp] theorem State.setNotices_ports (s : State) (p : Port) (x : NoticeState) :
    (s.setNotices p x).ports = s.ports := rfl
@[simp] theorem State.setNotices_wires (s : State) (p : Port) (x : NoticeState) :
    (s.setNotices p x).wires = s.wires := rfl
@[simp] theorem State.setNotices_freeCount (s : State) (p : Port) (x : NoticeState) :
    (s.setNotices p x).freeCount = s.freeCount := rfl

/-! ### setWires -/

@[simp] theorem State.setWires_pending (s : State) (w : Wires) : (s.setWires w).pending = s.pending := rfl
@[simp] theorem State.setWires_inReset (s : State) (w : Wires) : (s.setWires w).inReset = s.inReset := rfl
@[simp] theorem State.setWires_pinA (s : State) (w : Wires) : (s.setWires w).pinA = s.pinA := rfl
@[simp] theorem State.setWires_pinB (s : State) (w : Wires) : (s.setWires w).pinB = s.pinB := rfl
@[simp] theorem State.setWires_pinReadback (s : State) (w : Wires) : (s.setWires w).pinReadback = s.pinReadback := rfl
@[simp] theorem State.setWires_pinSafeIn (s : State) (w : Wires) : (s.setWires w).pinSafeIn = s.pinSafeIn := rfl
@[simp] theorem State.setWires_now (s : State) (w : Wires) : (s.setWires w).now = s.now := rfl
@[simp] theorem State.setWires_position (s : State) (w : Wires) : (s.setWires w).position = s.position := rfl
@[simp] theorem State.setWires_lineBlock (s : State) (w : Wires) : (s.setWires w).lineBlock = s.lineBlock := rfl
@[simp] theorem State.setWires_line (s : State) (w : Wires) : (s.setWires w).line = s.line := rfl
@[simp] theorem State.setWires_table (s : State) (w : Wires) : (s.setWires w).table = s.table := rfl
@[simp] theorem State.setWires_slots (s : State) (w : Wires) : (s.setWires w).slots = s.slots := rfl
@[simp] theorem State.setWires_sensor (s : State) (w : Wires) : (s.setWires w).sensor = s.sensor := rfl
@[simp] theorem State.setWires_log (s : State) (w : Wires) : (s.setWires w).log = s.log := rfl
@[simp] theorem State.setWires_templates (s : State) (w : Wires) : (s.setWires w).templates = s.templates := rfl
@[simp] theorem State.setWires_control (s : State) (w : Wires) : (s.setWires w).control = s.control := rfl
@[simp] theorem State.setWires_notices (s : State) (w : Wires) : (s.setWires w).notices = s.notices := rfl
@[simp] theorem State.setWires_ports (s : State) (w : Wires) : (s.setWires w).ports = s.ports := rfl
@[simp] theorem State.setWires_wires (s : State) (w : Wires) : (s.setWires w).wires = w := rfl
@[simp] theorem State.setWires_freeCount (s : State) (w : Wires) : (s.setWires w).freeCount = s.freeCount := rfl

/-! ### setTable -/

@[simp] theorem State.setTable_pending (s : State) (t : Timetable) : (s.setTable t).pending = s.pending := rfl
@[simp] theorem State.setTable_inReset (s : State) (t : Timetable) : (s.setTable t).inReset = s.inReset := rfl
@[simp] theorem State.setTable_pinA (s : State) (t : Timetable) : (s.setTable t).pinA = s.pinA := rfl
@[simp] theorem State.setTable_pinB (s : State) (t : Timetable) : (s.setTable t).pinB = s.pinB := rfl
@[simp] theorem State.setTable_pinReadback (s : State) (t : Timetable) :
    (s.setTable t).pinReadback = s.pinReadback := rfl
@[simp] theorem State.setTable_pinSafeIn (s : State) (t : Timetable) : (s.setTable t).pinSafeIn = s.pinSafeIn := rfl
@[simp] theorem State.setTable_now (s : State) (t : Timetable) : (s.setTable t).now = s.now := rfl
@[simp] theorem State.setTable_position (s : State) (t : Timetable) : (s.setTable t).position = s.position := rfl
@[simp] theorem State.setTable_lineBlock (s : State) (t : Timetable) : (s.setTable t).lineBlock = s.lineBlock := rfl
@[simp] theorem State.setTable_line (s : State) (t : Timetable) : (s.setTable t).line = s.line := rfl
@[simp] theorem State.setTable_table (s : State) (t : Timetable) : (s.setTable t).table = t := rfl
@[simp] theorem State.setTable_slots (s : State) (t : Timetable) : (s.setTable t).slots = s.slots := rfl
@[simp] theorem State.setTable_sensor (s : State) (t : Timetable) : (s.setTable t).sensor = s.sensor := rfl
@[simp] theorem State.setTable_log (s : State) (t : Timetable) : (s.setTable t).log = s.log := rfl
@[simp] theorem State.setTable_templates (s : State) (t : Timetable) : (s.setTable t).templates = s.templates := rfl
@[simp] theorem State.setTable_control (s : State) (t : Timetable) : (s.setTable t).control = s.control := rfl
@[simp] theorem State.setTable_notices (s : State) (t : Timetable) : (s.setTable t).notices = s.notices := rfl
@[simp] theorem State.setTable_ports (s : State) (t : Timetable) : (s.setTable t).ports = s.ports := rfl
@[simp] theorem State.setTable_wires (s : State) (t : Timetable) : (s.setTable t).wires = s.wires := rfl
@[simp] theorem State.setTable_freeCount (s : State) (t : Timetable) : (s.setTable t).freeCount = s.freeCount := rfl

/-! ### setPosition -/

@[simp] theorem State.setPosition_pending (s : State) (u : PositionUnit) :
    (s.setPosition u).pending = s.pending := rfl
@[simp] theorem State.setPosition_inReset (s : State) (u : PositionUnit) :
    (s.setPosition u).inReset = s.inReset := rfl
@[simp] theorem State.setPosition_pinA (s : State) (u : PositionUnit) : (s.setPosition u).pinA = s.pinA := rfl
@[simp] theorem State.setPosition_pinB (s : State) (u : PositionUnit) : (s.setPosition u).pinB = s.pinB := rfl
@[simp] theorem State.setPosition_pinReadback (s : State) (u : PositionUnit) :
    (s.setPosition u).pinReadback = s.pinReadback := rfl
@[simp] theorem State.setPosition_pinSafeIn (s : State) (u : PositionUnit) :
    (s.setPosition u).pinSafeIn = s.pinSafeIn := rfl
@[simp] theorem State.setPosition_now (s : State) (u : PositionUnit) : (s.setPosition u).now = s.now := rfl
@[simp] theorem State.setPosition_position (s : State) (u : PositionUnit) : (s.setPosition u).position = u := rfl
@[simp] theorem State.setPosition_lineBlock (s : State) (u : PositionUnit) :
    (s.setPosition u).lineBlock = s.lineBlock := rfl
@[simp] theorem State.setPosition_line (s : State) (u : PositionUnit) : (s.setPosition u).line = s.line := rfl
@[simp] theorem State.setPosition_table (s : State) (u : PositionUnit) : (s.setPosition u).table = s.table := rfl
@[simp] theorem State.setPosition_slots (s : State) (u : PositionUnit) : (s.setPosition u).slots = s.slots := rfl
@[simp] theorem State.setPosition_sensor (s : State) (u : PositionUnit) : (s.setPosition u).sensor = s.sensor := rfl
@[simp] theorem State.setPosition_log (s : State) (u : PositionUnit) : (s.setPosition u).log = s.log := rfl
@[simp] theorem State.setPosition_templates (s : State) (u : PositionUnit) :
    (s.setPosition u).templates = s.templates := rfl
@[simp] theorem State.setPosition_control (s : State) (u : PositionUnit) :
    (s.setPosition u).control = s.control := rfl
@[simp] theorem State.setPosition_notices (s : State) (u : PositionUnit) :
    (s.setPosition u).notices = s.notices := rfl
@[simp] theorem State.setPosition_ports (s : State) (u : PositionUnit) : (s.setPosition u).ports = s.ports := rfl
@[simp] theorem State.setPosition_wires (s : State) (u : PositionUnit) : (s.setPosition u).wires = s.wires := rfl
@[simp] theorem State.setPosition_freeCount (s : State) (u : PositionUnit) :
    (s.setPosition u).freeCount = s.freeCount := rfl

/-! ### setControl -/

@[simp] theorem State.setControl_pending (s : State) (c : ModeController) :
    (s.setControl c).pending = s.pending := rfl
@[simp] theorem State.setControl_inReset (s : State) (c : ModeController) :
    (s.setControl c).inReset = s.inReset := rfl
@[simp] theorem State.setControl_pinA (s : State) (c : ModeController) : (s.setControl c).pinA = s.pinA := rfl
@[simp] theorem State.setControl_pinB (s : State) (c : ModeController) : (s.setControl c).pinB = s.pinB := rfl
@[simp] theorem State.setControl_pinReadback (s : State) (c : ModeController) :
    (s.setControl c).pinReadback = s.pinReadback := rfl
@[simp] theorem State.setControl_pinSafeIn (s : State) (c : ModeController) :
    (s.setControl c).pinSafeIn = s.pinSafeIn := rfl
@[simp] theorem State.setControl_now (s : State) (c : ModeController) : (s.setControl c).now = s.now := rfl
@[simp] theorem State.setControl_position (s : State) (c : ModeController) :
    (s.setControl c).position = s.position := rfl
@[simp] theorem State.setControl_lineBlock (s : State) (c : ModeController) :
    (s.setControl c).lineBlock = s.lineBlock := rfl
@[simp] theorem State.setControl_line (s : State) (c : ModeController) : (s.setControl c).line = s.line := rfl
@[simp] theorem State.setControl_table (s : State) (c : ModeController) : (s.setControl c).table = s.table := rfl
@[simp] theorem State.setControl_slots (s : State) (c : ModeController) : (s.setControl c).slots = s.slots := rfl
@[simp] theorem State.setControl_sensor (s : State) (c : ModeController) : (s.setControl c).sensor = s.sensor := rfl
@[simp] theorem State.setControl_log (s : State) (c : ModeController) : (s.setControl c).log = s.log := rfl
@[simp] theorem State.setControl_templates (s : State) (c : ModeController) :
    (s.setControl c).templates = s.templates := rfl
@[simp] theorem State.setControl_control (s : State) (c : ModeController) : (s.setControl c).control = c := rfl
@[simp] theorem State.setControl_notices (s : State) (c : ModeController) :
    (s.setControl c).notices = s.notices := rfl
@[simp] theorem State.setControl_ports (s : State) (c : ModeController) : (s.setControl c).ports = s.ports := rfl
@[simp] theorem State.setControl_wires (s : State) (c : ModeController) : (s.setControl c).wires = s.wires := rfl
@[simp] theorem State.setControl_freeCount (s : State) (c : ModeController) :
    (s.setControl c).freeCount = s.freeCount := rfl

/-! ### setLog -/

@[simp] theorem State.setLog_pending (s : State) (g : CaptureLog) : (s.setLog g).pending = s.pending := rfl
@[simp] theorem State.setLog_inReset (s : State) (g : CaptureLog) : (s.setLog g).inReset = s.inReset := rfl
@[simp] theorem State.setLog_pinA (s : State) (g : CaptureLog) : (s.setLog g).pinA = s.pinA := rfl
@[simp] theorem State.setLog_pinB (s : State) (g : CaptureLog) : (s.setLog g).pinB = s.pinB := rfl
@[simp] theorem State.setLog_pinReadback (s : State) (g : CaptureLog) :
    (s.setLog g).pinReadback = s.pinReadback := rfl
@[simp] theorem State.setLog_pinSafeIn (s : State) (g : CaptureLog) : (s.setLog g).pinSafeIn = s.pinSafeIn := rfl
@[simp] theorem State.setLog_now (s : State) (g : CaptureLog) : (s.setLog g).now = s.now := rfl
@[simp] theorem State.setLog_position (s : State) (g : CaptureLog) : (s.setLog g).position = s.position := rfl
@[simp] theorem State.setLog_lineBlock (s : State) (g : CaptureLog) : (s.setLog g).lineBlock = s.lineBlock := rfl
@[simp] theorem State.setLog_line (s : State) (g : CaptureLog) : (s.setLog g).line = s.line := rfl
@[simp] theorem State.setLog_table (s : State) (g : CaptureLog) : (s.setLog g).table = s.table := rfl
@[simp] theorem State.setLog_slots (s : State) (g : CaptureLog) : (s.setLog g).slots = s.slots := rfl
@[simp] theorem State.setLog_sensor (s : State) (g : CaptureLog) : (s.setLog g).sensor = s.sensor := rfl
@[simp] theorem State.setLog_log (s : State) (g : CaptureLog) : (s.setLog g).log = g := rfl
@[simp] theorem State.setLog_templates (s : State) (g : CaptureLog) : (s.setLog g).templates = s.templates := rfl
@[simp] theorem State.setLog_control (s : State) (g : CaptureLog) : (s.setLog g).control = s.control := rfl
@[simp] theorem State.setLog_notices (s : State) (g : CaptureLog) : (s.setLog g).notices = s.notices := rfl
@[simp] theorem State.setLog_ports (s : State) (g : CaptureLog) : (s.setLog g).ports = s.ports := rfl
@[simp] theorem State.setLog_wires (s : State) (g : CaptureLog) : (s.setLog g).wires = s.wires := rfl
@[simp] theorem State.setLog_freeCount (s : State) (g : CaptureLog) : (s.setLog g).freeCount = s.freeCount := rfl

/-! ### setLineBlock -/

@[simp] theorem State.setLineBlock_pending (s : State) (b : LineBlock) : (s.setLineBlock b).pending = s.pending := rfl
@[simp] theorem State.setLineBlock_inReset (s : State) (b : LineBlock) : (s.setLineBlock b).inReset = s.inReset := rfl
@[simp] theorem State.setLineBlock_pinA (s : State) (b : LineBlock) : (s.setLineBlock b).pinA = s.pinA := rfl
@[simp] theorem State.setLineBlock_pinB (s : State) (b : LineBlock) : (s.setLineBlock b).pinB = s.pinB := rfl
@[simp] theorem State.setLineBlock_pinReadback (s : State) (b : LineBlock) :
    (s.setLineBlock b).pinReadback = s.pinReadback := rfl
@[simp] theorem State.setLineBlock_pinSafeIn (s : State) (b : LineBlock) :
    (s.setLineBlock b).pinSafeIn = s.pinSafeIn := rfl
@[simp] theorem State.setLineBlock_now (s : State) (b : LineBlock) : (s.setLineBlock b).now = s.now := rfl
@[simp] theorem State.setLineBlock_position (s : State) (b : LineBlock) :
    (s.setLineBlock b).position = s.position := rfl
@[simp] theorem State.setLineBlock_lineBlock (s : State) (b : LineBlock) : (s.setLineBlock b).lineBlock = b := rfl
@[simp] theorem State.setLineBlock_line (s : State) (b : LineBlock) : (s.setLineBlock b).line = s.line := rfl
@[simp] theorem State.setLineBlock_table (s : State) (b : LineBlock) : (s.setLineBlock b).table = s.table := rfl
@[simp] theorem State.setLineBlock_slots (s : State) (b : LineBlock) : (s.setLineBlock b).slots = s.slots := rfl
@[simp] theorem State.setLineBlock_sensor (s : State) (b : LineBlock) : (s.setLineBlock b).sensor = s.sensor := rfl
@[simp] theorem State.setLineBlock_log (s : State) (b : LineBlock) : (s.setLineBlock b).log = s.log := rfl
@[simp] theorem State.setLineBlock_templates (s : State) (b : LineBlock) :
    (s.setLineBlock b).templates = s.templates := rfl
@[simp] theorem State.setLineBlock_control (s : State) (b : LineBlock) : (s.setLineBlock b).control = s.control := rfl
@[simp] theorem State.setLineBlock_notices (s : State) (b : LineBlock) : (s.setLineBlock b).notices = s.notices := rfl
@[simp] theorem State.setLineBlock_ports (s : State) (b : LineBlock) : (s.setLineBlock b).ports = s.ports := rfl
@[simp] theorem State.setLineBlock_wires (s : State) (b : LineBlock) : (s.setLineBlock b).wires = s.wires := rfl
@[simp] theorem State.setLineBlock_freeCount (s : State) (b : LineBlock) :
    (s.setLineBlock b).freeCount = s.freeCount := rfl

end Sys2Proof.Machine
end

