-- ==== Sys2Proof/Laws/Frames.lean ====
section
/-! SUPPORT. One frame lemma for each shared operation: the result is the state before it but for the fields named. Any
other field of the result follows by congrArg. -/

set_option autoImplicit false

namespace Sys2Proof.Machine

open Sys2Proof

/-- A relation that each step of a fold keeps is kept by the fold. -/
theorem foldl_keeps {σ α : Type} (R : σ → σ → Prop) (f : σ → α → σ) (hr : ∀ s, R s s)
    (ht : ∀ s t u, R s t → R t u → R s u) (hf : ∀ s a, R s (f s a)) (l : List α) (s : σ) : R s (l.foldl f s) := by
  induction l generalizing s with
  | nil => exact hr s
  | cons a l ih => exact ht _ _ _ (hf s a) (ih _)

/-! ## The kinds of frame -/

/-- Only line records differ. -/
def OnlyLine (s t : State) : Prop := t = { s with line := t.line }

/-- Only what is on its way differs. -/
def OnlyWires (s t : State) : Prop := t = { s with wires := t.wires }

/-- Only the Timetable and what is on its way differ. -/
def OnlyTable (s t : State) : Prop := t = { s with table := t.table, wires := t.wires }

/-- Only the Mode Controller, the alert lines and what is on its way differ. -/
def OnlyControl (s t : State) : Prop := t = { s with control := t.control, notices := t.notices, wires := t.wires }

/-- Only line records, the records that name lines, and what is on its way differ. -/
def OnlyWork (s t : State) : Prop :=
  t = { s with line := t.line, slots := t.slots, table := t.table, templates := t.templates, wires := t.wires }

theorem OnlyLine.refl (s : State) : OnlyLine s s := rfl
theorem OnlyWires.refl (s : State) : OnlyWires s s := rfl
theorem OnlyTable.refl (s : State) : OnlyTable s s := rfl
theorem OnlyControl.refl (s : State) : OnlyControl s s := rfl
theorem OnlyWork.refl (s : State) : OnlyWork s s := rfl

theorem OnlyLine.trans (s t u : State) (h : OnlyLine s t) (k : OnlyLine t u) : OnlyLine s u := by
  unfold OnlyLine at *; rw [k, h]
theorem OnlyWires.trans (s t u : State) (h : OnlyWires s t) (k : OnlyWires t u) : OnlyWires s u := by
  unfold OnlyWires at *; rw [k, h]
theorem OnlyTable.trans (s t u : State) (h : OnlyTable s t) (k : OnlyTable t u) : OnlyTable s u := by
  unfold OnlyTable at *; rw [k, h]
theorem OnlyControl.trans (s t u : State) (h : OnlyControl s t) (k : OnlyControl t u) : OnlyControl s u := by
  unfold OnlyControl at *; rw [k, h]
theorem OnlyWork.trans (s t u : State) (h : OnlyWork s t) (k : OnlyWork t u) : OnlyWork s u := by
  unfold OnlyWork at *; rw [k, h]

theorem OnlyLine.work {s t : State} (h : OnlyLine s t) : OnlyWork s t := by
  unfold OnlyLine at h; unfold OnlyWork; rw [h]
theorem OnlyWires.table {s t : State} (h : OnlyWires s t) : OnlyTable s t := by
  unfold OnlyWires at h; unfold OnlyTable; rw [h]
theorem OnlyWires.control {s t : State} (h : OnlyWires s t) : OnlyControl s t := by
  unfold OnlyWires at h; unfold OnlyControl; rw [h]
theorem OnlyTable.work {s t : State} (h : OnlyTable s t) : OnlyWork s t := by
  unfold OnlyTable at h; unfold OnlyWork; rw [h]
theorem OnlyWires.work {s t : State} (h : OnlyWires s t) : OnlyWork s t := h.table.work

/-! ## Lines -/

theorem changeLine_frame (s : State) (l : LineNo) (f : LineRec → LineRec) : OnlyLine s (s.changeLine l f) := rfl

theorem changeLines_frame (s : State) (x : LineSet) (f : LineRec → LineRec) : OnlyLine s (s.changeLines x f) :=
  foldl_keeps OnlyLine _ OnlyLine.refl OnlyLine.trans (fun s l => changeLine_frame s l f) _ _

theorem changeEngine_frame (s : State) (l : LineNo) (f : Nat → Engine → Engine) : OnlyLine s (s.changeEngine l f) := rfl

theorem closeLines_frame (before s : State) : OnlyLine s (closeLines before s) := rfl

/-- The record of line `m` after a change of line `l`. -/
theorem changeLine_line (s : State) (l m : LineNo) (f : LineRec → LineRec) :
    (s.changeLine l f).line[m] = if l = m then LineRec.recode s.line[l] (f s.line[l]) else s.line[m] := by
  simp only [State.changeLine, State.setLine_line, Fin.getElem_fin, Vector.getElem_set]
  by_cases h : l = m
  · subst h; simp
  · have : ¬ l.val = m.val := fun e => h (Fin.ext e)
    simp [h, this]

theorem foldl_changeLine_line (f : LineRec → LineRec) (ls : List LineNo) (hn : ls.Nodup) (s : State) (m : LineNo) :
    (ls.foldl (fun s l => s.changeLine l f) s).line[m]
      = if m ∈ ls then LineRec.recode s.line[m] (f s.line[m]) else s.line[m] := by
  induction ls generalizing s with
  | nil => simp
  | cons l ls ih =>
    rw [List.foldl_cons, ih (List.nodup_cons.mp hn).2, changeLine_line]
    by_cases h : l = m
    · subst h; simp [(List.nodup_cons.mp hn).1]
    · have : ¬ m = l := fun e => h e.symm
      simp [h, this]

/-- The record of line `m` after a change of every line of a set. -/
theorem changeLines_line (s : State) (x : LineSet) (f : LineRec → LineRec) (m : LineNo) :
    (s.changeLines x f).line[m]
      = if hasLine x m = true then LineRec.recode s.line[m] (f s.line[m]) else s.line[m] := by
  rw [State.changeLines, foldl_changeLine_line f _ (linesOf_nodup x)]
  simp only [mem_linesOf]

/-! ## Notices and events handed on -/

theorem notify_frame (s : State) (src : NoticeSource) (p : Port) (n : Notice) : OnlyWires s (s.notify src p n) := rfl

theorem notifyAll_frame (s : State) (src : NoticeSource) (n : Notice) : OnlyWires s (s.notifyAll src n) :=
  foldl_keeps OnlyWires _ OnlyWires.refl OnlyWires.trans (fun s p => notify_frame s src p n) _ _

/-- The notices for a port after one notice is handed on. -/
theorem notify_notices (s : State) (src : NoticeSource) (p q : Port) (n : Notice) :
    (s.notify src p n).wires.notices.get q =
      if q = p then s.wires.notices.get p ++ [{ source := src, own := false, notice := n }]
      else s.wires.notices.get q := by
  simp [State.notify, PerPort.get_set]

/-- Every port gets one copy. -/
theorem notifyAll_notices (s : State) (src : NoticeSource) (p : Port) (n : Notice) :
    (s.notifyAll src n).wires.notices.get p
      = s.wires.notices.get p ++ [{ source := src, own := false, notice := n }] := by
  simp only [State.notifyAll, Port.all, List.foldl_cons, List.foldl_nil, notify_notices]
  cases p <;> simp

/-- Only the notices on their way differ. -/
def OnlyNotices (s t : State) : Prop := t = { s with wires := { s.wires with notices := t.wires.notices } }

theorem notifyAll_onlyNotices (s : State) (src : NoticeSource) (n : Notice) : OnlyNotices s (s.notifyAll src n) :=
  foldl_keeps OnlyNotices (fun s p => s.notify src p n) (fun _ => rfl)
    (fun s t u h k => by unfold OnlyNotices at *; rw [k, h]) (fun _ _ => rfl) _ _

theorem handMotion_frame (s : State) (e : MotionEvent) : OnlyWires s (s.handMotion e) := rfl

theorem handFinding_frame (s : State) (f : Finding) : OnlyWires s (s.handFinding f) := rfl

theorem handChange_frame (s : State) (old new : Mode) : OnlyWires s (s.handChange old new) := rfl

/-! ## Mode changes and causes -/

theorem changeMode_frame (s : State) (new : Mode) (reason : Nat) (line : Option LineNo) :
    OnlyControl s (s.changeMode new reason line) := by
  unfold State.changeMode
  refine OnlyControl.trans _ _ _ ?_ (handChange_frame _ _ _).control
  exact OnlyControl.trans _ (s.setControl { s.control with mode := new }) _ rfl (notifyAll_frame _ _ _).control

/-- The Mode Controller after a change of mode. -/
theorem changeMode_control (s : State) (new : Mode) (reason : Nat) (line : Option LineNo) :
    (s.changeMode new reason line).control = { s.control with mode := new } := by
  unfold State.changeMode
  have h := congrArg State.control (notifyAll_frame (s.setControl { s.control with mode := new }) .modeController
    (modeNotice s.control.mode new reason line))
  simpa [State.handChange] using h

theorem endInit_frame (s : State) (new : Mode) : OnlyControl s (s.endInit new) := rfl

/-- The Mode Controller after the end of INIT. -/
@[simp] theorem endInit_control (s : State) (new : Mode) :
    (s.endInit new).control = { s.control with mode := new } := rfl

/-- Every port has taken the MODE_CHANGED that ends INIT. -/
@[simp] theorem endInit_notices (s : State) (new : Mode) : (s.endInit new).notices =
    s.notices.map fun x => NoticeState.take new x (modeNotice s.control.mode new s.control.resetKind.reason none) := rfl

/-- The notices on their way stay through the end of INIT. -/
@[simp] theorem endInit_posted (s : State) (new : Mode) : (s.endInit new).wires.notices = s.wires.notices := rfl

/-! ## The Timetable's parameters -/

theorem takeLimits_frame (s : State) : OnlyTable s s.takeLimits := rfl

/-- With no write of them at the front of its messages the Timetable keeps its limits. -/
theorem takeLimits_none (s : State) (h : ∀ v rest, s.wires.toTimetable ≠ .write (.tableLimits v) :: rest) :
    s.takeLimits = s := by
  have k : leadingLimits s.table.limits s.wires.toTimetable = (s.table.limits, s.wires.toTimetable) := by
    generalize s.wires.toTimetable = q at h
    unfold leadingLimits
    split
    · exact absurd rfl (h _ _)
    · rfl
  simp only [State.takeLimits, k]

/-- Writes at the front of the messages are taken, the last of them in force. -/
theorem leadingLimits_writes (vs : List TableLimits) (v : TableLimits) (rest : List BlockMessage)
    (h : ∀ u r, rest ≠ .write (.tableLimits u) :: r) :
    leadingLimits v (vs.map (fun u => .write (.tableLimits u)) ++ rest) = (vs.getLast?.getD v, rest) := by
  induction vs generalizing v with
  | nil =>
    simp only [List.map_nil, List.nil_append, List.getLast?_nil, Option.getD_none]
    unfold leadingLimits
    split
    · exact absurd rfl (h _ _)
    · rfl
  | cons u us ih =>
    simp only [List.map_cons, List.cons_append, leadingLimits]
    rw [ih, List.getLast?_cons, Option.getD_some]

theorem takeCause_frame (s : State) (cause : SafeCause) (line : Option LineNo) :
    OnlyControl s (s.takeCause cause line) := by
  unfold State.takeCause
  split
  · rfl
  · exact OnlyControl.trans _ (s.setControl { s.control with firstCause := some cause }) _ rfl (endInit_frame _ _)
  all_goals
    exact OnlyControl.trans _ (s.setControl { s.control with firstCause := some cause }) _ rfl (changeMode_frame _ _ _ _)

/-- After a cause the mode is SAFE. -/
theorem takeCause_mode (s : State) (cause : SafeCause) (line : Option LineNo) :
    (s.takeCause cause line).control.mode = .safe := by
  unfold State.takeCause
  split
  · assumption
  · rw [endInit_control]
  all_goals rw [changeMode_control]

/-! ## Cuts and consultations -/

theorem cut_frame (s : State) (p : Port) (x : LineSet) : OnlyWork s (s.cut p x) := rfl

theorem cutAll_frame (s : State) (ps : List Port) (x : LineSet) : OnlyWork s (s.cutAll ps x) :=
  foldl_keeps OnlyWork _ OnlyWork.refl OnlyWork.trans (fun s p => cut_frame s p x) _ _

theorem clearLine_frame (s : State) (l : LineNo) : OnlyWork s (s.clearLine l) := by
  unfold State.clearLine
  refine OnlyWork.trans _ _ _ ?_ (handFinding_frame _ _).work
  refine OnlyWork.trans _ _ _ ?_ (closeLines_frame _ _).work
  exact OnlyWork.trans _ (s.setLine l s.line[l].cleared) _ rfl (cutAll_frame _ _ _)

theorem verifyLine_frame (s : State) (l : LineNo) : OnlyWork s (s.verifyLine l) := by
  unfold State.verifyLine
  split
  · exact OnlyWork.refl s
  · exact clearLine_frame s l

theorem consult_frame (s : State) (x : LineSet) : OnlyWork s (s.consult x) :=
  foldl_keeps OnlyWork _ OnlyWork.refl OnlyWork.trans verifyLine_frame _ _

theorem foldl_verify_ok (ls : List LineNo) (s : State) (h : ∀ l ∈ ls, (s.line[l]).codeOk = true) :
    ls.foldl State.verifyLine s = s := by
  induction ls with
  | nil => rfl
  | cons l ls ih =>
    have hl : s.verifyLine l = s := by unfold State.verifyLine; rw [if_pos (h l (List.mem_cons_self ..))]
    rw [List.foldl_cons, hl]
    exact ih fun m hm => h m (List.mem_cons_of_mem _ hm)

/-- A consultation that finds every record matching changes nothing (R23). -/
theorem consult_ok (s : State) (x : LineSet) (h : ∀ l, hasLine x l = true → (s.line[l]).codeOk = true) :
    s.consult x = s :=
  foldl_verify_ok _ s fun l hl => h l ((mem_linesOf x l).mp hl)

/-! ## The Timetable -/

theorem removeEntry_frame (s : State) (e : Entry) : OnlyTable s (s.removeEntry e) := rfl

theorem removeCorrupt_frame (s : State) (e : Entry) : OnlyTable s (s.removeCorrupt e) := rfl

theorem putEntry_frame (s : State) (e : Entry) : OnlyTable s (s.putEntry e) := rfl

theorem displace_frame (s : State) (c : Entry × LineSet) : OnlyTable s (s.displace c) := rfl

theorem placeProposal_frame (s : State) (n : Proposal) (d : List (Entry × LineSet)) :
    OnlyTable s (s.placeProposal n d).1 := by
  unfold State.placeProposal
  have h := foldl_keeps OnlyTable State.displace OnlyTable.refl OnlyTable.trans displace_frame d s
  simp only
  split
  · exact OnlyTable.refl s
  · exact OnlyTable.trans _ _ _ h rfl

theorem propose_frame (s : State) (n : Proposal) : OnlyWork s (s.propose n).1 := by
  unfold State.propose
  split
  · exact OnlyWork.refl s
  · simp only
    have h := consult_frame s n.lines
    split
    · exact h
    · split
      · exact h
      · split
        · exact h
        · exact OnlyWork.trans _ _ _ h (placeProposal_frame _ _ _).work

/-- The first step at the Timetable waits exactly where the step before it asked for SAFE and that request is not settled. -/
theorem stepHeld_iff (s : State) : s.stepHeld = true ↔
    (∃ d v asks rest, s.wires.timetableMotion = .step d v asks :: rest)
    ∧ s.table.askedSafe = true ∧ s.wires.overrunAsks.head? ≠ some (some 0) := by
  unfold State.stepHeld
  generalize s.wires.timetableMotion = q
  rcases q with _ | ⟨⟨d, v, a⟩ | v, rest⟩ <;> simp

/-- The Timetable may take a change into RUN exactly where a step waits for its emptying, or no preset and no step with a
settled SAFE request waits, and the Line Block stands ahead. -/
theorem timetableMayRun_iff (s : State) : s.timetableMayRun = true ↔
    (s.stepHeld = true ∨ (presetWaits s.wires.timetableMotion = false
      ∧ some 0 ∉ (if s.table.askedSafe then s.wires.overrunAsks.drop 1 else s.wires.overrunAsks)))
    ∧ changesWaiting s.wires.toLines < changesWaiting s.wires.toTimetable := by
  unfold State.timetableMayRun State.settledStepWaits State.asksAfterStep
  cases s.table.askedSafe <;> simp [or_comm]

/-! ## The Capture Log -/

/-- Only the Capture Log and what is on its way differ. -/
def OnlyLog (s t : State) : Prop := t = { s with log := t.log, wires := t.wires }

theorem OnlyLog.refl (s : State) : OnlyLog s s := rfl
theorem OnlyLog.trans (s t u : State) (h : OnlyLog s t) (k : OnlyLog t u) : OnlyLog s u := by
  unfold OnlyLog at *; rw [k, h]

theorem chargeLost_frame (s : State) (c : Capture) (p : Port) : OnlyLog s (s.chargeLost c p) := by
  unfold State.chargeLost
  split <;> rfl

theorem overwrite_frame (s : State) : OnlyLog s s.overwrite := by
  unfold State.overwrite
  split
  · exact OnlyLog.refl s
  · split
    · exact OnlyLog.trans _ _ _ (foldl_keeps OnlyLog _ OnlyLog.refl OnlyLog.trans (fun s p => chargeLost_frame s _ p) _ _) rfl
    · exact OnlyLog.refl s

/-- With fewer records than the log may hold an entry removes none, unless its overwrite is due (R113, R118). -/
theorem overwrite_room (s : State) (h : s.log.records.length < Config.logCapacity) (k : s.log.overwriteDue = false) :
    s.overwrite = s := by
  unfold State.overwrite
  split
  · rfl
  · rw [if_neg (by simpa [k] using h)]

end Sys2Proof.Machine
end

