-- ==== Sys2Proof/WellFormed.lean ====
section
/-! DEFINITION. What the operands of a command must meet for the command to name an event at all. Frames are at
most 128 bytes (R169, R174); a command that clocks bytes clocks at least one. Every other operand is well formed
by its type. -/

namespace Sys2Proof

/-- The largest frame, request or reply (R169, R174). -/
def maxFrameBytes : Nat := 128

/-- The operand checks of a command. The ports, lines, sensors and blocks are in range by their types; an index
into events on their way (CAPTURE_ENTRY, NOTICE_TAKEN) is judged against the state when the command is taken. -/
def Instr.wellFormed : Instr → Bool
  | .requestFrame _ bytes => 1 ≤ bytes.length && bytes.length ≤ maxFrameBytes
  | .replySent _ n => 1 ≤ n && n ≤ maxFrameBytes
  | .powerOnReset | .resetnAssert | .resetEnd | .initEnd | .safeinAssert | .safeinDeassert
  | .safeRequestOverrun | .motionInputChange _ _ | .stepInputRise _ | .internalRateExpiry | .stallTimerExpiry
  | .speedWindowExpiry | .stepAtTimetable | .stepAtSlots _ | .presetAtBlock _ | .sensorRawChange _ _
  | .sensorFilterExpiry _ | .captureEntry _ | .captureHandOff | .historyPeriodBoundary | .corruptionDecay
  | .settleExpiry _ _ | .pulseEnd _ | .restEnd _ | .restGuardEnd _ | .scrubVisit | .corruptionFinding _
  | .timetableEmptying | .slotsEmptying _ | .templatesSuspension | .enginesOff | .writeMotionSource
  | .writeInternalRate | .writeStallTime | .writeSpeedWindow | .writeCommitLead _ | .writeHistoryPeriod
  | .writeRest _ | .writeReadback _ | .writeSensorFilter _ | .noticeTaken _ _ | .selectFall _ | .replyReady _
  | .selectRelease _ | .readPosition _ | .presetPosition | .leaseLines _ | .releaseLines _ | .revokeLines
  | .forceLines | .unforceLines | .readLines _ | .clearLineFault | .post _ | .commit _ | .discardStaged _
  | .cancelEntries _ | .amendEntry _ | .queryEntry _ | .readTableStatus _ | .subscribe _ | .readCaptures _
  | .defineTemplate _ | .deleteTemplate _ | .setTemplateState _ | .verdict _ | .queryTemplate _ | .setParam
  | .getParam _ | .start | .stop | .resume | .readHealth _ | .resetDevice | .readNotices _ | .setNoticeMask _
  | .portStatus _ | .resetPort _ | .modeChangeTakenAtBlock _ | .replyMarkerSent _ => true

end Sys2Proof
end

