-- ==== Sys2Proof/Laws/PerInstr.lean ====
section
/-! SUPPORT. Statements for all commands, one lemma for each constructor. OperandChecks: what the operand checks of
WellFormed.lean refuse is a frame of no byte or of more than 128 bytes, and nothing else (R169, R174). -/

namespace Sys2Proof.Laws.OperandChecks

open Sys2Proof

/-- A refused command clocks no byte, or more bytes than a frame can have. -/
def Statement (i : Instr) : Prop :=
  i.wellFormed = false →
    (∃ p bytes, i = .requestFrame p bytes ∧ (bytes = [] ∨ maxFrameBytes < bytes.length))
    ∨ (∃ p n, i = .replySent p n ∧ (n = 0 ∨ maxFrameBytes < n))

theorem powerOnReset : Statement .powerOnReset := fun h => Bool.noConfusion h

theorem resetnAssert : Statement .resetnAssert := fun h => Bool.noConfusion h

theorem resetEnd : Statement .resetEnd := fun h => Bool.noConfusion h

theorem initEnd : Statement .initEnd := fun h => Bool.noConfusion h

theorem safeinAssert : Statement .safeinAssert := fun h => Bool.noConfusion h

theorem safeinDeassert : Statement .safeinDeassert := fun h => Bool.noConfusion h

theorem safeRequestOverrun : Statement .safeRequestOverrun := fun h => Bool.noConfusion h

theorem motionInputChange (a b : Bool) : Statement (.motionInputChange a b) := fun h => Bool.noConfusion h

theorem stepInputRise (b : Bool) : Statement (.stepInputRise b) := fun h => Bool.noConfusion h

theorem internalRateExpiry : Statement .internalRateExpiry := fun h => Bool.noConfusion h

theorem stallTimerExpiry : Statement .stallTimerExpiry := fun h => Bool.noConfusion h

theorem speedWindowExpiry : Statement .speedWindowExpiry := fun h => Bool.noConfusion h

theorem stepAtTimetable : Statement .stepAtTimetable := fun h => Bool.noConfusion h

theorem stepAtSlots (p : Port) : Statement (.stepAtSlots p) := fun h => Bool.noConfusion h

theorem presetAtBlock (m : MotionBlock) : Statement (.presetAtBlock m) := fun h => Bool.noConfusion h

theorem sensorRawChange (k : SensorNo) (level : Bool) : Statement (.sensorRawChange k level) := fun h => Bool.noConfusion h

theorem sensorFilterExpiry (k : SensorNo) : Statement (.sensorFilterExpiry k) := fun h => Bool.noConfusion h

theorem captureEntry (i : Nat) : Statement (.captureEntry i) := fun h => Bool.noConfusion h

theorem captureHandOff : Statement .captureHandOff := fun h => Bool.noConfusion h

theorem historyPeriodBoundary : Statement .historyPeriodBoundary := fun h => Bool.noConfusion h

theorem corruptionDecay : Statement .corruptionDecay := fun h => Bool.noConfusion h

theorem settleExpiry (l : LineNo) (readback : Bool) : Statement (.settleExpiry l readback) := fun h => Bool.noConfusion h

theorem pulseEnd (l : LineNo) : Statement (.pulseEnd l) := fun h => Bool.noConfusion h

theorem restEnd (l : LineNo) : Statement (.restEnd l) := fun h => Bool.noConfusion h

theorem restGuardEnd (l : LineNo) : Statement (.restGuardEnd l) := fun h => Bool.noConfusion h

theorem scrubVisit : Statement .scrubVisit := fun h => Bool.noConfusion h

theorem corruptionFinding (k : RecordKind) : Statement (.corruptionFinding k) := fun h => Bool.noConfusion h

theorem timetableEmptying : Statement .timetableEmptying := fun h => Bool.noConfusion h

theorem slotsEmptying (p : Port) : Statement (.slotsEmptying p) := fun h => Bool.noConfusion h

theorem templatesSuspension : Statement .templatesSuspension := fun h => Bool.noConfusion h

theorem enginesOff : Statement .enginesOff := fun h => Bool.noConfusion h

theorem writeMotionSource : Statement .writeMotionSource := fun h => Bool.noConfusion h

theorem writeInternalRate : Statement .writeInternalRate := fun h => Bool.noConfusion h

theorem writeStallTime : Statement .writeStallTime := fun h => Bool.noConfusion h

theorem writeSpeedWindow : Statement .writeSpeedWindow := fun h => Bool.noConfusion h

theorem writeCommitLead (p : Port) : Statement (.writeCommitLead p) := fun h => Bool.noConfusion h

theorem writeHistoryPeriod : Statement .writeHistoryPeriod := fun h => Bool.noConfusion h

theorem writeRest (l : LineNo) : Statement (.writeRest l) := fun h => Bool.noConfusion h

theorem writeReadback (l : LineNo) : Statement (.writeReadback l) := fun h => Bool.noConfusion h

theorem writeSensorFilter (k : SensorNo) : Statement (.writeSensorFilter k) := fun h => Bool.noConfusion h

theorem noticeTaken (p : Port) (i : Nat) : Statement (.noticeTaken p i) := fun h => Bool.noConfusion h

theorem selectFall (p : Port) : Statement (.selectFall p) := fun h => Bool.noConfusion h

theorem requestFrame (p : Port) (bytes : List Byte) : Statement (.requestFrame p bytes) := by
  intro h
  refine Or.inl ⟨p, bytes, rfl, ?_⟩
  cases bytes with
  | nil => exact Or.inl rfl
  | cons b rest =>
    right
    simpa [Instr.wellFormed] using h

theorem replyReady (p : Port) : Statement (.replyReady p) := fun h => Bool.noConfusion h

theorem replySent (p : Port) (n : Nat) : Statement (.replySent p n) := by
  intro h
  refine Or.inr ⟨p, n, rfl, ?_⟩
  simp [Instr.wellFormed] at h
  omega

theorem selectRelease (p : Port) : Statement (.selectRelease p) := fun h => Bool.noConfusion h

theorem readPosition (p : Port) : Statement (.readPosition p) := fun h => Bool.noConfusion h

theorem presetPosition : Statement .presetPosition := fun h => Bool.noConfusion h

theorem leaseLines (p : Port) : Statement (.leaseLines p) := fun h => Bool.noConfusion h

theorem releaseLines (p : Port) : Statement (.releaseLines p) := fun h => Bool.noConfusion h

theorem revokeLines : Statement .revokeLines := fun h => Bool.noConfusion h

theorem forceLines : Statement .forceLines := fun h => Bool.noConfusion h

theorem unforceLines : Statement .unforceLines := fun h => Bool.noConfusion h

theorem readLines (p : Port) : Statement (.readLines p) := fun h => Bool.noConfusion h

theorem clearLineFault : Statement .clearLineFault := fun h => Bool.noConfusion h

theorem post (p : Port) : Statement (.post p) := fun h => Bool.noConfusion h

theorem commit (p : Port) : Statement (.commit p) := fun h => Bool.noConfusion h

theorem discardStaged (p : Port) : Statement (.discardStaged p) := fun h => Bool.noConfusion h

theorem cancelEntries (p : Port) : Statement (.cancelEntries p) := fun h => Bool.noConfusion h

theorem amendEntry (p : Port) : Statement (.amendEntry p) := fun h => Bool.noConfusion h

theorem queryEntry (p : Port) : Statement (.queryEntry p) := fun h => Bool.noConfusion h

theorem readTableStatus (p : Port) : Statement (.readTableStatus p) := fun h => Bool.noConfusion h

theorem subscribe (p : Port) : Statement (.subscribe p) := fun h => Bool.noConfusion h

theorem readCaptures (p : Port) : Statement (.readCaptures p) := fun h => Bool.noConfusion h

theorem defineTemplate (p : Port) : Statement (.defineTemplate p) := fun h => Bool.noConfusion h

theorem deleteTemplate (p : Port) : Statement (.deleteTemplate p) := fun h => Bool.noConfusion h

theorem setTemplateState (p : Port) : Statement (.setTemplateState p) := fun h => Bool.noConfusion h

theorem verdict (p : Port) : Statement (.verdict p) := fun h => Bool.noConfusion h

theorem queryTemplate (p : Port) : Statement (.queryTemplate p) := fun h => Bool.noConfusion h

theorem setParam : Statement .setParam := fun h => Bool.noConfusion h

theorem getParam (p : Port) : Statement (.getParam p) := fun h => Bool.noConfusion h

theorem start : Statement .start := fun h => Bool.noConfusion h

theorem stop : Statement .stop := fun h => Bool.noConfusion h

theorem resume : Statement .resume := fun h => Bool.noConfusion h

theorem readHealth (p : Port) : Statement (.readHealth p) := fun h => Bool.noConfusion h

theorem resetDevice : Statement .resetDevice := fun h => Bool.noConfusion h

theorem readNotices (p : Port) : Statement (.readNotices p) := fun h => Bool.noConfusion h

theorem setNoticeMask (p : Port) : Statement (.setNoticeMask p) := fun h => Bool.noConfusion h

theorem portStatus (p : Port) : Statement (.portStatus p) := fun h => Bool.noConfusion h

theorem resetPort (p : Port) : Statement (.resetPort p) := fun h => Bool.noConfusion h

theorem modeChangeTakenAtBlock (b : ChangeBlock) : Statement (.modeChangeTakenAtBlock b) := fun h => Bool.noConfusion h

theorem replyMarkerSent (p : Port) : Statement (.replyMarkerSent p) := fun h => Bool.noConfusion h

end Sys2Proof.Laws.OperandChecks
end

