-- ==== Sys2Proof/Laws/Serve.lean ====
section
/-! SUPPORT. What the taking of a request and the guard of a reset come to. -/

set_option autoImplicit false

namespace Sys2Proof.Machine

open Sys2Proof

/-- Outside a reset the event is taken. -/
theorem whenRunning_running (f : State → State) (s : State) (h : s.inReset = none) : whenRunning f s = .next (f s) := by
  simp [whenRunning, h]

/-- While a reset is in force nothing happens. -/
theorem whenRunning_inReset (f : State → State) (s : State) (k : ResetKind) (h : s.inReset = some k) :
    whenRunning f s = .next s := by
  simp [whenRunning, h]

/-- A waiting request is the one its owner block takes. -/
theorem request_of_waits {s : State} {p : Port} {k : ReqKind} {w : Work} (h : RequestWaits s p k w) :
    s.request p k = some w := by
  obtain ⟨h1, h2, h3, h4⟩ := h
  simp [State.request, h1, h2, h3, h4]

/-- Without new notices for the requester nothing is marked. -/
@[simp] theorem markOwn_none (s : State) (p : Port) : s.markOwn p (s.wires.notices.get p).length = s := by
  simp [State.markOwn, State.setWires]

/-- A waiting request taken: the handler's effect, the requester's own notices marked, the reply held. -/
theorem serve_waits {s : State} {p : Port} {k : ReqKind} {w : Work} (h : RequestWaits s p k w)
    (f : List Byte → State → State × Reply) :
    serve k p f s = .next ((((f w.body s).1).markOwn p (s.wires.notices.get p).length).setPhase p w
      (.done (f w.body s).2.status (f w.body s).2.body)) := by
  simp [serve, request_of_waits h]

/-- A request that leaves the notices on their way untouched marks none. -/
theorem markOwn_same (s t : State) (p : Port) (h : t.wires.notices.get p = s.wires.notices.get p) :
    t.markOwn p (s.wires.notices.get p).length = t := by
  rw [← h]; simp

/-- A request that only reads: nothing but the reply changes. -/
theorem serve_reading {s : State} {p : Port} {k : ReqKind} {w : Work} (h : RequestWaits s p k w)
    (f : List Byte → State → Reply) :
    serve k p (reading f) s = .next (s.answer p w (f w.body s).status (f w.body s).body) := by
  rw [serve_waits h]
  simp [reading, State.setPhase, State.answer]

/-- A request that is refused, or changes nothing: nothing but the reply changes. -/
theorem serve_kept {s : State} {p : Port} {k : ReqKind} {w : Work} (h : RequestWaits s p k w)
    (f : List Byte → State → State × Reply) (r : Reply) (hf : f w.body s = (s, r)) :
    serve k p f s = .next (s.answer p w r.status r.body) := by
  rw [serve_waits h, hf]
  simp [State.setPhase, State.answer]

end Sys2Proof.Machine
end

