-- ==== Sys2Proof/Tests/Slice0.lean ====
section
/-! SUPPORT. The model's own tests: ill-formed commands, one step of each request and event on a small state, rows of the
spec's worked examples, and for each statement with hypotheses a state and operands that meet them. -/

set_option autoImplicit false
set_option maxRecDepth 20000
set_option Elab.async false

namespace Sys2Proof.Tests

open Sys2Proof Sys2Proof.Machine

/-! ## Ill-formed commands are refused by the operand checks -/

theorem test_illFormed_requestFrame_empty : (Instr.requestFrame .A []).wellFormed = false := by decide
theorem test_illFormed_requestFrame_long : (Instr.requestFrame .A (List.replicate 129 0)).wellFormed = false := by decide
theorem test_illFormed_replySent_none : (Instr.replySent .A 0).wellFormed = false := by decide
theorem test_illFormed_replySent_long : (Instr.replySent .A 129).wellFormed = false := by decide
theorem test_wellFormed_bounds : (Instr.requestFrame .A [1]).wellFormed = true
    ∧ (Instr.requestFrame .A (List.replicate 128 0)).wellFormed = true
    ∧ (Instr.replySent .A 1).wellFormed = true ∧ (Instr.replySent .A 128).wellFormed = true := by decide

/-- No word of the table spells a command, and no word changes the queue. -/
theorem test_decodeTableWord_none : ∀ nbits w : Nat, decodeTableWord nbits w = none ∧
    State.withFetchWord State.reset nbits w = State.reset := fun _ _ => ⟨rfl, rfl⟩

/-! ## Small states -/

/-- Every block in mode `m`, the rest as after a reset. -/
def blocksIn (m : Mode) : State :=
  { State.reset with
    control := { State.reset.control with mode := m, firstCause := if m = .safe then some .safeIn else none }
    table := { State.reset.table with mode := m }
    slots := PerPort.const { Slots.initial 64 with mode := m }
    lineBlock := { State.reset.lineBlock with mode := m }
    log := { State.reset.log with mode := m }
    templates := { State.reset.templates with mode := m } }

/-- A request of `k` with a body. -/
def work (k : ReqKind) (body : List Byte) : Work := { kind := k, seq := 7, body := body, since := 0, phase := .waiting }

/-- Port `p` works on a request that has been handed on. -/
def asks (s : State) (p : Port) (k : ReqKind) (body : List Byte) : State :=
  { s with ports := s.ports.set p { s.ports.get p with selected := true, state := .working, work := some (work k body) } }

/-- The status and body that a taken request holds for its port. -/
def answerOf (p : Port) : Result → Option (Status × List Byte)
  | .next t =>
    match (t.ports.get p).work with
    | some w =>
      match w.phase with
      | .done st body => some (st, body)
      | .waiting => none
      | .partly _ _ => none
    | none => none
  | .fault _ => none
  | .refused _ => none

/-- The next state of a step, for a look at one field of it. -/
def after : Result → State
  | .next t => t
  | .fault _ => State.reset
  | .refused _ => State.reset

/-- Line `l` held SHARED by the ports given. -/
def heldShared (s : State) (l : LineNo) (ps : List Port) : State :=
  s.changeLine l fun r => { r with leaseMode := .shared, shares := ps.map fun p => newShare p false }

/-- A posted ARMED entry at index `i`. -/
def armed (i : Fin 256) (p : Port) (lines : LineSet) (a : LineAction) (due : Word32) : Entry :=
  let f : EntryFields := { handle := { index := i, generation := 1 }, owner := p, origin := .posted (some 12), lines := lines
                           action := a, due := due, report := true, stage := .armed, commitNo := 0 }
  { index := i, fields := f, code := f }

/-- A HELD instance of template `n` for capture 900 at index `i`. -/
def heldEntry (i : Fin 256) (p : Port) (n : TemplateNo) (due decision : Word32) (d : Default) : Entry :=
  let f : EntryFields := { (armed i p 0x40#32 .on due).fields with origin := .template n 900, stage := .held decision d }
  { index := i, fields := f, code := f }

/-- The Timetable holds the entries given, each under generation 1 of its index. -/
def withEntries (s : State) (es : List Entry) : State :=
  { s with table := { s.table with live := es, generations := Vector.replicate 256 1, liveCount := recount es } }

/-- A template of port `p` on S2 rising, line 6, ON, offset 4,000. -/
def template (p : Port) (v : VerdictMode) : Template :=
  Template.make { owner := p, sensor := 2, edge := .rising, lines := 0x40#32, action := .on, offset := 4000, verdict := v
                  report := false, active := true, failures := 0 }

/-- RUN with lines 5 and 6 held SHARED by B and C. -/
def running : State := heldShared (heldShared (blocksIn .run) 5 [.B, .C]) 6 [.B, .C]

/-! ## Numbers of the spec -/

/-- The CRC of the nine bytes 31h to 39h (R174). -/
theorem test_crc_of_the_nine_bytes :
    crc16 [0x31, 0x32, 0x33, 0x34, 0x35, 0x36, 0x37, 0x38, 0x39] = 0x29B1#16 := by decide

/-- The rows of section 5.8: retriggers, latch and deferred start on line 20 with REST 1,000. -/
theorem test_engine_rows_of_section_5_8 :
    Engine.deliver 50000 1000 (.pulse 500) (.off none) = .onPulse 50500 false
    ∧ Engine.deliver 50400 1000 (.pulse 800) (.onPulse 50500 false) = .onPulse 51200 false
    ∧ Engine.atPulseEnd 51200 1000 (.onPulse 51200 false) = .resting 51200 52200 .none
    ∧ Engine.deliver 51700 1000 (.pulse 600) (.resting 51200 52200 (.pulse 300)) = .resting 51200 52200 (.pulse 600)
    ∧ Engine.deliver 52000 1000 (.pulse 900) (.resting 51200 52200 .latch) = .resting 51200 52200 .latch
    ∧ Engine.atRestEnd 52200 (.resting 51200 52200 .latch) = .onLatched := by decide

/-- The guard of section 5.8.1: a failure cuts the pulse at 80,000 and the ON at 80,700 is delayed to 81,000. -/
theorem test_engine_guard_of_section_5_8_1 :
    Engine.setOff 80000 1000 (.onPulse 80600 false) = .off (some { fall := 80000, endAt := 81000 })
    ∧ Engine.deliver 80700 1000 .on (.off (some { fall := 80000, endAt := 81000 })) = .resting 80000 81000 .latch
    ∧ Engine.outcome (.resting 80000 81000 .latch) = .delayed := by decide

/-- The position window at its bounds (R17). -/
theorem test_window_bounds :
    windowStatus 5 5 = some .tooLate ∧ windowStatus 5 6 = none ∧ windowStatus 0 16777216 = none
    ∧ windowStatus 0 16777217 = some .outOfRange ∧ windowStatus 0 4278190079 = some .outOfRange
    ∧ windowStatus 0 4278190080 = some .tooLate := by decide

/-! ## Resets, modes, causes -/

theorem test_powerOnReset_defaults : (after (exec .powerOnReset running)).control.params = Params.default
    ∧ (after (exec .powerOnReset running)).inReset = some .power := by decide

theorem test_resetnAssert_kind : (after (exec .resetnAssert running)).control.resetKind = .pin := by decide

theorem test_resetEnd_safeIn :
    (after (exec .resetEnd { after (exec .powerOnReset running) with pinSafeIn := true })).control.firstCause
      = some .safeIn := by decide

theorem test_initEnd_config : (after (exec .initEnd State.reset)).control.mode = .config
    ∧ ((after (exec .initEnd State.reset)).notices.get .D).pendingSet = [(.modeChanged, 1)]
    ∧ ((after (exec .initEnd State.reset)).notices.get .D).alert = true := by decide

theorem test_safeinAssert_enters : (after (exec .safeinAssert running)).control.mode = .safe
    ∧ (after (exec .safeinAssert running)).safeOut = true := by decide

theorem test_safeinDeassert_level :
    (after (exec .safeinDeassert { blocksIn .safe with pinSafeIn := true })).control.mode = .safe := by decide

theorem test_safeRequestOverrun_cause :
    (after (exec .safeRequestOverrun { running with wires := { running.wires with overrunAsks := [none] } })).control.firstCause
      = some .overrun := by decide

theorem test_start_runs : (after (exec .start (asks (blocksIn .config) .A .start []))).control.mode = .run := by decide

theorem test_start_unranked : answerOf .A (exec .start (asks { blocksIn .config with
    control := { (blocksIn .config).control with params := { Params.default with
      portPriority := #v[some .A, none, some .C, some .D] } } } .A .start [])) = some (.badField, []) := by decide

theorem test_stop_configures : (after (exec .stop (asks running .A .stop []))).control.mode = .config := by decide

theorem test_resume_held : answerOf .A (exec .resume (asks { blocksIn .safe with pinSafeIn := true } .A .resume []))
    = some (.safeHold, []) := by decide

theorem test_resume_clears : (after (exec .resume (asks (blocksIn .safe) .A .resume []))).control.firstCause = none := by
  decide

theorem test_resetDevice_arms : (after (exec .resetDevice (asks running .A .resetDevice []))).control.softArmed = true := by
  decide

/-- SAFE entry on its way to every block from RUN. -/
def safeOnItsWay : State :=
  let s := withEntries running [armed 0 .B 0x20#32 .on 100]
  after (exec .safeinAssert { s with
    slots := s.slots.set .B { s.slots.get .B with
      slot := #v[some { lines := 0x20, action := .on, due := 90, tag := none, report := false, noMerge := false }, none, none, none]
      age := [0] }
    templates := { s.templates with place := s.templates.place.set 3 (some (template .B .none)) }
    line := s.line.set 5 { s.line[5] with engine := .onPulse 40 false, rest := 10 } })

theorem test_timetableEmptying_empties : (after (exec .timetableEmptying safeOnItsWay)).table.live = []
    ∧ ((after (exec .timetableEmptying safeOnItsWay)).wires.notices.get .B).length = 2 := by decide

theorem test_slotsEmptying_empties : ((after (exec (.slotsEmptying .B) safeOnItsWay)).slots.get .B).age = [] := by decide

theorem test_templatesSuspension_suspends :
    ((after (exec .templatesSuspension safeOnItsWay)).templates.place[3]).map (fun t => t.fields.active) = some false := by
  decide +kernel

theorem test_enginesOff_waits : exec .enginesOff safeOnItsWay = .next safeOnItsWay := rfl

theorem test_enginesOff_guards :
    (((after (exec .enginesOff (after (exec .timetableEmptying safeOnItsWay)))).line)[5]).engine
      = .off (some { fall := 0, endAt := 10 }) := by decide +kernel

theorem test_modeChangeTakenAtBlock_log :
    (after (exec (.modeChangeTakenAtBlock .log) safeOnItsWay)).log.mode = .safe := by decide

/-! ## Position -/

theorem test_motionInputChange_forward : (after (exec (.motionInputChange true false) running)).position.p = 1
    ∧ (after (exec (.motionInputChange true false) running)).position.motion = .forward := by decide

theorem test_motionInputChange_wrap : (after (exec (.motionInputChange false true) running)).position.p = 0xFFFFFFFF
    ∧ (after (exec (.motionInputChange false true) running)).position.epoch = 0xFFFF := by decide

/-- RUN with another motion source in force. -/
def source (m : MotionSource) : State := { running with position := { running.position with source := m, rateStart := some 0 } }

theorem test_stepInputRise_direction : (after (exec (.stepInputRise false) (source .stepDir))).position.p = 0xFFFFFFFF
    ∧ (after (exec (.stepInputRise true) (source .stepDir))).position.p = 1 := by decide

theorem test_internalRateExpiry_due : exec .internalRateExpiry { source .internal with now := 99 } = .next { source .internal with now := 99 }
    ∧ (after (exec .internalRateExpiry { source .internal with now := 100 })).position.p = 1 := ⟨rfl, by decide⟩

theorem test_stallTimerExpiry_stalls : (after (exec .stallTimerExpiry { running with
    now := 500000, position := { running.position with motion := .forward, stallStart := some 0 } })).position.motion
      = .stalled := by decide

theorem test_speedWindowExpiry_saturates : (after (exec .speedWindowExpiry { running with
    now := 10000, position := { running.position with acc := -40000 } })).position.speed = -32767 := by decide

theorem test_presetPosition_sets :
    answerOf .A (exec .presetPosition (asks (blocksIn .config) .A .presetPosition [1, 2, 3, 4])) = some (.ok, [1, 2, 3, 4, 1])
    ∧ (after (exec .presetPosition (asks (blocksIn .config) .A .presetPosition [1, 2, 3, 4]))).position.p = 0x01020304 := by
  decide

theorem test_presetAtBlock_timetable : (after (exec (.presetAtBlock .timetable) { blocksIn .config with
    wires := { Wires.empty with timetableMotion := [.preset 77] } })).table.pos = 77 := by decide

theorem test_readPosition_body : answerOf .B (exec (.readPosition .B) (asks running .B .readPosition [1])) = some (.badField, [])
    ∧ (answerOf .B (exec (.readPosition .B) (asks running .B .readPosition []))).map (fun x => x.2.length) = some 20 := by decide

/-- A write waits at the Position Unit, the Line Block, the sensors and the slots of port B. -/
def writing (w : ParamWrite) : State :=
  { running with
    now := 9000
    wires := { running.wires with toPosition := [.write w], toLines := [.write w], toLog := [.write w]
                                  toSlots := PerPort.const [.write w] } }

theorem test_writeMotionSource_takes :
    (after (exec .writeMotionSource (writing (.motionSource .internal)))).position.rateStart = some 9000 := by decide
theorem test_writeInternalRate_takes : (after (exec .writeInternalRate (writing (.internalRate 7)))).position.rate = 7 := by
  decide
theorem test_writeStallTime_takes : (after (exec .writeStallTime { writing (.stallTime 9) with
    position := { running.position with motion := .forward, stallStart := some 0 } })).position.motion = .stalled := by decide
theorem test_writeSpeedWindow_takes :
    (after (exec .writeSpeedWindow (writing (.speedWindow 3)))).position.windowStart = 9000 := by decide
theorem test_writeHistoryPeriod_takes :
    (after (exec .writeHistoryPeriod (writing (.historyPeriod .ms100)))).lineBlock.historyPeriod = .ms100 := by decide
theorem test_writeRest_retimes : (((after (exec (.writeRest 5) { writing (.rest 5 2000) with
    line := running.line.set 5 { running.line[5] with engine := .off (some { fall := 8000, endAt := 9100 }) } })).line)[5]).engine
      = .off (some { fall := 8000, endAt := 10000 }) := by decide
/-- STOP on its way to the Line Block, taken at the Timetable, with a write of REST behind it and a rest running on line 5. -/
def restBehindStop : State := { running with
  now := 9000, line := running.line.set 5 { running.line[5] with engine := .resting 8000 9100 .none }
  wires := { running.wires with
    toLines := [.change { old := .run, new := .config, ready := true }, .write (.rest 5 2000)] } }

theorem test_writeRest_before_stop_is_taken :
    (((after (exec (.writeRest 5) restBehindStop)).line)[5]).engine = .resting 8000 10000 .none
    ∧ (((after (exec .enginesOff (after (exec (.writeRest 5) restBehindStop)))).line)[5]).engine
      = .off (some { fall := 8000, endAt := 10000 })
    ∧ (after (exec .enginesOff (after (exec (.writeRest 5) restBehindStop)))).line
      = (after (exec (.writeRest 5) (after (exec .enginesOff restBehindStop)))).line := by decide +kernel
theorem test_idle_takes_the_write_behind_a_change : dueEvent restBehindStop = some (.writeRest 5) := by decide +kernel
theorem test_writeReadback_takes :
    (((after (exec (.writeReadback 5) (writing (.readback 5 true)))).line)[5]).readback = true := by decide
theorem test_writeSensorFilter_takes :
    (((after (exec (.writeSensorFilter 2) (writing (.sensorFilter 2 9)))).sensor)[2]).filter = 9 := by decide
theorem test_writeCommitLead_takes :
    ((after (exec (.writeCommitLead .B) (writing (.commitLead 9)))).slots.get .B).lead = 9 := by decide

/-! ## Lines -/

theorem test_leaseLines_grants :
    (((after (exec (.leaseLines .D) (asks running .D .leaseLines [0, 0, 0, 0x20, 1, 0]))).line)[5]).shares.map Share.port
      = [.B, .C, .D] := by decide
theorem test_leaseLines_refuses :
    answerOf .D (exec (.leaseLines .D) (asks running .D .leaseLines [0, 0, 0, 0x60, 0, 0])) = some (.heldByOther, [5]) := by
  decide
theorem test_releaseLines_drops :
    (((after (exec (.releaseLines .C) (asks running .C .releaseLines [0, 0, 0, 0x40]))).line)[6]).shares.map Share.port
      = [.B] := by decide +kernel
theorem test_revokeLines_frees :
    answerOf .A (exec .revokeLines (asks (withEntries running [armed 0 .B 0x20#32 .on 100]) .A .revokeLines [0, 0, 0, 0x60]))
      = some (.ok, [2, 0, 0, 0, 1, 0, 1, 0, 0]) := by decide +kernel
theorem test_forceLines_drives :
    (after (exec .forceLines (asks running .A .forceLines [0, 0, 0, 0x20, 1]))).out 5 = true := by decide +kernel
theorem test_unforceLines_takes :
    answerOf .A (exec .unforceLines (asks running .A .unforceLines [0, 0, 0, 0x20])) = some (.ok, []) := by decide +kernel
theorem test_readLines_record :
    answerOf .D (exec (.readLines .D) (asks running .D .readLines [0, 0, 0, 0x20]))
      = some (.ok, [1, 5, 0x22, 1, 2, 0, 0, 0, 0, 0, 0, 0, 0, 0]) := by decide +kernel
theorem test_clearLineFault_clears : (((after (exec .clearLineFault (asks { running with
    line := running.line.set 5 { running.line[5] with fault := .failed, mismatch := 3 } } .A .clearLineFault
      [0, 0, 0, 0x20]))).line)[5]).fault = .ok := by decide +kernel

theorem test_historyPeriodBoundary_ages :
    ((((after (exec .historyPeriodBoundary { running with now := 1600000 })).line)[5]).shares.map Share.age) = [1, 1] := by
  decide +kernel
theorem test_historyPeriodBoundary_lapses : (((after (exec .historyPeriodBoundary { running with
    now := 1600000, line := running.line.set 5 { running.line[5] with shares := [⟨.B, true, 7⟩, ⟨.C, true, 6⟩] } })).line)[5]).shares
      = [⟨.C, true, 7⟩] := by decide +kernel

/-- Line 5 with READBACK on, a settle check since time 0 and two mismatches. -/
def checking : State := { running with
  now := 50
  line := running.line.set 5 { running.line[5] with readback := true, settle := some { start := 0, duration := 50 }, mismatch := 2 } }

theorem test_settleExpiry_fails : (((after (exec (.settleExpiry 5 true) checking)).line)[5]).fault = .failed := by
  decide +kernel
theorem test_settleExpiry_matches : (((after (exec (.settleExpiry 5 false) checking)).line)[5]).mismatch = 0 := by
  decide +kernel

/-- RUN at time 100 with the engine of line 5 given. -/
def engineAt (e : Engine) : State := { running with
  now := 100, line := running.line.set 5 { running.line[5] with engine := e, rest := 30 } }

theorem test_pulseEnd_rests : (((after (exec (.pulseEnd 5) (engineAt (.onPulse 100 false)))).line)[5]).engine
    = .resting 100 130 .none := by decide +kernel
theorem test_restEnd_starts : (((after (exec (.restEnd 5) (engineAt (.resting 70 100 (.pulse 9))))).line)[5]).engine
    = .onPulse 109 false := by decide +kernel
theorem test_restGuardEnd_removes :
    (((after (exec (.restGuardEnd 5) (engineAt (.off (some { fall := 70, endAt := 100 }))))).line)[5]).engine = .off none := by
  decide +kernel

/-! ## Timetable -/

/-- A forward step to `pos` waits at the Timetable and at every port's slots. -/
def stepping (s : State) (pos : Word32) : State :=
  { s with wires := { s.wires with timetableMotion := [.step true pos false]
                                   slotsMotion := PerPort.const [.step true pos false] } }

theorem test_stepAtTimetable_fires :
    (((after (exec .stepAtTimetable (stepping (withEntries running [armed 0 .B 0x60#32 (.pulse 4) 100]) 100))).line)[6]).engine
      = .onPulse 4 false := by decide +kernel
theorem test_stepAtTimetable_decides :
    (after (exec .stepAtTimetable (stepping (withEntries running [heldEntry 0 .B 3 200 100 .drop]) 100))).table.live = [] := by
  decide +kernel

theorem test_stepAtTimetable_tells_decision_before_fire :
    ((after (exec .stepAtTimetable (stepping (withEntries running
      [armed 0 .B 0x20#32 .on 100, heldEntry 1 .B 3 200 100 .fire]) 100))).wires.notices.get .B).map (fun n => n.notice.kind)
      = [.defaultApplied, .fired] := by decide +kernel

theorem test_cancelEntries_tag :
    answerOf .B (exec (.cancelEntries .B) (asks (withEntries running [armed 0 .B 0x20#32 .on 100, armed 1 .C 0x40#32 .on 100])
      .B .cancelEntries [1, 0, 12])) = some (.ok, [0, 1]) := by decide +kernel
theorem test_amendEntry_width : ((after (exec (.amendEntry .B) (asks (withEntries running [armed 0 .B 0x20#32 (.pulse 4) 100])
    .B .amendEntry [0, 1, 0, 0, 0, 200, 0, 9]))).table.live.map fun e => (e.fields.due, e.fields.action))
      = [(200, .pulse 9)] := by decide +kernel
theorem test_queryEntry_owner :
    answerOf .C (exec (.queryEntry .C) (asks (withEntries running [armed 0 .B 0x20#32 .on 100]) .C .queryEntry [0, 1]))
      = some (.noSuchEntry, []) := by decide +kernel
theorem test_readTableStatus_values :
    answerOf .C (exec (.readTableStatus .C) (asks (withEntries running [heldEntry 0 .B 3 90 80 .drop, armed 1 .C 0x20#32 .on 100])
      .C .readTableStatus [])) = some (.ok, [0, 2, 0, 0, 0, 1, 0, 1, 0, 0, 0, 0, 0, 100, 0, 1, 0]) := by decide +kernel
theorem test_verdict_keeps :
    answerOf .B (exec (.verdict .B) (asks (withEntries running [heldEntry 0 .B 3 90 80 .drop]) .B .verdict [0, 0, 3, 0x84, 3, 0]))
      = some (.ok, [0, 1, 0, 0]) := by decide +kernel

/-! ## Staging -/

/-- A POST body: flags, line 5, PULSE 4, due, tag 12. -/
def postBytes (flags : Byte) (due : Byte) : List Byte := [flags, 2, 0, 0, 0, 0x20, 0, 4, 0, 0, 0, due, 0, 12]

/-- Slot 0 of port B holds that post, due 100, with tag 12. -/
def staged : State := { running with slots := running.slots.set .B { running.slots.get .B with
  slot := #v[some { lines := 0x20, action := .pulse 4, due := 100, tag := some 12, report := false, noMerge := false }, none, none, none]
  age := [0] } }

theorem test_post_places :
    answerOf .B (exec (.post .B) (asks running .B .post (postBytes 8 100))) = some (.ok, [0, 0, 0]) := by decide +kernel
theorem test_post_merges :
    answerOf .B (exec (.post .B) (asks staged .B .post (postBytes 8 100))) = some (.ok, [0, 1, 0]) := by decide +kernel
/-- Four posts that differ in their due, 100 to 103, in the slots of port B. -/
def fourStaged : State :=
  let c (d : Word32) : Option SlotContent :=
    some { lines := 0x20, action := .pulse 4, due := d, tag := some 12, report := false, noMerge := false }
  { running with slots := running.slots.set .B { running.slots.get .B with
    slot := #v[c 100, c 101, c 102, c 103], age := [2, 0, 1, 3] } }

theorem test_post_full :
    answerOf .B (exec (.post .B) (asks fourStaged .B .post (postBytes 9 100))) = some (.ok, [2, 0, 1, 2, 2, 1, 0, 12, 0, 0, 1]) := by
  decide +kernel
theorem test_commit_admits :
    answerOf .B (exec (.commit .B) (asks staged .B .commit [])) = some (.ok, [1, 0, 0, 1, 0, 12, 0, 0, 1]) := by decide +kernel
theorem test_discardStaged_empties :
    answerOf .B (exec (.discardStaged .B) (asks staged .B .discardStaged [])) = some (.ok, [1]) := by decide +kernel
theorem test_stepAtSlots_leads :
    ((after (exec (.stepAtSlots .B) (stepping { staged with table := { staged.table with pos := 36 } } 36))).wires.notices.get
      .B).map (fun n => n.notice.kind) = [.commitDone] := by decide +kernel
theorem test_stepAtSlots_waits :
    ((after (exec (.stepAtSlots .B) (stepping staged 35))).slots.get .B).age = [0] := by decide +kernel

/-- The second proposal of the example in section 3.5.1: C is refused by B's entry, which ranks above. -/
theorem test_conflict_rows_of_section_3_5_1 :
    let q : TableLimits := { Params.default.limits with
      policy := (Params.default.policy.set 5 .priority).set 6 .merge
      guard := ((Params.default.guard.set 4 100).set 5 200).set 6 500 }
    let live := [armed 10 .C 0x20#32 .on 50000, armed 11 .A 0x20#32 .on 50500, armed 12 .D 0x50#32 .on 50020,
      armed 13 .B 0x60#32 .on 49850]
    conflictOutcome q .B (conflicts q .B 0x60#32 50100 live) = some [(armed 10 .C 0x20#32 .on 50000, 0x20#32)]
    ∧ conflictOutcome q .C (conflicts q .C 0x30#32 50250 [armed 10 .B 0x60#32 .on 50100]) = none
    ∧ conflictOutcome q .A (conflicts q .A 0x10#32 50050 live) = none := by decide +kernel

/-! ## Sensors and the log -/

theorem test_sensorRawChange_pends :
    (((after (exec (.sensorRawChange 2 true) running)).sensor)[2]).pend
      = some { start := 0, reading := { pos := 0, epoch := 0, frame := 0 } } := by decide +kernel

/-- S2 departed at time 0; SENSOR_EDGE of S2 is RISING. -/
def departed : State := { after (exec (.sensorRawChange 2 true) running) with
  now := 2
  control := { running.control with params := { Params.default with sensorEdge := Params.default.sensorEdge.set 2 .rising } } }

theorem test_sensorFilterExpiry_accepts :
    ((after (exec (.sensorFilterExpiry 2) departed)).wires.edges.map fun e => e.sensor) = [2] := by decide +kernel

/-- An accepted edge of S2 on its way to the log, to which B and C subscribe. -/
def edgeOnItsWay : State := { running with
  log := { running.log with subscription := ⟨0, 4, 4, 0⟩ }
  wires := { running.wires with edges := [{ sensor := 2, edge := .rising, reading := ⟨20000, 0, 0⟩, time := 5 }] } }

theorem test_captureEntry_enters : (after (exec (.captureEntry 0) edgeOnItsWay)).log.next = 1
    ∧ ((after (exec (.captureEntry 0) edgeOnItsWay)).wires.handOffs.map fun h => h.seq) = [0] := by decide +kernel
theorem test_subscribe_drops :
    answerOf .B (exec (.subscribe .B) (asks (after (exec (.captureEntry 0) edgeOnItsWay)) .B .subscribe [0])) = some (.ok, [1]) := by
  decide +kernel
theorem test_readCaptures_returns :
    (answerOf .B (exec (.readCaptures .B) (asks (after (exec (.captureEntry 0) edgeOnItsWay)) .B .readCaptures [1]))).map
      (fun x => x.2.take 2) = some [1, 0] := by decide +kernel

/-- A full log of 64 records of S2, each waiting for B alone, and one more edge on its way. -/
def fullLog : State := { edgeOnItsWay with log := { edgeOnItsWay.log with
  next := 64
  records := (List.range 64).map fun i => { seq := BitVec.ofNat 32 i, sensor := 2, edge := .rising, reading := ⟨0, 0, 0⟩, time := 0,
                                            outstanding := PortSet.empty.set .B true } } }

/-- The full log after B has read its oldest record. -/
def fullLogRead : State := after (exec (.readCaptures .B) (asks fullLog .B .readCaptures [1]))

theorem test_captureEntry_overwrites :
    let t := after (exec (.captureEntry 0) fullLog)
    t.log.records.length = 64 ∧ t.log.records.head?.map Capture.seq = some 1 ∧ t.log.lost.get .B = 1 := by decide +kernel
theorem test_captureEntry_overwrites_the_next_oldest :
    let t := after (exec (.captureEntry 0) fullLogRead)
    fullLogRead.log.records.length = 63 ∧ fullLogRead.log.overwriteDue = true ∧ t.log.overwriteDue = false
    ∧ t.log.records.length = 63 ∧ t.log.records.head?.map Capture.seq = some 2 ∧ t.log.lost.get .B = 1 := by decide +kernel

/-! ## Templates -/

/-- Capture 900 of S2 on its way to the Template Table, with template 3 of B defined. -/
def handingOff (v : VerdictMode) : State := { running with
  templates := { running.templates with place := running.templates.place.set 3 (some (template .B v)) }
  wires := { running.wires with handOffs := [{ seq := 900, sensor := 2, edge := .rising, reading := ⟨20000, 0, 0⟩, time := 5 }] } }

theorem test_captureHandOff_holds :
    ((after (exec .captureHandOff (handingOff (.required 1500 .drop)))).table.live.map fun e => (e.fields.due, e.fields.stage))
      = [(24000, .held 22500 .drop)] := by decide +kernel
theorem test_defineTemplate_defines :
    answerOf .B (exec (.defineTemplate .B) (asks running .B .defineTemplate
      [3, 2, 0, 0, 0, 0x40, 0, 0, 0, 0, 0, 0x0F, 0xA0, 1, 0, 0, 5, 0xDC, 1, 0])) = some (.ok, [3, 0]) := by decide +kernel
theorem test_deleteTemplate_owner :
    answerOf .C (exec (.deleteTemplate .C) (asks (handingOff .none) .C .deleteTemplate [3])) = some (.heldByOther, []) := by
  decide +kernel
theorem test_setTemplateState_suspends :
    answerOf .B (exec (.setTemplateState .B) (asks (handingOff .none) .B .setTemplateState [3, 1])) = some (.ok, [0]) := by
  decide +kernel
theorem test_queryTemplate_record :
    (answerOf .D (exec (.queryTemplate .D) (asks (handingOff .none) .D .queryTemplate [3]))).map (fun x => x.2.length) = some 23 := by
  decide +kernel

/-! ## Integrity, parameters, notices -/

theorem test_scrubVisit_moves : (after (exec .scrubVisit { running with now := 32 })).control.scrubPos = 1 := by decide +kernel
theorem test_scrubVisit_wraps : (after (exec .scrubVisit { running with
    now := 32, control := { running.control with scrubPos := 319 } })).control.scrubRounds = 1 := by decide +kernel
theorem test_corruptionFinding_line : (after (exec (.corruptionFinding .line) { running with
    wires := { running.wires with findings := [.entry 4, .line 5] } })).control.firstCause = some .recordCorrupt := by
  decide +kernel
theorem test_corruptionDecay_stops : (after (exec .corruptionDecay { running with
    wires := { running.wires with boundaries := 1 } })).control.corruption = 0 := by decide +kernel

theorem test_setParam_run :
    answerOf .A (exec .setParam (asks running .A .setParam [5, 0, 0, 0, 0, 9])) = some (.ok, [0, 0, 0, 9])
    ∧ answerOf .A (exec .setParam (asks running .A .setParam [6, 0, 0, 0, 0, 9])) = some (.wrongMode, []) := by decide +kernel
theorem test_setParam_rank :
    answerOf .A (exec .setParam (asks (blocksIn .config) .A .setParam [14, 0, 0, 0, 0, 1])) = some (.badField, [])
    ∧ answerOf .A (exec .setParam (asks (blocksIn .config) .A .setParam [14, 0, 0, 0, 0, 4])) = some (.ok, [0, 0, 0, 4]) := by
  decide +kernel
/-- After STOP a write of QUOTA waits at the Timetable for its emptying, and is taken with it. -/
theorem test_setParam_limits_follow_the_emptying :
    let t := after (exec .setParam (asks (after (exec .stop (asks running .A .stop []))) .A .setParam [13, 1, 0, 0, 0, 0]))
    t.control.params.quota.get .B = 0 ∧ t.table.limits.quota.get .B = 64
    ∧ (after (exec .timetableEmptying t)).table.limits.quota.get .B = 0
    ∧ (after (exec .timetableEmptying t)).wires.toTimetable = [] := by decide +kernel
theorem test_setParam_limits_at_once :
    (after (exec .setParam (asks (blocksIn .config) .A .setParam [13, 1, 0, 0, 0, 9]))).table.limits.quota.get .B = 9 := by
  decide +kernel
theorem test_getParam_value :
    answerOf .C (exec (.getParam .C) (asks running .C .getParam [14, 2])) = some (.ok, [0, 0, 0, 2]) := by decide +kernel
theorem test_readHealth_body :
    (answerOf .C (exec (.readHealth .C) (asks running .C .readHealth []))).map (fun x => (x.1, x.2.length)) = some (.ok, 22) := by
  decide +kernel

/-- Two notices on their way to port B. -/
def told : State :=
  let q : List PostedNotice := [⟨.timetable, false, Notice.bare .entryAbandoned⟩, ⟨.slots, false, Notice.bare .commitDone⟩]
  { running with wires := { running.wires with notices := running.wires.notices.set .B q } }

theorem test_noticeTaken_counts : ((after (exec (.noticeTaken .B 1) told)).notices.get .B).pendingSet = [(.commitDone, 1)]
    ∧ ((after (exec (.noticeTaken .B 0) told)).notices.get .B).alert = true := by decide +kernel
theorem test_readNotices_empties : (answerOf .B (exec (.readNotices .B) (asks (after (exec (.noticeTaken .B 0) told)) .B .readNotices
    []))).map (fun x => x.2.take 4) = some [1, 2, 1, 2] := by decide +kernel
theorem test_setNoticeMask_answers :
    answerOf .B (exec (.setNoticeMask .B) (asks running .B .setNoticeMask [0x40, 0])) = some (.ok, [0x3F, 0xFE])
    ∧ answerOf .B (exec (.setNoticeMask .B) (asks running .B .setNoticeMask [0x40, 1])) = some (.badField, []) := by
  decide +kernel

/-! ## Ports -/

theorem test_selectFall_opens : ((after (exec (.selectFall .B) running)).ports.get .B).state = .receiving
    ∧ ((after (exec (.selectFall .B) State.reset)).ports.get .B).nextByte = 0xEE := by decide +kernel
theorem test_selectRelease_counts :
    ((after (exec (.selectRelease .B) (after (exec (.selectFall .B) running)))).ports.get .B).framing = 1 := by decide +kernel

/-- The frame of READ_POSITION with sequence 7. -/
def readPositionFrame : List Byte := [5, 1, 7] ++ be16 (crc16 [5, 1, 7])

theorem test_requestFrame_handsOn :
    ((after (exec (.requestFrame .B readPositionFrame) (after (exec (.selectFall .B) running)))).ports.get .B).state = .working := by
  decide +kernel
theorem test_requestFrame_badLength :
    ((after (exec (.requestFrame .B [4]) (after (exec (.selectFall .B) running)))).ports.get .B).framing = 1 := by decide +kernel

/-- Port B with the reply of a taken READ_POSITION held. -/
def taken : State := after (exec (.readPosition .B) (asks running .B .readPosition []))

theorem test_replyReady_makes : ((after (exec (.replyReady .B) taken)).ports.get .B).nextByte = 0x7E := by decide +kernel
theorem test_replyMarkerSent_replies :
    ((after (exec (.replyMarkerSent .B) (after (exec (.replyReady .B) taken)))).ports.get .B).nextByte = 27 := by decide +kernel
theorem test_replySent_ends :
    ((after (exec (.replySent .B 27) (after (exec (.replyMarkerSent .B) (after (exec (.replyReady .B) taken)))))).ports.get .B).state
      = .idle := by decide +kernel
theorem test_portStatus_counts : answerOf .C (exec (.portStatus .C) (asks { running with
    ports := running.ports.set .C { running.ports.get .C with busy := 3 } } .C .portStatus [])) = some (.ok, [2, 0, 0, 0, 3]) := by
  decide +kernel
theorem test_resetPort_first : ((after (exec (.resetPort .B) (asks (handingOff .none) .B .resetPort []))).templates.place[3]) = none := by
  decide +kernel

/-! ## Steps -/

theorem test_step_takes_the_front : step { running with pending := [.safeinAssert, .stop] }
    = exec .safeinAssert { running with pending := [.stop] } := rfl
theorem test_step_idle_passes_time : (after (step State.reset)).now = 1 := by decide +kernel
theorem test_step_idle_visits : (after (step { State.reset with now := 32 })).control.scrubPos = 1 := by decide +kernel

/-! ## Witnesses: states and operands that meet the hypotheses of the statements -/

/-- A request that `asks` places waits. -/
theorem waits (s : State) (h : s.inReset = none) (p : Port) (k : ReqKind) (body : List Byte) :
    RequestWaits (asks s p k body) p k (work k body) := by
  refine ⟨h, ?_, rfl, rfl⟩
  cases p <;> rfl

theorem test_witness_TimePassesOnlyWhenNothingIsDue :
    (State.reset.pending = [] ∧ State.reset.inReset = none ∧ dueEvent State.reset = none)
    ∧ dueEvent { State.reset with now := 32 } = some .scrubVisit
    ∧ dueEvent { State.reset with now := 2000 } = some .initEnd
    ∧ (after (exec .powerOnReset running)).inReset = some .power := by decide +kernel

theorem test_witness_HardResets_and_ResetDevice :
    (after (exec .resetnAssert running)).inReset = some .pin ∧ running.inReset = none
    ∧ RequestWaits (asks running .A .resetDevice [1]) .A .resetDevice (work .resetDevice [1])
    ∧ RequestWaits (asks running .A .resetDevice []) .A .resetDevice (work .resetDevice [])
    ∧ ((after (exec (.selectRelease .A) (asks running .A .resetDevice []))).ports.get .A).cut = true
    ∧ (let t := after (exec .resetDevice (asks running .A .resetDevice []))
       (t.ports.get .A).selected = true ∧ t.control.softArmed = true ∧ t.inReset = none) :=
  ⟨by decide +kernel, rfl, waits _ rfl _ _ _, waits _ rfl _ _ _, by decide +kernel, by decide +kernel⟩

theorem test_witness_InitEnd_and_SafeCauses :
    (State.reset.control.mode = .init ∧ State.reset.pinSafeIn = false ∧ running.control.mode ≠ .init)
    ∧ ({ State.reset with pinSafeIn := true }).inReset = none
    ∧ (none ∉ running.wires.overrunAsks)
    ∧ (∃ pre post, [some 1, none, none] = pre ++ none :: post ∧ (none : Option Nat) ∉ pre) :=
  ⟨by decide, rfl, by decide, [some 1], [none], rfl, by decide⟩

theorem test_witness_SupervisorChangesTheMode :
    (RequestWaits (asks (blocksIn .config) .A .start []) .A .start (work .start [])
      ∧ (∀ r : Fin 4, (asks (blocksIn .config) .A .start []).control.params.portPriority[r] ≠ none))
    ∧ RequestWaits (asks (blocksIn .run) .A .stop [1]) .A .stop (work .stop [1])
    ∧ RequestWaits (asks (blocksIn .safe) .A .resume []) .A .resume (work .resume []) :=
  ⟨⟨waits _ rfl _ _ _, by decide +kernel⟩, waits _ rfl _ _ _, waits _ rfl _ _ _⟩

/-- The mode change from RUN to SAFE, handed on. -/
def toSafe (ready : Bool) : ModeChange := { old := .run, new := .safe, ready := ready }

theorem test_witness_Teardowns :
    safeOnItsWay.wires.toTimetable = [.change (toSafe true)] ∧ safeOnItsWay.wires.toSlots.get .B = [.change (toSafe true)]
    ∧ safeOnItsWay.wires.toTemplates = [.change (toSafe true)] ∧ safeOnItsWay.wires.toLines = [.change (toSafe false)]
    ∧ (after (exec .timetableEmptying safeOnItsWay)).wires.toLines = [.change (toSafe true)]
    ∧ (after (exec .stop (asks running .A .stop []))).wires.toLines
        = [.change { old := .run, new := .config, ready := false }] := by decide +kernel

theorem test_witness_OtherModeChanges :
    let t := after (exec .start (asks (blocksIn .config) .A .start []))
    let c : ModeChange := { old := .config, new := .run, ready := true }
    (t.wires.toTimetable = [.change c] ∧ t.wires.toSlots.get .C = [.change c] ∧ t.wires.toTemplates = [.change c]
      ∧ t.wires.toLog = [.change c] ∧ t.wires.toLines = [.change c] ∧ t.wires.timetableMotion = [])
    ∧ changesWaiting (after (exec (.modeChangeTakenAtBlock .lines) t)).wires.toLines
        < changesWaiting (after (exec (.modeChangeTakenAtBlock .lines) t)).wires.toTimetable := by decide +kernel

theorem test_witness_Quadrature :
    running.position.source = .quad ∧ quadForward false false true false ∧ quadForward false true false false
    ∧ running.position.refA = false ∧ running.position.refB = false := by
  refine ⟨rfl, ?_, ?_, rfl, rfl⟩ <;> simp [quadForward]

theorem test_witness_StepInputsAndTimers :
    (source .stepDir).position.refA = false ∧ (source .internal).position.rate ≤ (100#32 - 0#32).toNat
    ∧ (99#32 - 0#32).toNat < (source .internal).position.rate
    ∧ running.position.stallTime * 1000 ≤ (500000#32 - 0#32).toNat ∧ (499999#32 - 0#32).toNat < running.position.stallTime * 1000
    ∧ running.position.window * 1000 ≤ (10000#32 - 0#32).toNat ∧ (9999#32 - 0#32).toNat < running.position.window * 1000 := by
  decide +kernel

/-- Where no message waits, no write is due. -/
theorem oldestWrite_none {α : Type} (w : α → ParamWrite) (v : α) (q : List BlockMessage) : ¬OldestWrite w v [] q := by
  simp [OldestWrite]

/-- A write that waits alone is the oldest of its parameter. -/
theorem oldestWrite_first {α : Type} (w : α → ParamWrite) (v : α) : OldestWrite w v [.write (w v)] [] :=
  ⟨[], [], rfl, rfl, by simp⟩

theorem test_witness_ParameterWrites :
    OldestWrite (.rest 5) 9 (writing (.rest 5 9)).wires.toLines []
    ∧ OldestWrite .stallTime 7 [.write (.speedWindow 3), .write (.stallTime 7), .change (toSafe true)]
        [.write (.speedWindow 3), .change (toSafe true)]
    ∧ (∃ q, OldestWrite (.rest 5) 2000 restBehindStop.wires.toLines q)
    ∧ (∀ v q, ¬OldestWrite (.rest 5) v running.wires.toLines q)
    ∧ (9000#32 - 8000#32).toNat < 1001 ∧ 1000 ≤ (9000#32 - 8000#32).toNat := by
  exact ⟨oldestWrite_first _ _, ⟨[.write (.speedWindow 3)], [.change (toSafe true)], rfl, rfl, by simp⟩,
    ⟨_, [_], [], rfl, rfl, by simp⟩, oldestWrite_none _, by decide, by decide⟩

theorem test_witness_Readings :
    RequestWaits (asks running .B .readPosition []) .B .readPosition (work .readPosition [])
    ∧ RequestWaits (asks running .C .getParam [9, 31]) .C .getParam (work .getParam [9, 31])
    ∧ ParamId.ofBytes (9#8).toNat (31#8).toNat = some (.readback 31) ∧ ParamId.ofBytes (9#8).toNat (32#8).toNat = none
    ∧ RequestWaits (asks running .D .readHealth []) .D .readHealth (work .readHealth []) :=
  ⟨waits _ rfl _ _ _, waits _ rfl _ _ _, by decide, by decide, waits _ rfl _ _ _⟩

theorem test_witness_Presets :
    RequestWaits (asks (blocksIn .config) .A .presetPosition [0, 0, 0, 9]) .A .presetPosition (work .presetPosition [0, 0, 0, 9])
    ∧ (asks (blocksIn .config) .A .presetPosition [0, 0, 0, 9]).control.mode = .config
    ∧ (blocksIn .config).table.mode ≠ .run ∧ ((blocksIn .config).slots.get .B).mode ≠ .run
    := ⟨waits _ rfl _ _ _, by decide⟩

/-- The steps of a reversal in CONFIG, a preset, START and then the SAFE request: the first step, which asked for SAFE, has been
taken at the Timetable, and a preset stands behind the second, which waits for the emptying behind the change into RUN. -/
def presetBehindAskingStep : State :=
  let c : ModeChange := { old := .config, new := .run, ready := true }
  { blocksIn .config with
    table := { (blocksIn .config).table with askedSafe := true }
    lineBlock := { (blocksIn .config).lineBlock with mode := .run }
    control := { (blocksIn .config).control with mode := .safe }
    wires := { Wires.empty with
      timetableMotion := [.step false 7 false, .preset 9], overrunAsks := [some 2]
      toTimetable := [.change c, .change { c with old := .run, new := .safe }] } }

theorem test_stepAtTimetable_waits_for_the_emptying :
    (after (exec .stepAtTimetable presetBehindAskingStep)).table = presetBehindAskingStep.table
    ∧ (let r := after (exec (.modeChangeTakenAtBlock .timetable) presetBehindAskingStep)
       let t := after (exec .stepAtTimetable (after (exec .timetableEmptying r)))
       let u := after (exec (.presetAtBlock .timetable) t)
       r.table.mode = .run ∧ (after (exec .stepAtTimetable r)).table.pos = 0
       ∧ t.table.mode = .safe ∧ t.table.pos = 7 ∧ t.wires.overrunAsks = [] ∧ u.table.pos = 9) := by
  decide +kernel

/-- CONFIG after RESUME and START on the way: a step that asked for SAFE still waits at the Timetable, its request taken and the
emptying behind it done, and the Line Block has taken the change into RUN. -/
def settledStepBeforeRun : State :=
  let c : ModeChange := { old := .config, new := .run, ready := true }
  { blocksIn .config with
    wires := { Wires.empty with
      timetableMotion := [.step false 7 true], overrunAsks := [some 0], toTimetable := [.change c] } }

theorem test_run_waits_for_the_settled_step :
    exec (.modeChangeTakenAtBlock .timetable) settledStepBeforeRun = .next settledStepBeforeRun
    ∧ (let t := after (exec .stepAtTimetable settledStepBeforeRun)
       let u := after (exec (.modeChangeTakenAtBlock .timetable) t)
       t.table.pos = 7 ∧ u.table.mode = .run ∧ u.wires.toTimetable = []) := ⟨rfl, by decide +kernel⟩

theorem test_witness_RunMayBeTaken :
    RunMayBeTaken presetBehindAskingStep ∧ RunMayBeTaken (blocksIn .config) ∧ ¬RunMayBeTaken settledStepBeforeRun
    ∧ ¬RunMayBeTaken { blocksIn .config with wires := { Wires.empty with timetableMotion := [.preset 9] } }
    ∧ changesWaiting settledStepBeforeRun.wires.toLines < changesWaiting settledStepBeforeRun.wires.toTimetable :=
  ⟨.inl ⟨⟨_, _, _, _, rfl⟩, rfl, by decide⟩, .inr ⟨fun _ h => (nomatch h), by decide⟩,
   fun h => h.elim (fun w => nomatch w.2.1) fun r => r.2 (by decide),
   fun h => h.elim (fun w => nomatch w.2.1) fun r => r.1 9 (by decide), by decide⟩

theorem test_witness_StepReady :
    StepReady (stepping running 100) true 100 false []
    ∧ StepReady { stepping running 100 with
        table := { running.table with askedSafe := true }
        wires := { (stepping running 100).wires with overrunAsks := [some 0, none] } } true 100 false [] :=
  ⟨⟨rfl, rfl, fun h => nomatch h.2.1⟩, ⟨rfl, rfl, fun h => h.2.2 rfl⟩⟩

theorem test_witness_StepWaits :
    StepWaits presetBehindAskingStep ∧ .preset 9 ∈ presetBehindAskingStep.wires.timetableMotion
    ∧ changesWaiting presetBehindAskingStep.wires.toLines < changesWaiting presetBehindAskingStep.wires.toTimetable
    ∧ ¬StepWaits (stepping running 100) :=
  ⟨⟨⟨_, _, _, _, rfl⟩, rfl, by decide⟩, by decide, by decide, fun h => nomatch h.2.1⟩

/-- A forward step to 100 at a table with one entry due there, one decided there and one that stays. -/
def forwardReady : State :=
  stepping (withEntries running [armed 0 .B 0x60#32 (.pulse 4) 100, heldEntry 1 .B 3 200 100 .fire, armed 2 .C 0x20#32 .off 101]) 100

theorem forwardReady_table : TableLaw forwardReady.table := by
  refine ⟨by decide, by decide, by decide +kernel, fun p => ?_⟩
  cases p <;> decide

theorem test_witness_ForwardStep :
    StepReady forwardReady true 100 false [] ∧ TableLaw forwardReady.table ∧ DecisionsBeforeDues forwardReady.table
    := by
  refine ⟨⟨rfl, rfl, fun h => nomatch h.2.1⟩, forwardReady_table, ?_⟩
  intro e he d hd
  fin_cases he <;> simp_all [armed, heldEntry, Stage.decision]
  subst hd; decide

theorem test_witness_DueEntry :
    let s := stepping (withEntries running [armed 0 .B 0x60#32 (.pulse 4) 100, armed 2 .C 0x20#32 .off 101]) 100
    StepReady s true 100 false [] ∧ (∀ x ∈ s.table.live, x.index ≠ 0 → afterForwardStep 100 x = some x)
    ∧ armed 0 .B 0x60#32 (.pulse 4) 100 ∈ s.table.live := by
  refine ⟨⟨rfl, rfl, fun h => nomatch h.2.1⟩, by decide +kernel, by decide +kernel⟩

theorem test_witness_Admission :
    let s := withEntries running [armed 0 .B 0x20#32 .on 100]
    CodesMatch s 0x20#32 ∧ AllLeased s .C 0x20#32 ∧ ¬AllLeased s .D 0x20#32 ∧ s.table.mode = .run
    ∧ (1 ≤ (16777216#32 - s.table.pos).toNat ∧ (16777216#32 - s.table.pos).toNat ≤ 16777216)
    ∧ s.table.liveCount.get .C < s.table.limits.quota.get .C ∧ s.table.live.length < 256 := by
  refine ⟨?_, ?_, ?_, rfl, by decide, by decide, by decide⟩
  · intro l hl; revert l; decide +kernel
  · intro l hl; revert l; decide +kernel
  · intro h; exact absurd (h 5 (by decide)) (by decide +kernel)

theorem test_witness_TimetableRequests :
    RequestWaits (asks forwardReady .B .cancelEntries [3]) .B .cancelEntries (work .cancelEntries [3])
    ∧ TableLaw forwardReady.table ∧ parseCancel [4] = none
    ∧ (armed 0 .B 0x60#32 (.pulse 4) 100 ∈ forwardReady.table.live)
    ∧ RequestWaits (asks forwardReady .B .amendEntry [0, 1, 0, 0, 0, 9]) .B .amendEntry (work .amendEntry [0, 1, 0, 0, 0, 9])
    ∧ parseAmend [0, 1, 0, 0, 0, 9] = some { handle := ⟨0, 1⟩, due := 9, width := none }
    ∧ RequestWaits (asks forwardReady .B .verdict (be32 900 ++ [31, 1])) .B .verdict (work .verdict (be32 900 ++ [31, 1])) :=
  ⟨waits _ rfl _ _ _, forwardReady_table, by decide, by decide +kernel, waits _ rfl _ _ _, by decide, waits _ rfl _ _ _⟩

theorem staged_law : SlotsLaw (staged.slots.get .B) := by
  refine ⟨by decide, by decide, ?_⟩
  have only : ∀ i : Fin 4, i ≠ 0 → (staged.slots.get .B).slot[i] = none := by decide
  intro i j x y hx hy _ _ _
  have hi : i = 0 := by
    by_contra h; rw [only i h] at hx; exact absurd hx (by simp)
  have hj : j = 0 := by
    by_contra h; rw [only j h] at hy; exact absurd hy (by simp)
  rw [hi, hj]

theorem test_witness_Post :
    RequestWaits (asks staged .B .post (postBytes 8 100)) .B .post (work .post (postBytes 8 100))
    ∧ ((asks staged .B .post (postBytes 8 100)).slots.get .B).mode = .run ∧ SlotsLaw (staged.slots.get .B)
    ∧ (parsePost (postBytes 8 100)).isSome = true ∧ parsePost (postBytes 0x10 100) = none
    ∧ IsLowest 0x60#32 (fun l => !(running.line[l]).heldBy .D) 5
    ∧ windowStatus 36 100 = none ∧ (100#32 - 36#32).toNat ≤ (staged.slots.get .B).lead
    ∧ (staged.slots.get .B).lead < (100#32 - 35#32).toNat :=
  ⟨waits _ rfl _ _ _, by decide, staged_law, by decide, by decide, by unfold IsLowest; decide +kernel, by decide, by decide, by decide⟩

theorem fourStaged_law : SlotsLaw (fourStaged.slots.get .B) := by
  unfold SlotsLaw sameMergeKey
  refine ⟨by decide, by decide, ?_⟩
  have h : ∀ i j : Fin 4, (fourStaged.slots.get .B).slot[i].map SlotContent.due
      = (fourStaged.slots.get .B).slot[j].map SlotContent.due → i = j := by decide
  intro i j x y hx hy _ _ k
  exact h i j (by rw [hx, hy]; simp [k.1])

theorem test_witness_PostFull :
    RequestWaits (asks fourStaged .B .post (postBytes 9 100)) .B .post (work .post (postBytes 9 100))
    ∧ SlotsLaw (fourStaged.slots.get .B) ∧ (∀ k : Fin 4, (fourStaged.slots.get .B).slot[k] ≠ none)
    ∧ (fourStaged.slots.get .B).age = 2 :: [0, 1, 3]
    ∧ (let y := (fourStaged.commitSlot .B .full 2).1.slots.get .B
       y.slot[(2 : Fin 4)] = none ∧ ∀ k : Fin 4, k < 2 → y.slot[k] ≠ none) :=
  ⟨waits _ rfl _ _ _, fourStaged_law, by decide, rfl, by decide +kernel⟩

theorem test_witness_Commits_and_Lead :
    (staged.slots.get .B).age = 0 :: [] ∧ SlotsLaw (staged.slots.get .B)
    ∧ RequestWaits (asks staged .B .commit []) .B .commit (work .commit [])
    ∧ RequestWaits (asks staged .B .discardStaged []) .B .discardStaged (work .discardStaged [])
    ∧ (stepping staged 36).wires.slotsMotion.get .B = [.step true 36 false]
    ∧ OldestWrite .commitLead 9 ((writing (.commitLead 9)).wires.toSlots.get .B) []
    ∧ (∀ v q, ¬OldestWrite .commitLead v (running.wires.toSlots.get .B) q) :=
  ⟨rfl, staged_law, waits _ rfl _ _ _, waits _ rfl _ _ _, rfl, oldestWrite_first _ _, oldestWrite_none _⟩

theorem test_witness_LineRequests :
    RequestWaits (asks running .D .leaseLines (be32 0x20#32 ++ [1, 0])) .D .leaseLines (work .leaseLines (be32 0x20#32 ++ [1, 0]))
    ∧ LeaseRefused .D true running.line[5] ∧ ¬LeaseRefused .D false running.line[5]
    ∧ running.lineBlock.mode = .run ∧ AllLeased running .B 0x60#32 ∧ (0x60#32 : LineSet) ≠ 0
    ∧ RequestWaits (asks running .B .releaseLines (be32 0x60#32)) .B .releaseLines (work .releaseLines (be32 0x60#32))
    ∧ RequestWaits (asks running .A .revokeLines (be32 0x60#32)) .A .revokeLines (work .revokeLines (be32 0x60#32))
    ∧ RequestWaits (asks running .A .forceLines (be32 0x60#32 ++ [1])) .A .forceLines (work .forceLines (be32 0x60#32 ++ [1])) := by
  refine ⟨waits _ rfl _ _ _, ?_, ?_, rfl, ?_, by decide, waits _ rfl _ _ _, waits _ rfl _ _ _, waits _ rfl _ _ _⟩
  · unfold LeaseRefused; decide +kernel
  · unfold LeaseRefused; decide +kernel
  · intro l; revert l; decide +kernel

theorem running_lineLaw : running.lineLaw := by
  intro l; unfold LineLaw; revert l; decide +kernel

theorem test_witness_Boundary_and_Settle :
    running.lineLaw ∧ running.lineBlock.historyPeriod.micros ≤ (1600000#32 - running.lineBlock.historyStart).toNat
    ∧ (1599999#32 - running.lineBlock.historyStart).toNat < running.lineBlock.historyPeriod.micros
    ∧ (checking.line[5]).settle = some { start := 0, duration := 50 } ∧ 50 ≤ (checking.now - 0).toNat
    ∧ (true ≠ checking.driven 5 ∧ (checking.line[5]).force = .none ∧ (checking.line[5]).fault = .ok
        ∧ checking.control.params.faultThreshold ≤ (checking.line[5]).mismatch + 1) := by
  refine ⟨running_lineLaw, by decide +kernel, by decide +kernel, by decide +kernel, by decide, by decide +kernel⟩

theorem test_witness_SlotsLaw_everywhere : staged.slotsLaw := by
  intro p; cases p
  case B => exact staged_law
  all_goals exact ⟨by decide, by decide, fun i j x y hx _ _ _ _ =>
    absurd hx (by fin_cases i <;> simp [staged, running, heldShared, blocksIn, PerPort.get, PerPort.set, PerPort.const, Slots.initial, State.changeLine, State.setLine])⟩

theorem test_witness_Sensors :
    (departed.sensor[2]).pend = some { start := 0, reading := ⟨0, 0, 0⟩ }
    ∧ (departed.sensor[2]).filter ≤ (departed.now - 0).toNat ∧ (1#32 - 0#32).toNat < (departed.sensor[2]).filter
    ∧ 1 ≤ (running.sensor[2]).filter
    ∧ OldestWrite (.sensorFilter 2) 9 (writing (.sensorFilter 2 9)).wires.toLog []
    ∧ (∀ v q, ¬OldestWrite (.sensorFilter 2) v running.wires.toLog q) :=
  ⟨by decide, by decide, by decide, by decide, oldestWrite_first _ _, oldestWrite_none _⟩

theorem edgeOnItsWay_law : edgeOnItsWay.logLaw := by
  refine ⟨by decide, fun i h => absurd h (by simp [edgeOnItsWay, running, heldShared, blocksIn, State.changeLine, State.setLine, State.reset, State.afterReset, CaptureLog.initial]),
    fun c hc => absurd hc List.not_mem_nil, ?_⟩
  intro p; cases p <;> decide

theorem fullLog_law : fullLog.logLaw := by
  have h : ∀ i : Fin 64, (fullLog.log.records[i.val]?).map Capture.seq = some (64 - BitVec.ofNat 32 (64 - i.val)) := by
    decide +kernel
  refine ⟨by decide +kernel, fun i hi => ?_, fun c hc p => ?_, fun p => ?_⟩
  · have n : fullLog.log.records.length = 64 := by decide +kernel
    have k := h ⟨i, n ▸ hi⟩
    rw [List.getElem?_eq_getElem hi] at k
    rw [n]
    exact Option.some.inj k
  · revert c
    cases p <;> decide +kernel
  · cases p <;> decide

theorem test_witness_FullLog :
    fullLog.logLaw ∧ fullLog.log.records.length = 64 ∧ fullLog.wires.edges.length = 1
    ∧ (∃ o rest, fullLog.log.records = o :: rest ∧ o.outstanding.get .B = true ∧ o.outstanding.set .B false = PortSet.empty)
    ∧ fullLogRead.log.overwriteDue = true ∧ fullLogRead.log.records.length < 64 :=
  ⟨fullLog_law, by decide +kernel, rfl, ⟨_, _, rfl, by decide, by decide⟩, by decide +kernel, by decide +kernel⟩

theorem test_witness_Captures :
    edgeOnItsWay.logLaw ∧ edgeOnItsWay.wires.edges[0]? = some { sensor := 2, edge := .rising, reading := ⟨20000, 0, 0⟩, time := 5 }
    ∧ RequestWaits (asks edgeOnItsWay .B .subscribe [4]) .B .subscribe (work .subscribe [4])
    ∧ RequestWaits (asks edgeOnItsWay .B .readCaptures [6]) .B .readCaptures (work .readCaptures [6]) :=
  ⟨edgeOnItsWay_law, rfl, waits _ rfl _ _ _, waits _ rfl _ _ _⟩

theorem test_witness_Templates :
    (handingOff .none).templates.place[3] = some (template .B .none) ∧ (template .B .none).codeOk = true
    ∧ RequestWaits (asks running .B .defineTemplate []) .B .defineTemplate (work .defineTemplate [])
    ∧ CodesMatch running 0x40#32 ∧ AllLeased running .B 0x40#32
    ∧ RequestWaits (asks (handingOff .none) .B .deleteTemplate [3]) .B .deleteTemplate (work .deleteTemplate [3])
    ∧ RequestWaits (asks (handingOff .none) .B .setTemplateState [3, 1]) .B .setTemplateState (work .setTemplateState [3, 1])
    ∧ RequestWaits (asks (handingOff .none) .B .queryTemplate [3]) .B .queryTemplate (work .queryTemplate [3]) := by
  refine ⟨by decide +kernel, by decide, waits _ rfl _ _ _, ?_, ?_, waits _ rfl _ _ _, waits _ rfl _ _ _, waits _ rfl _ _ _⟩
  · intro l; revert l; decide +kernel
  · intro l; revert l; decide +kernel

theorem test_witness_TableReadings :
    RequestWaits (asks forwardReady .B .queryEntry [0, 1]) .B .queryEntry (work .queryEntry [0, 1])
    ∧ RequestWaits (asks forwardReady .B .readTableStatus []) .B .readTableStatus (work .readTableStatus [])
    ∧ RequestWaits (asks running .B .readLines (be32 0x7F#32)) .B .readLines (work .readLines (be32 0x7F#32))
    ∧ (linesOf 0x7F#32).length = 7 ∧ (linesOf 0xFF#32).length = 8 ∧ (linesOf 1#32).length = 1 :=
  ⟨waits _ rfl _ _ _, waits _ rfl _ _ _, waits _ rfl _ _ _, by decide, by decide, by decide⟩

theorem test_witness_Scrubber_and_Findings :
    running.control.scrubPos < 320 ∧ (31#32 - running.control.visitStart).toNat < 32 ∧ 32 ≤ (32#32 - running.control.visitStart).toNat
    ∧ (31 : LineNo).val + 288 = 319 ∧ (0 : TemplateNo).val + 256 = 256
    ∧ (∃ pre post, [Finding.entry 4, .line 5] = pre ++ .line 5 :: post ∧ ∀ j, Finding.line j ∉ pre) :=
  ⟨by decide, by decide, by decide, by decide, by decide, [.entry 4], [], rfl, by simp⟩

theorem test_witness_SetParam :
    RequestWaits (asks (blocksIn .config) .A .setParam (6 :: 31 :: be32 65535)) .A .setParam (work .setParam (6 :: 31 :: be32 65535))
    ∧ ParamId.ofBytes (6#8).toNat (31#8).toNat = some (.guard 31)
    ∧ valueAccepted (blocksIn .config).control (.guard 31) 65535 ∧ ¬valueAccepted (blocksIn .config).control (.guard 31) 65536
    ∧ ¬valueAccepted (blocksIn .config).control (.portPriority 0) 1 ∧ valueAccepted (blocksIn .config).control (.portPriority 0) 0 := by
  refine ⟨waits _ rfl _ _ _, by decide, ⟨by decide, by decide, by simp, by simp⟩, fun h => absurd h.2.1 (by decide), fun h => ?_, ?_⟩
  · exact absurd (h.2.2.2 0 rfl (by decide) 1 (by decide)) (by decide)
  · refine ⟨by decide, by decide, by simp, fun r hr _ k hk => ?_⟩
    have : r = 0 := by simpa using hr.symm
    subst this
    revert k; decide +kernel

theorem told_law : NoticeLaw told.control.mode (told.notices.get .B) := by
  refine ⟨by decide, by decide, by decide, by decide, ?_⟩
  constructor
  · intro h; exact absurd h (by decide)
  · rintro ⟨_, k, hk, _⟩; exact absurd hk (by simp [told, running, heldShared, blocksIn, State.changeLine, State.setLine, State.reset, State.afterReset, PerPort.const, PerPort.get, NoticeState.initial])

theorem test_witness_Notices :
    NoticeLaw told.control.mode (told.notices.get .B)
    ∧ (∃ pre n post, told.wires.notices.get .B = pre ++ n :: post ∧ pre.length = 1 ∧ ∀ e ∈ pre, e.source ≠ n.source)
    ∧ RequestWaits (asks told .B .readNotices []) .B .readNotices (work .readNotices [])
    ∧ RequestWaits (asks told .B .setNoticeMask (be16 0xFFFE#16)) .B .setNoticeMask (work .setNoticeMask (be16 0xFFFE#16)) :=
  ⟨told_law, ⟨[_], _, [], rfl, rfl, by decide⟩, waits _ rfl _ _ _, waits _ rfl _ _ _⟩

theorem test_witness_Ports :
    (running.ports.get .B).selected = false ∧ (running.ports.get .B).state = .idle
    ∧ (let r := (after (exec (.selectFall .B) running)).ports.get .B
       r.selected = true ∧ r.refusing = false ∧ r.state = .receiving)
    ∧ readPositionFrame.length = 5 ∧ be16 (crc16 [5, 1, 7]) = readPositionFrame.drop 3
    ∧ (∃ w, (taken.ports.get .B).work = some w ∧ ∃ st body, w.phase = .done st body)
    ∧ ((after (exec (.replyReady .B) taken)).ports.get .B).state = .replyReady
    ∧ RequestWaits (asks running .C .portStatus []) .C .portStatus (work .portStatus [])
    ∧ ((asks running .D .resetPort []).ports.get .D).work = some (work .resetPort []) := by
  refine ⟨by decide, by decide, by decide, by decide, by decide, ⟨_, rfl, _, _, rfl⟩, by decide +kernel, waits _ rfl _ _ _, rfl⟩

/-- What waits in O13, O51 and O52: a preset at the slots before RUN, a reply for its own notice, a port reset for a notice of
the slots. -/
theorem test_witness_Waits :
    (let c : ModeChange := { old := .config, new := .run, ready := true }
     let s : State := { blocksIn .config with
       wires := { Wires.empty with toSlots := PerPort.const [.change c], slotsMotion := PerPort.const [.preset 9] } }
     s.wires.toSlots.get .B = [.change c] ∧ (∃ v, .preset v ∈ s.wires.slotsMotion.get .B)
     ∧ exec (.modeChangeTakenAtBlock (.slots .B)) s = .next s)
    ∧ (∃ n ∈ (after (exec .stop (asks running .A .stop []))).wires.notices.get .A, n.own = true)
    ∧ (∃ n ∈ told.wires.notices.get .B, n.source = .slots ∨ n.source = .templateTable) := by
  refine ⟨⟨rfl, ⟨9, by decide⟩, rfl⟩, ⟨_, List.mem_singleton.mpr rfl, rfl⟩, ⟨_, List.mem_cons_of_mem _ (List.mem_singleton.mpr rfl), .inl rfl⟩⟩

/-- RUN with the lapse flag of port B's share of line 5 disturbed, and an entry and a template of B disturbed. -/
def disturbed : State :=
  let e := armed 0 .B 0x40#32 .on 100
  { withEntries (handingOff .none) [{ e with fields := { e.fields with report := false } }] with
    line := running.line.set 5 { running.line[5] with shares := [⟨.B, true, 0⟩, ⟨.C, false, 0⟩] } }

/-- Whether a code misses a disturbance is a free value (log 5): where it does not, the disturbed records meet the hypotheses of
the statements about corrupt records. -/
theorem test_witness_CorruptRecords
    (h : Config.codeMisses (disturbed.line[5]).code (disturbed.line[5]).covered = false)
    (k : ∀ e ∈ disturbed.table.live, Config.codeMisses e.code e.fields = false) :
    ¬CodesMatch disturbed 0x60#32 ∧ disturbed.table.mode = .run ∧ (disturbed.slots.get .B).mode = .run
    ∧ disturbed.templates.mode = .run ∧ (∀ e ∈ disturbed.table.live, e.codeOk = false)
    ∧ disturbed.templates.place[3] = some (template .B .none) := by
  have line : decide ((disturbed.line[5]).code = (disturbed.line[5]).covered) = false := by decide +kernel
  have entries : ∀ e ∈ disturbed.table.live, decide (e.code = e.fields) = false := by decide +kernel
  refine ⟨fun m => ?_, rfl, rfl, rfl, fun e he => ?_, by decide +kernel⟩
  · have hc : ((disturbed.line[5]).codeOk : Bool) = true := m 5 (by decide)
    simp only [LineRec.codeOk, codeAgrees] at hc
    rw [line, h] at hc
    exact nomatch hc
  · simp only [Entry.codeOk, codeAgrees]
    rw [entries e he, k e he]
    rfl

theorem test_witness_LimitsLaw : (blocksIn .run).limitsLaw ∧ (blocksIn .run).tableLaw ∧ ModeLaw (blocksIn .run)
    ∧ ∃ t, step (blocksIn .run) = .next t := by
  have ranks : ∀ r : Fin 4, Params.default.limits.portPriority[r] ≠ none := by decide
  have distinct : Params.default.limits.distinct := by unfold TableLimits.distinct; decide
  refine ⟨⟨⟨rfl, fun _ => ranks⟩, fun w r h => List.cons_ne_nil _ r h.symm, distinct, distinct, fun p => by cases p <;> decide,
      fun _ hx => absurd hx List.not_mem_nil⟩,
    ⟨by decide, by decide, fun _ he => absurd he List.not_mem_nil, fun p => by cases p <;> rfl⟩,
    ⟨rfl, rfl, fun p => by cases p <;> rfl, rfl, rfl, ?_, fun h => absurd rfl h, fun p h => absurd (by cases p <;> rfl) h,
      fun h => absurd rfl h⟩, ⟨_, rfl⟩⟩
  exact ⟨.inl List.suffix_rfl, fun i h => absurd h (by simp [changesOf, blocksIn, State.reset, State.afterReset, Wires.empty]),
    fun i h => absurd h (by simp [changesOf, blocksIn, State.reset, State.afterReset, Wires.empty]),
    fun i h => absurd h (by simp [changesOf, blocksIn, State.reset, State.afterReset, Wires.empty]),
    fun i h => absurd h (by simp [changesOf, blocksIn, State.reset, State.afterReset, Wires.empty])⟩

end Sys2Proof.Tests
end

/-! PROOFS. What a step event does (R9 to R15), how quadrature classifies a change of the pins (R5), and what a quadrature
error does (R6). -/

namespace Sys2Proof.Machine

/-! ## MOTION notices (R15) -/

/-- Posting a MOTION notice, or none, changes nothing but the notices on their way. -/
theorem notifyMotion_onlyNotices (s : State) (r : Option MotionReason) : OnlyNotices s (s.notifyMotion r) := by
  cases r with
  | none => rfl
  | some m => exact notifyAll_onlyNotices _ _ _

/-- Every port gets the MOTION notice of the reason, where there is one. -/
theorem notifyMotion_notices (s : State) (r : Option MotionReason) (p : Port) :
    (s.notifyMotion r).wires.notices.get p
      = s.wires.notices.get p ++ r.toList.map fun m => motionPosted m.code := by
  cases r with
  | none => simp [State.notifyMotion]
  | some m => exact notifyAll_notices _ _ _ _

/-- No step leads to STALLED (R12), so a step posts by the rows OVERRUN and MOVING of R15 alone. -/
theorem motionReason_motionNotices (old new : MotionState) (h : new ≠ .stalled) :
    (motionReason old new).toList.map (fun m => motionPosted m.code) = motionNotices old new := by
  unfold motionReason motionNotices
  by_cases enters : new = .overrun ∧ old ≠ .overrun
  · simp [enters, MotionReason.code]
  · have moves : (new = .forward ∨ new = .reverse) ↔ new ≠ .overrun := by cases new <;> simp at h ⊢
    by_cases leaves : old = .stalled
    · subst leaves
      have : new ≠ .overrun := by simpa using enters
      simp [this, h, moves, MotionReason.code]
    · simp [enters, leaves, h]

/-! ## The Position Unit in a step (R9, R10, R12) -/

/-- HW has nothing to catch up with exactly where it equals P. -/
theorem behind_eq_zero_iff (u : PositionUnit) : u.behind = 0 ↔ u.hw = u.p := by
  unfold PositionUnit.behind
  rw [← BitVec.toNat_zero (w := 32), ← BitVec.toNat_eq, BitVec.sub_eq_iff_eq_add, BitVec.zero_add]

/-- The motion state after a step is that of the table of R12. -/
theorem afterStep_eq_motionAfterStep (old : MotionState) (forward : Bool) (b limit : Nat) :
    old.afterStep forward b limit = motionAfterStep old forward (decide (limit < b)) := by
  by_cases within : b ≤ limit
  · have beyond : decide (limit < b) = false := by simpa using within
    rw [beyond]
    cases old <;> cases forward <;> simp [MotionState.afterStep, motionAfterStep, within]
  · have beyond : decide (limit < b) = true := by simpa using within
    rw [beyond]
    cases old <;> cases forward <;> simp [MotionState.afterStep, motionAfterStep, within]

/-- Every step leaves a moving state or OVERRUN (R12). -/
theorem motionAfterStep_ne_stalled (old : MotionState) (forward beyond : Bool) :
    motionAfterStep old forward beyond ≠ .stalled := by
  unfold motionAfterStep
  split_ifs <;> simp

/-- A step asks for SAFE as it enters OVERRUN, or backward in OVERRUN (R14). -/
theorem asksSafe_eq (old new : MotionState) (forward : Bool) :
    asksSafe old new forward = decide (new = .overrun ∧ (old ≠ .overrun ∨ forward = false)) := by
  cases forward <;> simp [asksSafe]

/-- The Position Unit of a state after a step in the direction given. -/
def State.unitAfterStep (s : State) (forward : Bool) : PositionUnit :=
  s.position.stepped s.now s.control.params.reverseLimit forward

/-- A forward step moves P up, the epoch as P wraps, and HW where P stands at it (R9). -/
theorem unitAfterStep_forward (s : State) : s.unitAfterStep true = { s.position with
    p := s.position.p + 1
    epoch := if s.position.p = 0xFFFFFFFF#32 then s.position.epoch + 1 else s.position.epoch
    hw := if s.position.hw = s.position.p then s.position.p + 1 else s.position.hw
    acc := s.position.acc + 1
    stallStart := some s.now
    motion := (s.unitAfterStep true).motion } := by
  simp [State.unitAfterStep, PositionUnit.stepped, PositionUnit.moved, behind_eq_zero_iff]

/-- A backward step moves P down and the epoch as P wraps, and leaves HW (R10). -/
theorem unitAfterStep_backward (s : State) : s.unitAfterStep false = { s.position with
    p := s.position.p - 1
    epoch := if s.position.p = 0 then s.position.epoch - 1 else s.position.epoch
    acc := s.position.acc - 1
    stallStart := some s.now
    motion := (s.unitAfterStep false).motion } := rfl

/-- The motion state after a step is judged by the behind distance after it (R12). -/
theorem unitAfterStep_motion (s : State) (forward : Bool) :
    let v := s.unitAfterStep forward
    v.motion = motionAfterStep s.position.motion forward
      (decide (s.control.params.reverseLimit < (v.hw - v.p).toNat)) :=
  afterStep_eq_motionAfterStep _ _ _ _

/-- A step changes nothing of the Position Unit but what R9 to R12 name. -/
theorem unitAfterStep_frame (s : State) (forward : Bool) :
    let v := s.unitAfterStep forward
    v = { s.position with
      p := v.p, epoch := v.epoch, hw := v.hw, acc := v.acc, motion := v.motion, stallStart := some s.now } := by
  cases forward <;> rfl

/-! ## A step event (R9 to R15) -/

/-- Whether a step taken in a state asks for SAFE (R14). -/
def State.stepAsks (s : State) (forward : Bool) : Bool :=
  asksSafe s.position.motion (s.unitAfterStep forward).motion forward

/-- The event that a step taken in a state hands to the Timetable and to every port's slots (R11). -/
def State.stepHanded (s : State) (forward : Bool) : MotionEvent :=
  .step forward (s.unitAfterStep forward).p (s.stepAsks forward)

/-- The state with a step taken, handed on and its notices posted, before its SAFE request is made. -/
def State.stepPosted (s : State) (forward : Bool) : State :=
  ((s.setPosition (s.unitAfterStep forward)).handMotion (s.stepHanded forward)).notifyMotion
    (motionReason s.position.motion (s.unitAfterStep forward).motion)

/-- A step event is the step posted, with a SAFE request where R14 asks for one. -/
theorem stepEvent_eq (s : State) (forward : Bool) : s.stepEvent forward =
    if s.stepAsks forward then
      (s.stepPosted forward).setWires { (s.stepPosted forward).wires with
        overrunAsks := (s.stepPosted forward).wires.overrunAsks ++ [none] }
    else s.stepPosted forward := rfl

/-- The SAFE request is no notice. -/
theorem stepEvent_wires_notices (s : State) (forward : Bool) :
    (s.stepEvent forward).wires.notices = (s.stepPosted forward).wires.notices := by
  rw [stepEvent_eq]
  split <;> rfl

/-- A step event moves the Position Unit, hands the step on with its SAFE request and posts notices; all else stays. -/
theorem stepEvent_frame (s : State) (forward : Bool) : s.stepEvent forward = { s with
    position := s.unitAfterStep forward
    wires := { s.wires with
      timetableMotion := s.wires.timetableMotion ++ [s.stepHanded forward]
      slotsMotion := s.wires.slotsMotion.map fun q => q ++ [s.stepHanded forward]
      overrunAsks := s.wires.overrunAsks ++ (if s.stepAsks forward then [none] else [])
      notices := (s.stepEvent forward).wires.notices } } := by
  have posted : s.stepPosted forward = _ := notifyMotion_onlyNotices _ _
  rw [stepEvent_wires_notices, stepEvent_eq]
  split
  · rw [posted]; rfl
  · rw [posted, List.append_nil]; rfl

/-- A step posts the MOTION notices of its change of motion state to every port (R15). -/
theorem stepEvent_notices (s : State) (forward : Bool) (p : Port) :
    (s.stepEvent forward).wires.notices.get p
      = s.wires.notices.get p ++ motionNotices s.position.motion (s.unitAfterStep forward).motion := by
  have moving : (s.unitAfterStep forward).motion ≠ .stalled := by
    rw [unitAfterStep_motion]; exact motionAfterStep_ne_stalled _ _ _
  rw [stepEvent_wires_notices, ← motionReason_motionNotices _ _ moving]
  exact notifyMotion_notices _ _ _

/-- A step event is a step taken at the Position Unit and handed on. -/
theorem stepEvent_stepTaken (s : State) (forward : Bool) : StepTaken s (s.stepEvent forward) forward := by
  have unit : (s.stepEvent forward).position = s.unitAfterStep forward :=
    congrArg State.position (stepEvent_frame s forward)
  have wires := congrArg State.wires (stepEvent_frame s forward)
  have slots : (s.stepEvent forward).wires.slotsMotion = s.wires.slotsMotion.map fun q => q ++ [s.stepHanded forward] :=
    congrArg (fun t : State => t.wires.slotsMotion) (stepEvent_frame s forward)
  have asks : s.stepAsks forward = decide ((s.unitAfterStep forward).motion = .overrun
      ∧ (s.position.motion ≠ .overrun ∨ forward = false)) := asksSafe_eq _ _ _
  unfold StepTaken
  simp only [unit, ← asks]
  refine ⟨?frame, unitAfterStep_frame s forward, ?up, ?down, unitAfterStep_motion s forward, ?handed, ?slots,
    stepEvent_notices s forward⟩
  case frame => rw [stepEvent_frame s forward]
  case up =>
    rintro rfl
    rw [unitAfterStep_forward s]
    exact ⟨rfl, rfl, rfl, rfl⟩
  case down =>
    rintro rfl
    rw [unitAfterStep_backward s]
    exact ⟨rfl, rfl, rfl, rfl⟩
  case handed =>
    rw [wires]
    rfl
  case slots =>
    intro p
    rw [slots, PerPort.get_map]
    rfl

/-! ## Quadrature (R5, R6) -/

/-- Neither phase changed: no transition. -/
theorem quadTransition_same (a b : Bool) : quadTransition a b a b = .none := by
  cases a <;> cases b <;> rfl

/-- One place forward in the sequence 00, 10, 11, 01, A takes the inverse of B's level and B takes A's. -/
theorem quadForward_iff (refA refB a b : Bool) : quadForward refA refB a b ↔ a = !refB ∧ b = refA := by
  cases refA <;> cases refB <;> simp [quadForward]

/-- One place forward in the sequence is a forward transition. -/
theorem quadTransition_forward (refA refB a b : Bool) (h : quadForward refA refB a b) :
    quadTransition refA refB a b = .forward := by
  obtain ⟨rfl, rfl⟩ := (quadForward_iff _ _ _ _).mp h
  cases b <;> cases refB <;> rfl

/-- A change whose way back is one place forward is a backward transition. -/
theorem quadTransition_backward (refA refB a b : Bool) (h : quadForward a b refA refB) :
    quadTransition refA refB a b = .backward := by
  obtain ⟨rfl, rfl⟩ := (quadForward_iff _ _ _ _).mp h
  cases b <;> cases refB <;> rfl

/-- Both phases changed: an error. -/
theorem quadTransition_error (refA refB a b : Bool) (ha : refA ≠ a) (hb : refB ≠ b) :
    quadTransition refA refB a b = .error := by
  obtain rfl : a = !refA := Bool.eq_not.mpr ha.symm
  obtain rfl : b = !refB := Bool.eq_not.mpr hb.symm
  cases refA <;> cases refB <;> rfl

/-- The state with the pair (a, b) at the pins and as the decoder's reference. -/
def State.observed (s : State) (a b : Bool) : State :=
  { s with pinA := a, pinB := b, position := { s.position with refA := a, refB := b } }

/-- What a transition does to the state whose reference is the observed pair (R5, R6). -/
def State.afterTransition (s : State) : Transition → State
  | .none => s
  | .forward => s.stepEvent true
  | .backward => s.stepEvent false
  | .error => s.quadratureError

/-- In QUAD a change of the pins does what its transition does to the state with the new reference. -/
theorem exec_motionInputChange_quad (s : State) (a b : Bool) (running : s.inReset = none)
    (quad : s.position.source = .quad) :
    exec (.motionInputChange a b) s
      = .next ((s.observed a b).afterTransition (quadTransition s.position.refA s.position.refB a b)) := by
  have decoded : s.motionPins a b = ({ s with pinA := a, pinB := b } : State).decode a b := by
    simp [State.motionPins, running]
  have taken : exec (.motionInputChange a b) s = .next (s.motionPins a b) := rfl
  rw [taken, decoded]
  unfold State.decode
  split
  case h_1 => cases quadTransition s.position.refA s.position.refB a b <;> rfl
  case h_2 stepDir => exact absurd (quad.symm.trans stepDir) (by decide)
  case h_3 internal => exact absurd (quad.symm.trans internal) (by decide)

/-- The saturating increment of a 16-bit count stops at 65,535. -/
theorem satInc_word16 (x : Word16) : satInc x = if x.toNat = 65535 then x else x + 1 := by
  have top : x = BitVec.allOnes 16 ↔ x.toNat = 65535 := BitVec.toNat_eq
  simp only [satInc, top]

/-- A quadrature error counts up and posts notices; all else stays (R6). -/
theorem quadratureError_frame (s : State) : s.quadratureError = { s with
    position := { s.position with quadErrors :=
      if s.position.quadErrors.toNat = 65535 then s.position.quadErrors else s.position.quadErrors + 1 }
    wires := { s.wires with notices := s.quadratureError.wires.notices } } := by
  rw [← satInc_word16]
  exact notifyMotion_onlyNotices _ _

/-- A quadrature error posts MOTION with QUAD_ERROR to every port (R6). -/
theorem quadratureError_notices (s : State) (p : Port) :
    s.quadratureError.wires.notices.get p = s.wires.notices.get p ++ [motionPosted 3] :=
  notifyMotion_notices _ _ _

/-- Settles O14: the transition decides the arm, and each arm is a step event, a quadrature error or nothing on the state
whose reference is the observed pair. -/
theorem quadratureChangesAreClassified : Obligations.QuadratureChangesAreClassified := by
  intro s a b running quad u r
  have taken := exec_motionInputChange_quad s a b running quad
  refine ⟨?same, ?forward, ?backward, ?error⟩
  case same =>
    intro ha hb
    have unmoved : quadTransition u.refA u.refB a b = .none := by rw [ha, hb]; exact quadTransition_same a b
    rw [taken, unmoved]
    rfl
  case forward =>
    intro h
    rw [taken, quadTransition_forward _ _ _ _ h]
    exact ⟨_, rfl, stepEvent_stepTaken r true⟩
  case backward =>
    intro h
    rw [taken, quadTransition_backward _ _ _ _ h]
    exact ⟨_, rfl, stepEvent_stepTaken r false⟩
  case error =>
    intro ha hb
    rw [taken, quadTransition_error _ _ _ _ ha hb]
    exact ⟨_, rfl, quadratureError_frame r, quadratureError_notices r⟩

end Sys2Proof.Machine

/-! PROOFS. LEASE_LINES: its body, the lowest line refused, and the table of leases (R24, R25). -/

namespace Sys2Proof.Machine

/-! ## Bodies that begin with a line set (R178) -/

/-- The field written from a line set reads as that line set. -/
theorem word32At_be32 (x : LineSet) (rest : List Byte) : word32At (be32 x ++ rest) 0 = x := by
  have hi : x.extractLsb' 24 8 ++ x.extractLsb' 16 8 = x.extractLsb' 16 16 :=
    BitVec.extractLsb'_append_extractLsb'_eq_extractLsb' rfl
  have lo : x.extractLsb' 8 8 ++ x.extractLsb' 0 8 = x.extractLsb' 0 16 :=
    BitVec.extractLsb'_append_extractLsb'_eq_extractLsb' rfl
  have all : x.extractLsb' 16 16 ++ x.extractLsb' 0 16 = x.extractLsb' 0 32 :=
    BitVec.extractLsb'_append_extractLsb'_eq_extractLsb' rfl
  change (x.extractLsb' 24 8 ++ x.extractLsb' 16 8) ++ (x.extractLsb' 8 8 ++ x.extractLsb' 0 8) = x
  rw [hi, lo, all, BitVec.extractLsb'_eq_self]

/-- Four bytes are the field of the word that they spell. -/
theorem be32_append (a b c d : BitVec 8) : be32 ((a ++ b) ++ (c ++ d)) = [a, b, c, d] := by
  have upper (n : Nat) : ((a ++ b) ++ (c ++ d)).extractLsb' (16 + n) 8 = (a ++ b).extractLsb' n 8 := by
    rw [BitVec.extractLsb'_append_eq_of_le (by omega)]
    congr 1
    omega
  have lower (n : Nat) (h : n + 8 ≤ 16) : ((a ++ b) ++ (c ++ d)).extractLsb' n 8 = (c ++ d).extractLsb' n 8 :=
    BitVec.extractLsb'_append_eq_of_add_le h
  simp only [be32, List.cons.injEq, and_true]
  exact ⟨(upper 8).trans BitVec.extractLsb'_append_eq_left, (upper 0).trans BitVec.extractLsb'_append_eq_right,
    (lower 8 (by omega)).trans BitVec.extractLsb'_append_eq_left,
    (lower 0 (by omega)).trans BitVec.extractLsb'_append_eq_right⟩

/-- A body of one line set that is not empty is accepted. -/
theorem parseLines_be32 (x : LineSet) (h : x ≠ 0) : parseLines (be32 x) = some x := by
  have read : word32At (be32 x) 0 = x := by simpa using word32At_be32 x []
  simp only [parseLines, read]
  exact if_pos ⟨rfl, h⟩

/-- Every body but that of one line set that is not empty is malformed. -/
theorem parseLines_malformed (b : List Byte) (h : ∀ x : LineSet, b = be32 x → x = 0) : parseLines b = none := by
  unfold parseLines
  rw [if_neg]
  rintro ⟨len, nonempty⟩
  obtain ⟨c, d, e, f, rfl⟩ := List.length_eq_four.mp len
  exact nonempty (h _ (be32_append c d e f).symm)

/-- A LEASE_LINES body with its fields in range is accepted. -/
theorem parseLease_fields (x : LineSet) (m f : Byte) (hx : x ≠ 0) (hm : m = 0 ∨ m = 1) (hf : f = 0 ∨ f = 1) :
    parseLease (be32 x ++ [m, f]) = some { lines := x, exclusive := m == 0, lapse := f == 1 } := by
  have mode : natAt (be32 x ++ [m, f]) 4 = m.toNat := rfl
  have lapse : natAt (be32 x ++ [m, f]) 5 = f.toNat := rfl
  have small (v : Byte) (h : v = 0 ∨ v = 1) : v.toNat ≤ 1 := by rcases h with rfl | rfl <;> decide
  have zero : decide (m.toNat = 0) = (m == 0) := by rcases hm with rfl | rfl <;> rfl
  have one : decide (f.toNat = 1) = (f == 1) := by rcases hf with rfl | rfl <;> rfl
  simp only [parseLease, word32At_be32, mode, lapse, zero, one]
  exact if_pos ⟨rfl, hx, small m hm, small f hf⟩

/-- Every other LEASE_LINES body is malformed. -/
theorem parseLease_malformed (b : List Byte)
    (h : ∀ (x : LineSet) (m f : Byte), b = be32 x ++ [m, f] → x = 0 ∨ 2 ≤ m.toNat ∨ 2 ≤ f.toNat) :
    parseLease b = none := by
  unfold parseLease
  rw [if_neg]
  rintro ⟨len, nonempty, mode, lapse⟩
  obtain ⟨c, d, e, f, front⟩ := List.length_eq_four.mp (show (b.take 4).length = 4 by simp [len])
  obtain ⟨m, l, rear⟩ := List.length_eq_two.mp (show (b.drop 4).length = 2 by simp [len])
  obtain rfl : b = [c, d, e, f, m, l] := by rw [← List.take_append_drop 4 b, front, rear]; rfl
  have mode : m.toNat ≤ 1 := mode
  have lapse : l.toNat ≤ 1 := lapse
  rcases h _ m l (by rw [be32_append]; rfl) with empty | big | big
  · exact nonempty empty
  · omega
  · omega

/-! ## The lowest line of a set that meets a test -/

/-- The first line that meets a test, in a list of ascending lines, is the lowest that does. -/
theorem find?_ascending (test : LineNo → Bool) (ls : List LineNo) (asc : ls.Pairwise (· < ·)) (l : LineNo)
    (mem : l ∈ ls) (meets : test l = true) (lowest : ∀ k : LineNo, k < l → k ∈ ls → test k = false) :
    ls.find? test = some l := by
  induction ls with
  | nil => simp at mem
  | cons k ls ih =>
    obtain ⟨below, asc⟩ := List.pairwise_cons.mp asc
    rcases List.mem_cons.mp mem with rfl | later
    · simp [meets]
    · have skipped : test k = false := lowest k (below l later) (List.mem_cons_self ..)
      rw [List.find?_cons_of_neg (by simp [skipped])]
      exact ih asc later fun j hj hmem => lowest j hj (List.mem_cons_of_mem _ hmem)

/-- The lines of a set ascend. -/
theorem linesOf_ascending (x : LineSet) : (linesOf x).Pairwise (· < ·) :=
  (List.pairwise_lt_finRange 32).filter _

/-- A search through a set finds the lowest line that meets the test. -/
theorem find?_lowest (x : LineSet) (test : LineNo → Bool) (l : LineNo) (h : IsLowest x test l) :
    (linesOf x).find? test = some l := by
  obtain ⟨mem, meets, lowest⟩ := h
  exact find?_ascending test _ (linesOf_ascending x) l ((mem_linesOf x l).mpr mem) meets
    fun k hk hmem => lowest k hk ((mem_linesOf x k).mp hmem)

/-- A search through a set finds nothing where no line meets the test. -/
theorem find?_linesOf_none (x : LineSet) (test : LineNo → Bool) (h : ∀ l, hasLine x l = true → test l = false) :
    (linesOf x).find? test = none := by
  rw [List.find?_eq_none]
  intro l hl
  simp [h l ((mem_linesOf x l).mp hl)]

/-! ## Requests at the Line Block -/

/-- A change of lines leaves the rest of the state. -/
theorem changeLines_eq (s : State) (x : LineSet) (f : LineRec → LineRec) :
    s.changeLines x f = { s with line := (s.changeLines x f).line } := changeLines_frame s x f

/-- A change of lines posts nothing. -/
theorem changeLines_notices (s : State) (x : LineSet) (f : LineRec → LineRec) :
    (s.changeLines x f).wires.notices = s.wires.notices := by
  rw [changeLines_eq]

/-- The Line Block takes requests on leases in CONFIG and RUN. -/
theorem leaseMode_iff (m : Mode) : leaseMode m = true ↔ m = .config ∨ m = .run := by
  cases m <;> simp [leaseMode]

/-- A request that leaves its port's notices untouched is answered over the handler's effect. -/
theorem serve_unnoticed {s : State} {p : Port} {k : ReqKind} {w : Work} (h : RequestWaits s p k w)
    (f : List Byte → State → State × Reply) (t : State) (r : Reply) (hf : f w.body s = (t, r))
    (same : t.wires.notices = s.wires.notices) : serve k p f s = .next (t.answer p w r.status r.body) := by
  rw [serve_waits h, hf, markOwn_same s t p (by rw [same])]
  rfl

/-! ## The table of leases (R25) -/

/-- A line is refused exactly where the table of R25 refuses it. -/
theorem leaseLine_isNone (p : Port) (b : LeaseBody) (r : LineRec) :
    (leaseLine p b r).isNone = true ↔ LeaseRefused p b.exclusive r := by
  unfold leaseLine LeaseRefused
  cases mode : r.leaseMode with
  | free => simp
  | exclusive => cases held : r.heldBy p <;> simp
  | shared =>
    cases held : r.heldBy p with
    | false => cases exclusive : b.exclusive <;> simp
    | true =>
      by_cases sole : r.shares.length = 1
      · simp [sole]
      · cases exclusive : b.exclusive <;> simp [sole]

/-- The lease mode of a request is the one of R25. -/
theorem leaseBody_mode (b : LeaseBody) : b.mode = requestedMode b.exclusive := rfl

/-- A granted line takes the mode and shares of the table of R25, its code computed anew. -/
theorem recode_leaseLine (p : Port) (b : LeaseBody) (r : LineRec) (law : LineLaw r)
    (granted : ¬LeaseRefused p b.exclusive r) :
    LineRec.recode r ((leaseLine p b r).getD r) = leased p b.exclusive b.lapse r := by
  obtain ⟨free, -⟩ := law
  unfold leased
  congr 1
  unfold leaseLine
  cases mode : r.leaseMode with
  | free =>
    have none_held : r.shares = [] := free.mp mode
    simp [LineRec.heldBy, none_held, leaseBody_mode, newShare]
  | exclusive =>
    have held : r.heldBy p = true := by simpa [LeaseRefused, mode] using granted
    simp [held, leaseBody_mode, setLapse]
  | shared =>
    cases held : r.heldBy p with
    | false =>
      have joins : b.exclusive = false := by simpa [LeaseRefused, mode, held] using granted
      simp [joins, newShare, mode.symm]
    | true =>
      by_cases sole : r.shares.length = 1
      · simp [sole, leaseBody_mode, setLapse]
      · have joins : b.exclusive = false := by simpa [LeaseRefused, mode, held, sole] using granted
        simp [sole, joins, setLapse, mode.symm]

/-! ## LEASE_LINES (R24) -/

theorem exec_leaseLines (p : Port) (s : State) : exec (.leaseLines p) s = serve .leaseLines p (leaseRequest p) s := rfl

/-- Outside CONFIG and RUN a lease is refused WRONG_MODE. -/
theorem leaseRequest_wrongMode (p : Port) (body : List Byte) (s : State) (shut : leaseMode s.lineBlock.mode = false) :
    leaseRequest p body s = (s, Reply.refuse .wrongMode) := by
  simp [leaseRequest, shut]

/-- A malformed lease is refused BAD_FIELD. -/
theorem leaseRequest_badField (p : Port) (body : List Byte) (s : State) (taken : leaseMode s.lineBlock.mode = true)
    (bad : parseLease body = none) : leaseRequest p body s = (s, Reply.refuse .badField) := by
  simp [leaseRequest, taken, bad]

/-- One refused line refuses the lease with the lowest such line. -/
theorem leaseRequest_heldByOther (p : Port) (body : List Byte) (s : State) (b : LeaseBody) (l : LineNo)
    (taken : leaseMode s.lineBlock.mode = true) (parsed : parseLease body = some b)
    (lowest : IsLowest b.lines (fun l => (leaseLine p b s.line[l]).isNone) l) :
    leaseRequest p body s = (s, { status := .heldByOther, body := [byte l.val] }) := by
  have found := find?_lowest _ _ _ lowest
  simp only [leaseRequest, taken, parsed, found, if_true]

/-- With no line refused every line of the set is granted. -/
theorem leaseRequest_granted (p : Port) (body : List Byte) (s : State) (b : LeaseBody)
    (taken : leaseMode s.lineBlock.mode = true) (parsed : parseLease body = some b)
    (granted : ∀ l, hasLine b.lines l = true → (leaseLine p b s.line[l]).isNone = false) :
    leaseRequest p body s = (s.changeLines b.lines fun r => (leaseLine p b r).getD r, Reply.ok []) := by
  have found := find?_linesOf_none _ _ granted
  simp only [leaseRequest, taken, parsed, found, if_true]

/-- Settles O31: the checks of R24 in their order, then the table of R25 line by line. -/
theorem leasesAreGrantedByTheTable : Obligations.LeasesAreGrantedByTheTable := by
  intro s p w waits
  rw [exec_leaseLines]
  refine ⟨fun notConfig notRun => ?_, fun takes => ?_⟩
  · have shut : leaseMode s.lineBlock.mode = false := by
      rw [← Bool.not_eq_true, leaseMode_iff]; simp [notConfig, notRun]
    exact serve_kept waits _ _ (leaseRequest_wrongMode p w.body s shut)
  have taken := (leaseMode_iff _).mpr takes
  refine ⟨fun bad => ?badField, fun x m f body nonempty mode lapse => ?_⟩
  case badField => exact serve_kept waits _ _ (leaseRequest_badField p w.body s taken (parseLease_malformed _ bad))
  have parsed : parseLease w.body = some { lines := x, exclusive := m == 0, lapse := f == 1 } :=
    body ▸ parseLease_fields x m f nonempty mode lapse
  refine ⟨fun l mem refused lowest => ?heldByOther, fun granted law => ?granted⟩
  case heldByOther =>
    refine serve_kept waits _ _ (leaseRequest_heldByOther p w.body s _ l taken parsed ⟨mem, ?_, fun k hk hmem => ?_⟩)
    · exact (leaseLine_isNone _ _ _).mpr refused
    · exact Bool.eq_false_iff.mpr fun h => lowest k hk hmem ((leaseLine_isNone _ _ _).mp h)
  case granted =>
    have change := leaseRequest_granted p w.body s _ taken parsed fun l hl =>
      Bool.eq_false_iff.mpr fun h => granted l hl ((leaseLine_isNone _ _ _).mp h)
    refine ⟨_, serve_unnoticed waits _ _ _ change (changeLines_notices _ _ _), changeLines_eq _ _ _, fun l => ?_⟩
    rw [changeLines_line]
    split
    · next hl => exact recode_leaseLine p _ _ (law l) (granted l hl)
    · rfl

end Sys2Proof.Machine

/-! PROOFS. Cuts one after another: each record is cut once, for its owner (R26). -/

namespace Sys2Proof.Machine

/-! ## Folds over distinct items -/

/-- A view that no item of the list touches is kept by the fold. -/
theorem foldl_untouched {σ α β : Type} (f : σ → α → σ) (view : σ → β) (a : α)
    (other : ∀ t b, b ≠ a → view (f t b) = view t) (l : List α) (absent : a ∉ l) (s : σ) :
    view (l.foldl f s) = view s := by
  induction l generalizing s with
  | nil => rfl
  | cons b l ih =>
    obtain ⟨differs, absent⟩ := not_or.mp fun h => absent (List.mem_cons.mpr h)
    exact (ih absent _).trans (other s b (Ne.symm differs))

/-- Where only item `a` touches the view, and makes it of what the other items leave alone, the fold makes it of the start. -/
theorem foldl_touched_once {σ α β γ : Type} (f : σ → α → σ) (before : σ → β) (after : σ → γ) (g : β → γ)
    (a : α) (touched : ∀ t, after (f t a) = g (before t)) (before_other : ∀ t b, b ≠ a → before (f t b) = before t)
    (after_other : ∀ t b, b ≠ a → after (f t b) = after t) (l : List α) (nodup : l.Nodup) (mem : a ∈ l) (s : σ) :
    after (l.foldl f s) = g (before s) := by
  induction l generalizing s with
  | nil => simp at mem
  | cons b l ih =>
    obtain ⟨absent, nodup⟩ := List.nodup_cons.mp nodup
    rw [List.foldl_cons]
    by_cases here : b = a
    · subst here
      rw [foldl_untouched f after b after_other l absent, touched]
    · have later : a ∈ l := (List.mem_cons.mp mem).resolve_left (Ne.symm here)
      rw [ih nodup later, before_other s b here]

/-! ## Cuts of owned records -/

/-- A cut of single records for port `p`: a record of another port stays, and no record changes its owner. -/
structure CutsOwnedBy {α : Type} (owner : α → Port) (p : Port) (c : α → Option α) : Prop where
  elsewhere : ∀ a, owner a ≠ p → c a = some a
  keepsOwner : ∀ a b, c a = some b → owner b = owner a

/-- The records of another port come through a cut as they were. -/
theorem CutsOwnedBy.filter_other {α : Type} {owner : α → Port} {p : Port} {c : α → Option α} (h : CutsOwnedBy owner p c)
    (q : Port) (hq : q ≠ p) (l : List α) :
    (l.filterMap c).filter (fun a => owner a == q) = l.filter fun a => owner a == q := by
  induction l with
  | nil => rfl
  | cons a l ih =>
    by_cases own : owner a = p
    · have skipped : ¬(owner a = q) := own ▸ hq.symm
      cases cut : c a with
      | none => simp [cut, skipped, ih]
      | some b => simp [cut, h.keepsOwner a b cut, skipped, ih]
    · rw [List.filterMap_cons_some (h.elsewhere a own), List.filter_cons, List.filter_cons, ih]

/-- Of the owned records a cut leaves as many as it does not remove. -/
theorem CutsOwnedBy.length_filter {α : Type} {owner : α → Port} {p : Port} {c : α → Option α} (h : CutsOwnedBy owner p c)
    (q : Port) (l : List α) :
    ((l.filterMap c).filter fun a => owner a == q).length
      = ((l.filter fun a => owner a == q).filter fun a => (c a).isSome).length := by
  induction l with
  | nil => rfl
  | cons a l ih =>
    cases cut : c a with
    | none => cases own : owner a == q <;> simp [own, cut, ih]
    | some b => cases own : owner a == q <;> simp [h.keepsOwner a b cut, own, cut, ih]

/-- Cuts for distinct ports, one after another, cut a record once, for its owner. -/
theorem foldl_cuts_record {α : Type} {owner : α → Port} {c : Port → α → Option α} (h : ∀ p, CutsOwnedBy owner p (c p))
    (ps : List Port) (nodup : ps.Nodup) (a : α) :
    ps.foldl (fun o p => o.bind (c p)) (some a) = if owner a ∈ ps then c (owner a) a else some a := by
  have gone (ps : List Port) : ps.foldl (fun o p => o.bind (c p)) none = none := List.foldl_fixed' (fun _ => rfl) ps
  induction ps generalizing a with
  | nil => simp
  | cons p ps ih =>
    obtain ⟨absent, distinct⟩ := List.nodup_cons.mp nodup
    rw [List.foldl_cons, Option.bind_some]
    by_cases own : owner a = p
    · subst own
      rw [if_pos (List.mem_cons_self ..)]
      cases cut : c (owner a) a with
      | none => exact gone ps
      | some b => rw [ih distinct, (h _).keepsOwner a b cut, if_neg absent]
    · rw [(h p).elsewhere a own, ih distinct]
      simp [own]

/-- Cuts for all four ports, one after another, cut a record once, for its owner. -/
theorem foldl_cuts_all {α : Type} {owner : α → Port} {c : Port → α → Option α} (h : ∀ p, CutsOwnedBy owner p (c p))
    (o : Option α) : Port.all.foldl (fun o p => o.bind (c p)) o = o.bind fun a => c (owner a) a := by
  cases o with
  | none => rfl
  | some a => rw [foldl_cuts_record h _ Port.all_nodup, if_pos (Port.mem_all _), Option.bind_some]

/-- Removing from a list by one test after another is removing by the tests together. -/
theorem foldl_filterMap {α β : Type} (c : β → α → Option α) (ps : List β) (l : List α) :
    ps.foldl (fun l p => l.filterMap (c p)) l
      = l.filterMap fun a => ps.foldl (fun o p => o.bind (c p)) (some a) := by
  induction ps generalizing l with
  | nil => exact List.filterMap_some.symm
  | cons p ps ih =>
    rw [List.foldl_cons, ih, List.filterMap_filterMap]
    congr 1
    funext a
    rw [List.foldl_cons, Option.bind_some]
    cases c p a with
    | none => exact (List.foldl_fixed' (fun _ => rfl) ps).symm
    | some b => rfl

/-! ## One cut (R26) -/

/-- The template that a cut for port `p` leaves of one template. -/
def cutTemplate (p : Port) (x : LineSet) (m : Template) : Option Template := cutPlace p x (some m)

theorem cutPlace_eq_bind (p : Port) (x : LineSet) (o : Option Template) : cutPlace p x o = o.bind (cutTemplate p x) := by
  cases o <;> rfl

theorem cutEntry_owned (p : Port) (x : LineSet) : CutsOwnedBy (fun e : Entry => e.fields.owner) p (cutEntry p x) where
  elsewhere e h := if_pos (.inl h)
  keepsOwner e f h := by
    unfold cutEntry at h
    split at h
    · rw [Option.some.inj h]
    · obtain ⟨_, -, rfl⟩ := Option.map_eq_some_iff.mp h
      rfl

theorem cutTemplate_owned (p : Port) (x : LineSet) :
    CutsOwnedBy (fun m : Template => m.fields.owner) p (cutTemplate p x) where
  elsewhere m h := if_pos (.inl h)
  keepsOwner m n h := by
    simp only [cutTemplate, cutPlace, Option.bind_some] at h
    split at h
    · rw [Option.some.inj h]
    · obtain ⟨_, -, rfl⟩ := Option.map_eq_some_iff.mp h
      rfl

/-- A cut of no line leaves every entry. -/
theorem cutEntry_zero (p : Port) (e : Entry) : cutEntry p 0 e = some e := if_pos (.inr BitVec.and_zero)

/-- A cut of no line leaves every template. -/
theorem cutPlace_zero (p : Port) (o : Option Template) : cutPlace p 0 o = o := by
  cases o with
  | none => rfl
  | some m => exact if_pos (.inr BitVec.and_zero)

/-- An entry of the port leaves by a cut exactly where it names a line of the set and no other. -/
theorem cutEntry_isNone (p : Port) (x : LineSet) (e : Entry) (own : e.fields.owner = p) :
    (cutEntry p x e).isNone = (decide (e.fields.lines &&& x ≠ 0) && (cutSet x e.fields.lines).isNone) := by
  unfold cutEntry
  by_cases named : e.fields.lines &&& x = 0
  · rw [if_pos (.inr named), decide_eq_false (not_not.mpr named)]
    rfl
  · rw [if_neg (not_or.mpr ⟨not_not.mpr own, named⟩), decide_eq_true named, Option.isNone_map]
    rfl

/-- A port's live entries are those that a cut for it leaves and those it removes. -/
theorem ownedBy_cut_same (s : State) (p : Port) (x : LineSet) :
    ownedBy (s.cut p x).table.live p + (cutCounts s p x).entriesRemoved = ownedBy s.table.live p := by
  have left : ownedBy (s.cut p x).table.live p
      = ((s.table.live.filter fun e => e.fields.owner == p).filter fun e => (cutEntry p x e).isSome).length :=
    (cutEntry_owned p x).length_filter p _
  have removed : (cutCounts s p x).entriesRemoved
      = ((s.table.live.filter fun e => e.fields.owner == p).filter fun e => !(cutEntry p x e).isSome).length := by
    refine congrArg List.length (List.filter_congr fun e he => ?_)
    have own : e.fields.owner = p := by simpa using (List.mem_filter.mp he).2
    rw [Option.not_isSome, cutEntry_isNone p x e own]
  rw [left, removed]
  exact (List.length_eq_length_filter_add _).symm

/-- A cut leaves the number of another port's live entries. -/
theorem ownedBy_cut_other (s : State) (p q : Port) (x : LineSet) (h : q ≠ p) :
    ownedBy (s.cut p x).table.live q = ownedBy s.table.live q :=
  congrArg List.length ((cutEntry_owned p x).filter_other q h _)

/-- The live counts are the counts of the table's entries (R51). -/
def State.liveCounted (s : State) : Prop := ∀ q, s.table.liveCount.get q = ownedBy s.table.live q

/-- A cut keeps live counts that count. -/
theorem cut_liveCounted (s : State) (p : Port) (x : LineSet) (h : s.liveCounted) : (s.cut p x).liveCounted := by
  intro q
  have count : (s.cut p x).table.liveCount
      = s.table.liveCount.set p (s.table.liveCount.get p - (cutCounts s p x).entriesRemoved) := rfl
  rw [count, PerPort.get_set]
  split
  · next same =>
    subst same
    rw [h q, ← ownedBy_cut_same s q x, Nat.add_sub_cancel]
  · next other => rw [h q, ownedBy_cut_other s p q x other]

/-- The templates that stand in the table come through a cut for port `p` one by one. -/
theorem cut_templates (s : State) (p : Port) (x : LineSet) :
    (s.cut p x).templates.place.toList.filterMap id
      = (s.templates.place.toList.filterMap id).filterMap (cutTemplate p x) := by
  have place : (s.cut p x).templates.place = s.templates.place.map (cutPlace p x) := rfl
  rw [place, Vector.toList_map, List.filterMap_map, List.filterMap_filterMap]
  exact List.filterMap_congr fun o _ => cutPlace_eq_bind p x o

/-- A cut leaves what a cut for another port counts. -/
theorem cutCounts_cut_other (s : State) (p q : Port) (x y : LineSet) (h : q ≠ p) :
    cutCounts (s.cut p x) q y = cutCounts s q y := by
  have slots : (s.cut p x).slots.get q = s.slots.get q := PerPort.get_set_other _ _ _ _ h
  have entries : (s.cut p x).table.live.filter (fun e => e.fields.owner == q)
      = s.table.live.filter fun e => e.fields.owner == q := (cutEntry_owned p x).filter_other q h _
  have templates : ((s.cut p x).templates.place.toList.filterMap id).filter (fun m => m.fields.owner == q)
      = (s.templates.place.toList.filterMap id).filter fun m => m.fields.owner == q := by
    rw [cut_templates]
    exact (cutTemplate_owned p x).filter_other q h _
  simp only [cutCounts, slots, entries, templates]

end Sys2Proof.Machine

/-! PROOFS. RELEASE_LINES and REVOKE_LINES: the shares dropped (R21), the cuts, and what the former holders are told (R28,
R29). -/

namespace Sys2Proof.Machine
/-! ## Dropped shares (R21) -/

/-- A line that the port holds loses its share as R21 says. -/
theorem recode_dropShare (p : Port) (r : LineRec) (held : r.heldBy p = true) :
    LineRec.recode r (r.dropShare p) = withoutShares (fun h => h.port == p) r := by
  have test : (fun h : Share => !(h.port == p)) = fun h => decide (h.port ≠ p) := by
    funext h
    simp [Bool.beq_eq_decide_eq]
  have dropped : r.shares.filter (fun h => decide (h.port ≠ p)) ≠ r.shares := by
    obtain ⟨h, mem, own⟩ := List.any_eq_true.mp held
    rw [Ne, List.filter_eq_self]
    intro all
    exact of_decide_eq_true (all h mem) (by simpa using own)
  unfold withoutShares LineRec.dropShare
  simp only [test, if_neg dropped]

/-- A line whose mode agrees with its shares loses them all as R21 says. -/
theorem recode_unleased (r : LineRec) (law : LineLaw r) :
    LineRec.recode r r.unleased = withoutShares (fun _ => true) r := by
  obtain ⟨free, -⟩ := law
  have none_left : r.shares.filter (fun _ => !true) = [] := by simp
  simp only [withoutShares, none_left, if_true]
  split
  · next unheld =>
    have same : r.unleased = r := by
      unfold LineRec.unleased
      rw [← free.mpr unheld.symm, unheld]
    rw [same]
    exact if_pos rfl
  · rfl

/-! ## RELEASE_LINES (R28) -/

theorem exec_releaseLines (p : Port) (s : State) :
    exec (.releaseLines p) s = serve .releaseLines p (releaseRequest p) s := rfl

/-- Outside CONFIG and RUN a release is refused WRONG_MODE. -/
theorem releaseRequest_wrongMode (p : Port) (body : List Byte) (s : State) (shut : leaseMode s.lineBlock.mode = false) :
    releaseRequest p body s = (s, Reply.refuse .wrongMode) := by
  simp [releaseRequest, shut]

/-- A malformed release is refused BAD_FIELD. -/
theorem releaseRequest_badField (p : Port) (body : List Byte) (s : State) (taken : leaseMode s.lineBlock.mode = true)
    (bad : parseLines body = none) : releaseRequest p body s = (s, Reply.refuse .badField) := by
  simp [releaseRequest, taken, bad]

/-- A line not leased to the port refuses the release with the lowest such line. -/
theorem releaseRequest_notLeased (p : Port) (body : List Byte) (s : State) (x : LineSet) (l : LineNo)
    (taken : leaseMode s.lineBlock.mode = true) (parsed : parseLines body = some x)
    (lowest : IsLowest x (fun l => !(s.line[l]).heldBy p) l) :
    releaseRequest p body s = (s, { status := .notLeased, body := [byte l.val] }) := by
  have found : s.firstUnleased p x = some l := find?_lowest _ _ _ lowest
  simp only [releaseRequest, taken, parsed, found, if_true]

/-- With every line leased to the port the shares are dropped and the lines cut. -/
theorem releaseRequest_released (p : Port) (body : List Byte) (s : State) (x : LineSet)
    (taken : leaseMode s.lineBlock.mode = true) (parsed : parseLines body = some x) (leases : AllLeased s p x) :
    releaseRequest p body s = ((s.changeLines x (LineRec.dropShare p)).cut p x, Reply.ok (cutCounts s p x).bytes) := by
  have found : s.firstUnleased p x = none := find?_linesOf_none _ _ fun l hl => by rw [leases l hl]; rfl
  simp only [releaseRequest, taken, parsed, found, if_true]

/-! ## One port's part of a revoke (R29) -/

/-- What a port is told of a revoke that took the lines `y` from it, with the counts of their cut (R29). -/
def revokeTold (y : LineSet) (c : CutCounts) : List PostedNotice :=
  if y = 0 then [] else
    [{ source := .lineBlock, own := false,
       notice := { Notice.bare .leaseRevoked with line := (linesOf y).head?, count := some c.touched } }]

section
variable (s : State) (p : Port) (y : LineSet)

/-- Another port's slots stay; the port's own are cut where it held a line. -/
theorem revokePort_slots (q : Port) : (s.revokePort p y).slots.get q
    = if q = p ∧ y ≠ 0 then Slots.cut y (s.slots.get q) else s.slots.get q := by
  unfold State.revokePort
  by_cases unheld : y = 0
  · rw [if_pos unheld, if_neg fun h => h.2 unheld]
  · have cut : ((s.cut p y).notify .lineBlock p
        { Notice.bare .leaseRevoked with line := lowestLine y, count := some (cutCounts s p y).touched }).slots
          = s.slots.set p (Slots.cut y (s.slots.get p)) := rfl
    rw [if_neg unheld, cut, PerPort.get_set]
    by_cases same : q = p
    · subst same
      rw [if_pos rfl, if_pos ⟨rfl, unheld⟩]
    · rw [if_neg same, if_neg fun h => same h.1]

/-- The live entries are those of the cut. -/
theorem revokePort_live : (s.revokePort p y).table.live = s.table.live.filterMap (cutEntry p y) := by
  unfold State.revokePort
  split
  · next unheld =>
    subst unheld
    exact ((List.filterMap_congr fun e _ => cutEntry_zero p e).trans List.filterMap_some).symm
  · rfl

/-- The templates are those of the cut. -/
theorem revokePort_place (n : TemplateNo) :
    (s.revokePort p y).templates.place[n] = cutPlace p y s.templates.place[n] := by
  unfold State.revokePort
  split
  · next unheld =>
    subst unheld
    exact (cutPlace_zero p _).symm
  · exact Vector.getElem_map (cutPlace p y) n.isLt

/-- The port is told what it lost; the others are not. -/
theorem revokePort_notices (q : Port) : (s.revokePort p y).wires.notices.get q
    = s.wires.notices.get q ++ if q = p then revokeTold y (cutCounts s p y) else [] := by
  unfold State.revokePort revokeTold
  by_cases unheld : y = 0
  · simp only [if_pos unheld, ite_self, List.append_nil]
  · rw [if_neg unheld, if_neg unheld, notify_notices]
    by_cases same : q = p
    · subst same
      rw [if_pos rfl, if_pos rfl]
      rfl
    · rw [if_neg same, if_neg same, List.append_nil]
      rfl

/-- What a cut for another port counts stays. -/
theorem cutCounts_revokePort_other (q : Port) (z : LineSet) (h : q ≠ p) :
    cutCounts (s.revokePort p y) q z = cutCounts s q z := by
  unfold State.revokePort
  split
  · rfl
  · exact cutCounts_cut_other s p q y z h

/-- Live counts that count are kept. -/
theorem revokePort_liveCounted (h : s.liveCounted) : (s.revokePort p y).liveCounted := by
  unfold State.revokePort
  split
  · exact h
  · exact cut_liveCounted s p y h

/-- The line records stay. -/
theorem revokePort_line : (s.revokePort p y).line = s.line := by
  unfold State.revokePort
  split <;> rfl

end

/-! ## The frame of a revoke -/

/-- Only line records, slots, live entries with their counts, templates and the notices on their way differ. -/
def OnlyRevoked (s t : State) : Prop := t = { s with
  line := t.line, slots := t.slots
  table := { s.table with live := t.table.live, liveCount := t.table.liveCount }
  templates := { s.templates with place := t.templates.place }
  wires := { s.wires with notices := t.wires.notices } }

theorem OnlyRevoked.refl (s : State) : OnlyRevoked s s := rfl

theorem OnlyRevoked.trans (s t u : State) (h : OnlyRevoked s t) (k : OnlyRevoked t u) : OnlyRevoked s u := by
  unfold OnlyRevoked at *; rw [k, h]

theorem revokePort_frame (s : State) (p : Port) (y : LineSet) : OnlyRevoked s (s.revokePort p y) := by
  unfold State.revokePort
  split <;> rfl

theorem changeLines_onlyRevoked (s : State) (x : LineSet) (f : LineRec → LineRec) : OnlyRevoked s (s.changeLines x f) := by
  rw [changeLines_eq]
  rfl

theorem revoke_frame (s : State) (x : LineSet) : OnlyRevoked s (s.revoke x) :=
  OnlyRevoked.trans _ _ _ (changeLines_onlyRevoked s x _)
    (foldl_keeps OnlyRevoked _ OnlyRevoked.refl OnlyRevoked.trans (fun t p => revokePort_frame t p _) _ _)

/-! ## A revoke (R29) -/

section
variable (s : State) (x : LineSet)

/-- A revoke drops every share of the set. -/
theorem revoke_line (law : s.lineLaw) (l : LineNo) : (s.revoke x).line[l]
    = if hasLine x l then withoutShares (fun _ => true) s.line[l] else s.line[l] := by
  have lines : (s.revoke x).line = (s.changeLines x LineRec.unleased).line :=
    foldl_keeps (fun s t : State => t.line = s.line) _ (fun _ => rfl) (fun _ _ _ h k => k.trans h)
      (fun t p => revokePort_line t p _) _ _
  rw [lines, changeLines_line, recode_unleased _ (law l)]

/-- A revoke cuts the slots of each port that held a line of the set. -/
theorem revoke_slots (q : Port) : (s.revoke x).slots.get q
    = if s.heldIn x q = 0 then s.slots.get q else (s.cut q (s.heldIn x q)).slots.get q := by
  have once : (s.revoke x).slots.get q = if s.heldIn x q = 0 then (s.changeLines x LineRec.unleased).slots.get q
      else Slots.cut (s.heldIn x q) ((s.changeLines x LineRec.unleased).slots.get q) := by
    refine foldl_touched_once _ (fun t : State => t.slots.get q) (fun t : State => t.slots.get q)
      (fun b => if s.heldIn x q = 0 then b else Slots.cut (s.heldIn x q) b) q ?_ ?_ ?_ _ Port.all_nodup (Port.mem_all q) _
    · intro t
      simp only [revokePort_slots, true_and, ne_eq, ite_not]
    all_goals
      intro t p other
      rw [revokePort_slots, if_neg fun h => other h.1.symm]
  have kept : (s.changeLines x LineRec.unleased).slots = s.slots := by rw [changeLines_eq]
  have cut : (s.cut q (s.heldIn x q)).slots.get q = Slots.cut (s.heldIn x q) (s.slots.get q) := PerPort.get_set_same _ _ _
  rw [once, kept, cut]

/-- A revoke cuts each live entry for its owner. -/
theorem revoke_live : (s.revoke x).table.live
    = s.table.live.filterMap fun e => cutEntry e.fields.owner (s.heldIn x e.fields.owner) e := by
  have start : (s.changeLines x LineRec.unleased).table.live = s.table.live := by
    rw [changeLines_eq]
  have cuts := List.foldl_hom (fun t : State => t.table.live)
    (g₁ := fun t p => t.revokePort p (s.heldIn x p)) (g₂ := fun es p => es.filterMap (cutEntry p (s.heldIn x p)))
    (l := Port.all) (init := s.changeLines x LineRec.unleased) fun t p => (revokePort_live t p _).symm
  unfold State.revoke
  rw [← cuts, start, foldl_filterMap]
  exact List.filterMap_congr fun e _ => foldl_cuts_all (fun p => cutEntry_owned p (s.heldIn x p)) (some e)

/-- A revoke cuts each template for its owner. -/
theorem revoke_place (n : TemplateNo) : (s.revoke x).templates.place[n] = (s.templates.place[n]).bind fun m =>
    cutPlace m.fields.owner (s.heldIn x m.fields.owner) (some m) := by
  have start : (s.changeLines x LineRec.unleased).templates.place[n] = s.templates.place[n] := by
    rw [changeLines_eq]
  have cuts := List.foldl_hom (fun t : State => t.templates.place[n])
    (g₁ := fun t p => t.revokePort p (s.heldIn x p)) (g₂ := fun o p => o.bind (cutTemplate p (s.heldIn x p)))
    (l := Port.all) (init := s.changeLines x LineRec.unleased)
    fun t p => ((revokePort_place t p _ n).trans (cutPlace_eq_bind _ _ _)).symm
  unfold State.revoke
  rw [← cuts, start]
  exact foldl_cuts_all (fun p => cutTemplate_owned p (s.heldIn x p)) _

/-- A revoke tells each former holder what it lost. -/
theorem revoke_notices (q : Port) : (s.revoke x).wires.notices.get q
    = s.wires.notices.get q ++ revokeTold (s.heldIn x q) (cutCounts s q (s.heldIn x q)) := by
  have once : (s.revoke x).wires.notices.get q = (s.changeLines x LineRec.unleased).wires.notices.get q
      ++ revokeTold (s.heldIn x q) (cutCounts (s.changeLines x LineRec.unleased) q (s.heldIn x q)) := by
    refine foldl_touched_once _ (fun t : State => (t.wires.notices.get q, cutCounts t q (s.heldIn x q)))
      (fun t : State => t.wires.notices.get q) (fun b => b.1 ++ revokeTold (s.heldIn x q) b.2) q ?_ ?_ ?_ _
      Port.all_nodup (Port.mem_all q) _
    · intro t
      rw [revokePort_notices, if_pos rfl]
    · intro t p other
      rw [revokePort_notices, if_neg other.symm, List.append_nil, cutCounts_revokePort_other _ _ _ _ _ other.symm]
    · intro t p other
      rw [revokePort_notices, if_neg other.symm, List.append_nil]
  have counts : cutCounts (s.changeLines x LineRec.unleased) q (s.heldIn x q) = cutCounts s q (s.heldIn x q) := by
    rw [changeLines_eq]
    rfl
  rw [once, counts, changeLines_notices]

/-- A revoke keeps live counts that count. -/
theorem revoke_liveCounted (h : s.liveCounted) : (s.revoke x).liveCounted := by
  have start : (s.changeLines x LineRec.unleased).liveCounted := by
    rw [changeLines_eq]
    exact h
  exact foldl_keeps (fun s t : State => s.liveCounted → t.liveCounted) _ (fun _ => id) (fun _ _ _ h k => k ∘ h)
    (fun t p => revokePort_liveCounted t p _) _ _ start

end

/-! ## REVOKE_LINES (R29) -/

theorem exec_revokeLines (s : State) : exec .revokeLines s = serve .revokeLines .A revokeRequest s := rfl

/-- Outside CONFIG and RUN a revoke is refused WRONG_MODE. -/
theorem revokeRequest_wrongMode (body : List Byte) (s : State) (shut : leaseMode s.lineBlock.mode = false) :
    revokeRequest body s = (s, Reply.refuse .wrongMode) := by
  simp [revokeRequest, shut]

/-- A malformed revoke is refused BAD_FIELD. -/
theorem revokeRequest_badField (body : List Byte) (s : State) (taken : leaseMode s.lineBlock.mode = true)
    (bad : parseLines body = none) : revokeRequest body s = (s, Reply.refuse .badField) := by
  simp [revokeRequest, taken, bad]

/-- A revoke answers how many lines of the set were held, with the counts of its cuts. -/
theorem revokeRequest_revoked (body : List Byte) (s : State) (x : LineSet) (taken : leaseMode s.lineBlock.mode = true)
    (parsed : parseLines body = some x) (law : s.lineLaw) :
    revokeRequest body s = (s.revoke x, Reply.ok
      (byte ((linesOf x).filter fun l => decide ((s.line[l]).leaseMode ≠ .free)).length :: (revokeCounts s x).bytes)) := by
  have held : (linesOf x).filter (fun l => decide (s.line[l].shares ≠ []))
      = (linesOf x).filter fun l => decide ((s.line[l]).leaseMode ≠ .free) := by
    refine List.filter_congr fun l _ => decide_eq_decide.mpr ?_
    obtain ⟨free, -⟩ := law l
    exact (not_congr free).symm
  simp only [revokeRequest, taken, parsed, held, if_true]

/-- The requester's own notices are marked, those of the others stay as they are posted (R165). -/
theorem markOwn_notices (s : State) (p q : Port) (old new : List PostedNotice) (n : Nat)
    (posted : s.wires.notices.get q = old ++ new) (start : q = p → old.length = n) :
    (s.markOwn p n).wires.notices.get q = old ++ if q = p then new.map fun e => { e with own := true } else new := by
  simp only [State.markOwn, State.setWires, PerPort.get_set]
  by_cases same : q = p
  · subst same
    rw [if_pos rfl, if_pos rfl, posted, List.take_left' (start rfl), List.drop_left' (start rfl)]
  · rw [if_neg same, if_neg same, posted]

/-- What the revoking port A and the others are told of a revoke, the notice to A marked as its own (R165). -/
theorem revoke_told (s : State) (x : LineSet) (q : Port) :
    ((s.revoke x).markOwn .A (s.wires.notices.get .A).length).wires.notices.get q
      = s.wires.notices.get q ++ (if s.heldIn x q = 0 then [] else
          [{ source := .lineBlock, own := q == .A, notice := { Notice.bare .leaseRevoked with
              line := (linesOf (s.heldIn x q)).head?, count := some (cutCounts s q (s.heldIn x q)).touched } }]) := by
  rw [markOwn_notices _ .A q _ _ _ (revoke_notices s x q) fun h => by rw [h]]
  congr 1
  unfold revokeTold
  by_cases unheld : s.heldIn x q = 0
  · simp only [if_pos unheld, List.map_nil, ite_self]
  · rw [if_neg unheld, if_neg unheld]
    by_cases requester : q = .A
    · rw [if_pos requester, beq_iff_eq.mpr requester]
      rfl
    · rw [if_neg requester, beq_eq_false_iff_ne.mpr requester]

/-- Settles O32: the checks of R28 and R29 in their order, then the shares dropped and the lines cut for their holders. -/
theorem releaseAndRevokeDropSharesAndCut : Obligations.ReleaseAndRevokeDropSharesAndCut := by
  intro s p w open_ bad
  have shut (h : ¬open_) : leaseMode s.lineBlock.mode = false :=
    Bool.eq_false_iff.mpr fun taken => h ((leaseMode_iff _).mp taken)
  have taken (h : open_) : leaseMode s.lineBlock.mode = true := (leaseMode_iff _).mpr h
  have parsed (x : LineSet) (body : w.body = be32 x) (nonempty : x ≠ 0) : parseLines w.body = some x :=
    body ▸ parseLines_be32 x nonempty
  refine ⟨fun waits => ?release, ?revoke⟩
  case release =>
    rw [exec_releaseLines]
    refine ⟨fun h => ?wrongMode, fun h malformed => ?badField, fun x l h body nonempty lowest => ?notLeased,
      fun x h body nonempty leases => ?released⟩
    case wrongMode => exact serve_kept waits _ _ (releaseRequest_wrongMode p w.body s (shut h))
    case badField =>
      exact serve_kept waits _ _ (releaseRequest_badField p w.body s (taken h) (parseLines_malformed _ malformed))
    case notLeased =>
      exact serve_kept waits _ _
        (releaseRequest_notLeased p w.body s x l (taken h) (parsed x body nonempty) lowest)
    case released =>
      have release := releaseRequest_released p w.body s x (taken h) (parsed x body nonempty) leases
      refine ⟨_, serve_unnoticed waits _ _ _ release (changeLines_notices _ _ _), changeLines_eq _ _ _, fun l => ?_⟩
      rw [changeLines_line]
      split
      · next hl => exact recode_dropShare p _ (leases l hl)
      · rfl
  case revoke =>
    rintro rfl waits
    rw [exec_revokeLines]
    refine ⟨fun h => ?wrongMode, fun h malformed => ?badField, fun x h body nonempty law => ?revoked⟩
    case wrongMode => exact serve_kept waits _ _ (revokeRequest_wrongMode w.body s (shut h))
    case badField =>
      exact serve_kept waits _ _ (revokeRequest_badField w.body s (taken h) (parseLines_malformed _ malformed))
    case revoked =>
      have revoke := revokeRequest_revoked w.body s x (taken h) (parsed x body nonempty) law
      refine ⟨(s.revoke x).markOwn .A (s.wires.notices.get .A).length, ?_, ?_, fun counts => ?_, revoke_line s x law,
        revoke_slots s x, revoke_live s x, revoke_place s x, revoke_told s x⟩
      · rw [serve_waits waits, revoke]
        rfl
      · exact OnlyRevoked.trans _ _ _ (revoke_frame s x) rfl
      · obtain ⟨-, -, -, counted⟩ := counts
        exact revoke_liveCounted s x counted

end Sys2Proof.Machine

/-! PROOFS. Commits: what a proposal leaves alone at the slots and in its owner's notices, FULL, COMMIT and DISCARD_STAGED
(R76, R79 to R81, R85). -/

namespace Sys2Proof.Machine

/-! ## Consultations (R43, R153) -/

theorem cutAll_wires (s : State) (ps : List Port) (x : LineSet) : (s.cutAll ps x).wires = s.wires :=
  foldl_keeps (fun t u => u.wires = t.wires) (fun t p => t.cut p x) (fun _ => rfl)
    (fun t u v (h : u.wires = t.wires) (k : v.wires = u.wires) => k.trans h) (fun _ _ => rfl) ps s

/-- The clearing of a line record posts no notice: it hands a finding on. -/
theorem clearLine_notices (s : State) (l : LineNo) : (s.clearLine l).wires.notices = s.wires.notices := by
  simp only [State.clearLine, State.handFinding, closeLines, State.setWires, cutAll_wires, State.setLine_wires]

theorem clearLine_slots (s : State) (l : LineNo) :
    (s.clearLine l).slots = ((s.setLine l s.line[l].cleared).cutAll Port.all (singleLine l)).slots := by
  simp only [State.clearLine, State.handFinding, closeLines, State.setWires]

theorem consult_notices (s : State) (x : LineSet) : (s.consult x).wires.notices = s.wires.notices := by
  refine foldl_keeps (fun t u => u.wires.notices = t.wires.notices) State.verifyLine (fun _ => rfl)
    (fun t u v (h : u.wires.notices = t.wires.notices) (k : v.wires.notices = u.wires.notices) => k.trans h)
    (fun t l => ?_) (linesOf x) s
  unfold State.verifyLine
  split
  · rfl
  · exact clearLine_notices t l

/-- Every slot of port `p` that is EMPTY in the first state is EMPTY in the second. -/
def EmptySlotsStay (p : Port) (s t : State) : Prop :=
  ∀ i : Fin 4, (s.slots.get p).slot[i] = none → (t.slots.get p).slot[i] = none

theorem EmptySlotsStay.refl (p : Port) (s : State) : EmptySlotsStay p s s := fun _ h => h

theorem EmptySlotsStay.trans (p : Port) (s t u : State) (h : EmptySlotsStay p s t) (k : EmptySlotsStay p t u) :
    EmptySlotsStay p s u := fun i e => k i (h i e)

theorem EmptySlotsStay.of_slots {p : Port} {s t : State} (same : t.slots = s.slots) : EmptySlotsStay p s t :=
  fun _ h => same ▸ h

/-- A cut fills no slot (R86). -/
theorem cut_emptySlotsStay (p q : Port) (s : State) (x : LineSet) : EmptySlotsStay p s (s.cut q x) := by
  intro i unoccupied
  have cut : (s.cut q x).slots = s.slots.set q (Slots.cut x (s.slots.get q)) := rfl
  rw [cut, PerPort.get_set]
  split
  · next same =>
    subst same
    have content : (Slots.cut x (s.slots.get p)).slot[i] = cutSlot x (s.slots.get p).slot[i] := Vector.getElem_map ..
    rw [content, unoccupied]
    rfl
  · exact unoccupied

theorem cutAll_emptySlotsStay (p : Port) (s : State) (ps : List Port) (x : LineSet) :
    EmptySlotsStay p s (s.cutAll ps x) :=
  foldl_keeps (EmptySlotsStay p) (fun t q => t.cut q x) (EmptySlotsStay.refl p) (EmptySlotsStay.trans p)
    (fun t q => cut_emptySlotsStay p q t x) ps s

/-- A consultation fills no slot: it acts on the slots by cuts alone. -/
theorem consult_emptySlotsStay (p : Port) (s : State) (x : LineSet) : EmptySlotsStay p s (s.consult x) := by
  refine foldl_keeps (EmptySlotsStay p) State.verifyLine (EmptySlotsStay.refl p) (EmptySlotsStay.trans p)
    (fun t l => ?_) (linesOf x) s
  unfold State.verifyLine
  split
  · exact EmptySlotsStay.refl p t
  · exact EmptySlotsStay.trans p _ _ _ (cutAll_emptySlotsStay p (t.setLine l t.line[l].cleared) Port.all (singleLine l))
      (.of_slots (clearLine_slots t l))

/-! ## Proposals (R50, R53 to R55) -/

/-- An entry does not conflict with another of its owner (R53). -/
theorem conflicts_otherOwner (q : TableLimits) (p : Port) (lines : LineSet) (due : Word32) (live : List Entry)
    (c : Entry × LineSet) (found : c ∈ conflicts q p lines due live) : c.1.fields.owner ≠ p := by
  intro own
  simp only [conflicts, List.mem_filter, List.mem_map, decide_eq_true_eq] at found
  obtain ⟨⟨e, -, rfl⟩, overlap⟩ := found
  exact overlap (if_pos own)

/-- What the conflict check lists to displace are the conflicts it was given (R54). -/
theorem conflictOutcome_some (q : TableLimits) (p : Port) (found out : List (Entry × LineSet))
    (h : conflictOutcome q p found = some out) : out = found := by
  unfold conflictOutcome at h
  split at h
  · cases h
  · split at h
    · exact (Option.some.inj h).symm
    · cases h

/-- A proposal is refused before the consultation or after it, or is placed after it over entries of other owners. -/
theorem propose_cases (s : State) (n : Proposal) :
    (∃ st, s.propose n = (s, .no st))
    ∨ (∃ st, s.propose n = (s.consult n.lines, .no st))
    ∨ (∃ displaced, (∀ c ∈ displaced, c.1.fields.owner ≠ n.owner)
        ∧ s.propose n = (s.consult n.lines).placeProposal n displaced) := by
  unfold State.propose
  simp only
  split
  · exact .inl ⟨_, rfl⟩
  · split
    · exact .inr (.inl ⟨_, rfl⟩)
    · split
      · exact .inr (.inl ⟨_, rfl⟩)
      · split
        · exact .inr (.inl ⟨_, rfl⟩)
        · next out outcome =>
          refine .inr (.inr ⟨out, fun c displaced => ?_, rfl⟩)
          rw [conflictOutcome_some _ _ _ _ outcome] at displaced
          exact conflicts_otherOwner _ _ _ _ _ c displaced

/-- The placing of a proposal posts nothing to a port none of whose entries it displaces (R55). -/
theorem placeProposal_notices (s : State) (n : Proposal) (p : Port) (displaced : List (Entry × LineSet))
    (others : ∀ c ∈ displaced, c.1.fields.owner ≠ p) :
    (s.placeProposal n displaced).1.wires.notices.get p = s.wires.notices.get p := by
  have displacements : (displaced.foldl State.displace s).wires.notices.get p = s.wires.notices.get p := by
    induction displaced generalizing s with
    | nil => rfl
    | cons c rest ih =>
      rw [List.foldl_cons, ih _ fun d hd => others d (List.mem_cons_of_mem _ hd), State.displace, notify_notices,
        if_neg (others c (List.mem_cons_self ..)).symm]
      rfl
  unfold State.placeProposal
  simp only
  split
  · rfl
  · exact displacements

/-- A proposal posts nothing to its own owner. -/
theorem propose_ownNotices (s : State) (n : Proposal) :
    (s.propose n).1.wires.notices.get n.owner = s.wires.notices.get n.owner := by
  obtain ⟨st, refused⟩ | ⟨st, refused⟩ | ⟨displaced, others, placed⟩ := propose_cases s n
  · rw [refused]
  · rw [refused, consult_notices]
  · rw [placed, placeProposal_notices _ _ _ _ others, consult_notices]

/-- A proposal leaves the slots as they are, or as its consultation leaves them. -/
theorem propose_slots (s : State) (n : Proposal) :
    (s.propose n).1.slots = s.slots ∨ (s.propose n).1.slots = (s.consult n.lines).slots := by
  obtain ⟨st, refused⟩ | ⟨st, refused⟩ | ⟨displaced, -, placed⟩ := propose_cases s n
  · exact .inl (by rw [refused])
  · exact .inr (by rw [refused])
  · exact .inr (by rw [placed, congrArg State.slots (placeProposal_frame (s.consult n.lines) n displaced)])

/-- A proposal fills no slot. -/
theorem propose_emptySlotsStay (p : Port) (s : State) (n : Proposal) : EmptySlotsStay p s (s.propose n).1 := by
  obtain same | consulted := propose_slots s n
  · exact .of_slots same
  · exact EmptySlotsStay.trans p _ _ _ (consult_emptySlotsStay p s n.lines) (.of_slots consulted)

/-- With matching codes a proposal leaves every slot as it is. -/
theorem propose_slots_of_codesMatch (s : State) (n : Proposal) (codes : CodesMatch s n.lines) :
    (s.propose n).1.slots = s.slots := by
  obtain same | consulted := propose_slots s n
  · exact same
  · rw [consulted, consult_ok s n.lines codes]

/-! ## The commit of one slot (R79) -/

section
variable (s : State) (p : Port) (reason : CommitReason) (i : Fin 4)

theorem commitSlot_empty (unoccupied : (s.slots.get p).slot[i] = none) : s.commitSlot p reason i = (s, []) := by
  unfold State.commitSlot
  rw [unoccupied]

theorem commitSlot_occupied (c : SlotContent) (occupied : (s.slots.get p).slot[i] = some c) :
    s.commitSlot p reason i =
      (((s.setSlots p ((s.slots.get p).empty i)).propose (c.proposal p)).1,
        [{ reason := reason, slot := i, tag := c.tag
           result := ((s.setSlots p ((s.slots.get p).empty i)).propose (c.proposal p)).2.result }]) := by
  unfold State.commitSlot
  rw [occupied]

/-- The emptied slot holds nothing, every other what it held. -/
theorem emptied_slot (x : Slots) (j : Fin 4) : (x.empty i).slot[j] = if i = j then none else x.slot[j] := by
  simp only [Slots.empty, Fin.getElem_fin, Vector.getElem_set, Fin.ext_iff]

/-- The emptying of a slot fills none. -/
theorem emptied_emptySlotsStay : EmptySlotsStay p s (s.setSlots p ((s.slots.get p).empty i)) := by
  intro j unoccupied
  rw [State.setSlots_slots, PerPort.get_set_same, emptied_slot, unoccupied, ite_self]

/-- A commit posts nothing to the slot's own port. -/
theorem commitSlot_notices :
    (s.commitSlot p reason i).1.wires.notices.get p = s.wires.notices.get p := by
  cases content : (s.slots.get p).slot[i] with
  | none => rw [commitSlot_empty s p reason i content]
  | some c =>
    rw [commitSlot_occupied s p reason i c content]
    exact propose_ownNotices _ (c.proposal p)

/-- A commit fills no slot. -/
theorem commitSlot_emptySlotsStay : EmptySlotsStay p s (s.commitSlot p reason i).1 := by
  cases content : (s.slots.get p).slot[i] with
  | none =>
    rw [commitSlot_empty s p reason i content]
    exact EmptySlotsStay.refl p s
  | some c =>
    rw [commitSlot_occupied s p reason i c content]
    exact EmptySlotsStay.trans p _ _ _ (emptied_emptySlotsStay s p i) (propose_emptySlotsStay p _ _)

/-- The committed slot is EMPTY, whatever the outcome. -/
theorem commitSlot_slot : ((s.commitSlot p reason i).1.slots.get p).slot[i] = none := by
  cases content : (s.slots.get p).slot[i] with
  | none => rw [commitSlot_empty s p reason i content, content]
  | some c =>
    rw [commitSlot_occupied s p reason i c content]
    refine propose_emptySlotsStay p _ _ i ?_
    rw [State.setSlots_slots, PerPort.get_set_same, emptied_slot, if_pos rfl]

/-- With matching codes a commit changes the slots by the emptying alone. -/
theorem commitSlot_slots_of_codesMatch (c : SlotContent) (occupied : (s.slots.get p).slot[i] = some c)
    (codes : CodesMatch s c.lines) :
    (s.commitSlot p reason i).1.slots.get p = (s.slots.get p).empty i := by
  have emptied := propose_slots_of_codesMatch (s.setSlots p ((s.slots.get p).empty i)) (c.proposal p) codes
  rw [commitSlot_occupied s p reason i c occupied, emptied, State.setSlots_slots, PerPort.get_set_same]

end

/-! ## The commits of several slots (R80) -/

section
variable (s : State) (p : Port) (reason : CommitReason)

theorem commitSlots_cons (i : Fin 4) (rest : List (Fin 4)) :
    s.commitSlots p reason (i :: rest) = (((s.commitSlot p reason i).1.commitSlots p reason rest).1,
      (s.commitSlot p reason i).2 ++ ((s.commitSlot p reason i).1.commitSlots p reason rest).2) := rfl

/-- Commits post nothing to the slots' own port. -/
theorem commitSlots_notices (is : List (Fin 4)) :
    (s.commitSlots p reason is).1.wires.notices.get p = s.wires.notices.get p := by
  induction is generalizing s with
  | nil => rfl
  | cons i rest ih => rw [commitSlots_cons, ih, commitSlot_notices]

/-- Commits leave EMPTY every slot committed and every slot that was EMPTY. -/
theorem commitSlots_slot (is : List (Fin 4)) (i : Fin 4) (h : i ∈ is ∨ (s.slots.get p).slot[i] = none) :
    ((s.commitSlots p reason is).1.slots.get p).slot[i] = none := by
  induction is generalizing s with
  | nil => exact h.resolve_left List.not_mem_nil
  | cons j rest ih =>
    rw [commitSlots_cons]
    refine ih _ ?_
    rw [List.mem_cons] at h
    obtain (rfl | later) | unoccupied := h
    · exact .inr (commitSlot_slot s p reason i)
    · exact .inl later
    · exact .inr (commitSlot_emptySlotsStay s p reason j i unoccupied)

/-- With an age list that holds every occupied slot (R72), its commits leave no slot occupied. -/
theorem commitSlots_age (law : SlotsLaw (s.slots.get p)) (i : Fin 4) :
    ((s.commitSlots p reason (s.slots.get p).age).1.slots.get p).slot[i] = none := by
  obtain ⟨-, listed, -⟩ := law
  refine commitSlots_slot s p reason _ i ?_
  cases content : (s.slots.get p).slot[i] with
  | none => exact .inr rfl
  | some c => exact .inl ((listed i).mpr (by rw [content]; rfl))

end

/-! ## Room for a post (R75, R76) -/

theorem freeSlot_full (x : Slots) (full : ∀ j : Fin 4, x.slot[j] ≠ none) : x.freeSlot = none :=
  List.find?_eq_none.mpr fun j _ unoccupied => full j (Option.isNone_iff_eq_none.mp unoccupied)

/-- The only EMPTY slot is the lowest-numbered one. -/
theorem freeSlot_only (x : Slots) (i : Fin 4) (unoccupied : x.slot[i] = none)
    (others : ∀ j : Fin 4, x.slot[j] = none → j = i) : x.freeSlot = some i := by
  cases found : x.freeSlot with
  | none => exact absurd (by rw [unoccupied]; rfl) (List.find?_eq_none.mp found i (List.mem_finRange i))
  | some j =>
    have unfilled : (x.slot[j]).isNone = true := List.find?_some (p := fun k : Fin 4 => (x.slot[k]).isNone) found
    rw [others j (Option.isNone_iff_eq_none.mp unfilled)]

/-- Of four occupied slots the one that a commit empties is the only EMPTY one. -/
theorem freeSlot_emptied (x : Slots) (i : Fin 4) (full : ∀ j : Fin 4, x.slot[j] ≠ none) :
    (x.empty i).freeSlot = some i := by
  refine freeSlot_only _ i (by rw [emptied_slot, if_pos rfl]) fun j unoccupied => ?_
  by_contra other
  rw [emptied_slot, if_neg (Ne.symm other)] at unoccupied
  exact full j unoccupied

/-- A post with NO_MERGE, or whose key no slot without NO_MERGE holds, merges into none (R75). -/
theorem mergeSlot_none (x : Slots) (b : PostBody)
    (apart : ∀ (j : Fin 4) c, x.slot[j] = some c → b.noMerge = true ∨ c.noMerge = true
      ∨ ¬(c.due = b.due ∧ c.action = b.action ∧ c.tag = b.tag ∧ c.report = b.report)) : x.mergeSlot b = none := by
  unfold Slots.mergeSlot
  split
  · rfl
  · next merges =>
    refine List.find?_eq_none.mpr fun j _ => ?_
    cases content : x.slot[j] with
    | none => exact Bool.false_ne_true
    | some c =>
      have distinct := (apart j c content).resolve_left merges
      simp only [Option.elim_some, SlotContent.sameKey, Bool.and_eq_true, Bool.not_eq_true', beq_iff_eq]
      rintro ⟨⟨⟨⟨open_, due⟩, action⟩, tag⟩, report⟩
      exact distinct.elim (fun shut => Bool.false_ne_true (open_.symm.trans shut))
        fun keys => keys ⟨due, action, tag, report⟩

/-- With four occupied slots the oldest is committed with reason FULL to make room. -/
theorem makeRoom_full (s : State) (p : Port) (i : Fin 4) (older : List (Fin 4)) (age : (s.slots.get p).age = i :: older)
    (full : ∀ j : Fin 4, (s.slots.get p).slot[j] ≠ none) : s.makeRoom p = s.commitSlot p .full i := by
  unfold State.makeRoom
  rw [freeSlot_full _ full, age]

/-- A post that merges nowhere takes the lowest slot that is EMPTY after room is made. -/
theorem placePost_placed (s : State) (p : Port) (b : PostBody) (i : Fin 4)
    (apart : (s.slots.get p).mergeSlot b = none) (free : ((s.makeRoom p).1.slots.get p).freeSlot = some i) :
    s.placePost p b = ((s.makeRoom p).1.setSlots p (((s.makeRoom p).1.slots.get p).put i b),
      { slot := i, merged := false, outcomes := (s.makeRoom p).2 }) := by
  simp only [State.placePost, apart, free, Option.getD_some]

/-- With four occupied slots and matching codes the post takes the slot of the FULL commit. -/
theorem placePost_full (s : State) (p : Port) (b : PostBody) (i : Fin 4) (older : List (Fin 4))
    (age : (s.slots.get p).age = i :: older) (full : ∀ j : Fin 4, (s.slots.get p).slot[j] ≠ none)
    (codes : ∀ c, (s.slots.get p).slot[i] = some c → CodesMatch s c.lines)
    (apart : (s.slots.get p).mergeSlot b = none) :
    s.placePost p b = ((s.commitSlot p .full i).1.setSlots p (((s.commitSlot p .full i).1.slots.get p).put i b),
      { slot := i, merged := false, outcomes := (s.commitSlot p .full i).2 }) := by
  have room := makeRoom_full s p i older age full
  obtain ⟨c, occupied⟩ := Option.ne_none_iff_exists'.mp (full i)
  have free : ((s.makeRoom p).1.slots.get p).freeSlot = some i := by
    rw [room, commitSlot_slots_of_codesMatch s p .full i c occupied (codes c occupied), freeSlot_emptied _ i full]
  rw [placePost_placed s p b i apart free, room]

/-! ## COMMIT and DISCARD_STAGED (R81, R85) -/

theorem exec_commit (p : Port) (s : State) : exec (.commit p) s = serve .commit p (commitRequest p) s := rfl

theorem exec_discardStaged (p : Port) (s : State) :
    exec (.discardStaged p) s = serve .discardStaged p (discardRequest p) s := rfl

section
variable (p : Port) (body : List Byte) (s : State)

theorem commitRequest_wrongMode (shut : (s.slots.get p).mode ≠ .run) :
    commitRequest p body s = (s, Reply.refuse .wrongMode) := if_pos shut

theorem commitRequest_badField (running : (s.slots.get p).mode = .run) (nonempty : body ≠ []) :
    commitRequest p body s = (s, Reply.refuse .badField) := by
  rw [commitRequest, if_neg (not_not_intro running), if_pos nonempty]

theorem commitRequest_commits (running : (s.slots.get p).mode = .run) (bare : body = []) :
    commitRequest p body s = ((s.commitSlots p .request (s.slots.get p).age).1,
      Reply.ok (byte (s.commitSlots p .request (s.slots.get p).age).2.length
        :: (s.commitSlots p .request (s.slots.get p).age).2.flatMap outcomeBytes)) := by
  rw [commitRequest, if_neg (not_not_intro running), if_neg (not_not_intro bare)]

theorem discardRequest_wrongMode (notRun : (s.slots.get p).mode ≠ .run) (notConfig : (s.slots.get p).mode ≠ .config) :
    discardRequest p body s = (s, Reply.refuse .wrongMode) := if_pos ⟨notConfig, notRun⟩

theorem discardRequest_badField (taken : (s.slots.get p).mode = .run ∨ (s.slots.get p).mode = .config)
    (nonempty : body ≠ []) : discardRequest p body s = (s, Reply.refuse .badField) := by
  rw [discardRequest, if_neg fun ⟨notConfig, notRun⟩ => taken.elim notRun notConfig, if_pos nonempty]

theorem discardRequest_discards (taken : (s.slots.get p).mode = .run ∨ (s.slots.get p).mode = .config) (bare : body = []) :
    discardRequest p body s = (s.setSlots p (s.slots.get p).cleared, Reply.ok [byte (s.slots.get p).occupied]) := by
  rw [discardRequest, if_neg fun ⟨notConfig, notRun⟩ => taken.elim notRun notConfig, if_neg (not_not_intro bare)]

end

/-- The occupied slots are counted by number or along the slots alike. -/
theorem occupied_eq (x : Slots) : x.occupied = (x.slot.toList.filter Option.isSome).length := by
  have contents : x.slot.toList = (List.finRange 4).map fun i => x.slot[i] := by
    apply List.ext_getElem <;> simp
  rw [contents, List.filter_map, List.length_map]
  rfl

/-- A request that posts nothing to its own port is answered over the handler's effect. -/
theorem serve_ownUnnoticed {s : State} {p : Port} {k : ReqKind} {w : Work} (waits : RequestWaits s p k w)
    (f : List Byte → State → State × Reply) (t : State) (r : Reply) (taken : f w.body s = (t, r))
    (same : t.wires.notices.get p = s.wires.notices.get p) : serve k p f s = .next (t.answer p w r.status r.body) := by
  rw [serve_waits waits, taken, markOwn_same s t p same]
  rfl

/-- Settles O28: a commit by its two cases, the FULL commit that makes room, and the two requests by their checks. -/
theorem commitsProposeTheSlots : Obligations.CommitsProposeTheSlots := by
  intro s p x
  refine ⟨fun reason i => commitSlot_empty s p reason i, fun reason i c occupied => ?commit,
    fun reason => commitSlots_cons s p reason, fun b i rest age full codes apart => ?full,
    fun w waits => ?commitRequest, fun w waits => ?discard⟩
  case commit =>
    exact ⟨_, commitSlot_occupied s p reason i c occupied, rfl, rfl, rfl,
      fun h d admitted => congrArg Admitted.result admitted, fun st refused => congrArg Admitted.result refused⟩
  case full =>
    have placed := placePost_full s p b i rest age full codes (mergeSlot_none _ b apart)
    exact ⟨congrArg Prod.fst placed, congrArg Prod.snd placed⟩
  case commitRequest =>
    rw [exec_commit]
    refine ⟨fun shut => ?wrongMode, fun running nonempty => ?badField,
      fun running bare => ⟨?committed, commitSlots_age s p .request⟩⟩
    case wrongMode => exact serve_kept waits _ _ (commitRequest_wrongMode p w.body s shut)
    case badField => exact serve_kept waits _ _ (commitRequest_badField p w.body s running nonempty)
    case committed =>
      exact serve_ownUnnoticed waits _ _ _ (commitRequest_commits p w.body s running bare)
        (commitSlots_notices s p .request _)
  case discard =>
    rw [exec_discardStaged]
    refine ⟨fun notRun notConfig => ?wrongMode, fun taken nonempty => ?badField, fun taken bare => ?discarded⟩
    case wrongMode => exact serve_kept waits _ _ (discardRequest_wrongMode p w.body s notRun notConfig)
    case badField => exact serve_kept waits _ _ (discardRequest_badField p w.body s taken nonempty)
    case discarded =>
      rw [← occupied_eq]
      exact serve_unnoticed waits _ _ _ (discardRequest_discards p w.body s taken bare) rfl

end Sys2Proof.Machine

/-! PROOFS. The pulse engine: the later end of a retrigger (R92), the pending start of a rest (R93), the outcome and the
level (R89), and the table of section 5.2. -/

namespace Sys2Proof.Machine

/-! ## Retriggers (R92) -/

/-- The time that a pulse of width `w` has left to run as it starts. -/
theorem pulseEnd_sub_now (now : Word32) (w : Word16) : (now + w.setWidth 32 - now).toNat = w.toNat := by
  rw [BitVec.add_comm, BitVec.add_sub_cancel, BitVec.toNat_setWidth_of_le (by decide)]

/-- A retrigger no longer than the time the pulse still has to run leaves its end. -/
theorem laterEnd_kept (now e : Word32) (w : Word16) (shorter : w.toNat ≤ (e - now).toNat) :
    laterEnd now e (now + w.setWidth 32) = e :=
  if_pos (by rwa [pulseEnd_sub_now])

/-- A retrigger longer than the time the pulse still has to run extends it. -/
theorem laterEnd_extended (now e : Word32) (w : Word16) (longer : (e - now).toNat < w.toNat) :
    laterEnd now e (now + w.setWidth 32) = now + w.setWidth 32 :=
  if_neg (by rw [pulseEnd_sub_now]; exact Nat.not_le.mpr longer)

/-! ## Pending starts (R93) -/

/-- Of two pending pulses the larger width stays. -/
theorem pulsed_pulse (w v : Word16) :
    (PendingStart.pulse v).pulsed w = .pulse (if v.toNat ≤ w.toNat then w else v) :=
  (apply_ite PendingStart.pulse _ w v).symm

/-! ## Outcome and level (R89, section 5.1) -/

theorem outcome_eq_delayed_iff (x : Engine) : x.outcome = .delayed ↔ ∃ f r q, x = .resting f r q ∧ q ≠ .none := by
  constructor
  · intro delayed
    match x, delayed with
    | .resting f r .latch, _ => exact ⟨f, r, .latch, rfl, PendingStart.noConfusion⟩
    | .resting f r (.pulse w), _ => exact ⟨f, r, .pulse w, rfl, PendingStart.noConfusion⟩
  · rintro ⟨f, r, q, rfl, starts⟩
    cases q with
    | none => exact absurd rfl starts
    | latch => rfl
    | pulse w => rfl

/-- An engine that takes an action is DELAYED or APPLIED: suppression comes before the engine. -/
theorem outcome_ne_suppressed : ∀ x : Engine, x.outcome ≠ .suppressed
  | .off _ | .onLatched | .onPulse _ _ => LineOutcome.noConfusion
  | .resting _ _ .none | .resting _ _ .latch | .resting _ _ (.pulse _) => LineOutcome.noConfusion

theorem level_eq_true_iff (x : Engine) : x.level = true ↔ x = .onLatched ∨ ∃ f r, x = .onPulse f r := by
  constructor
  · intro high
    match x, high with
    | .onLatched, _ => exact .inl rfl
    | .onPulse f r, _ => exact .inr ⟨f, r, rfl⟩
  · rintro (rfl | ⟨f, r, rfl⟩) <;> rfl

/-! ## The table of section 5.2 -/

/-- Settles O20: the rows of the table by the engine's state, with the end of a retrigger and the pending start of a rest
each judged by its own lemma. -/
theorem engineActionsFollowTheTable : Obligations.EngineActionsFollowTheTable := by
  intro now rest w v e latch g fall pend
  refine ⟨⟨rfl, rfl, rfl⟩, ⟨rfl, rfl, rfl⟩, ⟨rfl, rfl, rfl⟩, ⟨rfl, rfl, fun shorter => ?kept, fun longer => ?extended⟩,
    ⟨rfl, rfl, rfl, rfl, ?larger⟩, outcome_eq_delayed_iff, outcome_ne_suppressed, level_eq_true_iff⟩
  case kept => exact congrArg (Engine.onPulse · latch) (laterEnd_kept now e w shorter)
  case extended => exact congrArg (Engine.onPulse · latch) (laterEnd_extended now e w longer)
  case larger => exact congrArg (Engine.resting fall e) (pulsed_pulse w v)

end Sys2Proof.Machine

/-! PROOFS. VERDICT: its body, what it does to one matched entry and to the table entry by entry, its counts, and the request
(R134 to R136). -/

namespace Sys2Proof.Machine

/-! ## One entry of a table whose indices are distinct (R45) -/

section
variable {before after : List Entry} {e : Entry} (distinct : ((before ++ e :: after).map Entry.index).Nodup)
include distinct

/-- No other entry stands at the index of the entry. -/
theorem index_ne_of_split : ∀ x ∈ before ++ after, x.index ≠ e.index := by
  have moved : ((e :: (before ++ after)).map Entry.index).Nodup :=
    (List.perm_middle.map Entry.index).nodup_iff.mp distinct
  intro x mem same
  exact (List.nodup_cons.mp moved).1 (List.mem_map.mpr ⟨x, mem, same⟩)

/-- Taking out the index of an entry takes out that entry alone. -/
theorem filter_index_split : (before ++ e :: after).filter (fun x => x.index ≠ e.index) = before ++ after := by
  have others := index_ne_of_split distinct
  rw [List.filter_append, List.filter_cons_of_neg (by simp), ← List.filter_append, List.filter_eq_self]
  exact fun x mem => decide_eq_true (others x mem)

/-- Rewriting the index of an entry rewrites that entry alone. -/
theorem map_index_split (f : Entry) :
    ((before ++ e :: after).map fun x => if x.index = e.index then f else x) = before ++ f :: after := by
  have others := index_ne_of_split distinct
  have kept (l : List Entry) (part : ∀ x ∈ l, x ∈ before ++ after) :
      (l.map fun x => if x.index = e.index then f else x) = l :=
    (List.map_congr_left fun x mem => if_neg (others x (part x mem))).trans (List.map_id _)
  rw [List.map_append, List.map_cons, if_pos rfl, kept before fun x mem => List.mem_append_left _ mem,
    kept after fun x mem => List.mem_append_right _ mem]

end

/-! ## Live counts (R51, R71) -/

theorem recount_get (live : List Entry) (q : Port) : (recount live).get q = ownedBy live q := by
  cases q <;> rfl

/-- A port owns what it owns of the other entries, and the entry if it is the owner. -/
theorem ownedBy_split (before after : List Entry) (e : Entry) (q : Port) :
    ownedBy (before ++ e :: after) q = ownedBy (before ++ after) q + if e.fields.owner = q then 1 else 0 := by
  by_cases own : e.fields.owner = q
  · simp [ownedBy, own, Nat.add_assoc]
  · simp [ownedBy, own]

section
variable {s : State} {before after : List Entry} {e : Entry} (split : s.table.live = before ++ e :: after)
  (distinct : ((before ++ e :: after).map Entry.index).Nodup)
include split distinct

theorem removeEntry_live : (s.removeEntry e).table.live = before ++ after := by
  simp only [State.removeEntry, State.setTable_table, split, filter_index_split distinct]

theorem removeCorrupt_live : (s.removeCorrupt e).table.live = before ++ after := by
  have filtered : (s.removeCorrupt e).table.live = s.table.live.filter fun x => x.index ≠ e.index := rfl
  rw [filtered, split, filter_index_split distinct]

theorem putEntry_live (f : Entry) (same : f.index = e.index) : (s.putEntry f).table.live = before ++ f :: after := by
  simp only [State.putEntry, State.setTable_table, split, same, map_index_split distinct]

/-- An entry that leaves takes one from its owner's count, and the counts still count. -/
theorem removeEntry_liveCounted (counted : s.liveCounted) : (s.removeEntry e).liveCounted := by
  intro q
  have owned := counted q
  have count : (s.removeEntry e).table.liveCount
      = s.table.liveCount.set e.fields.owner (s.table.liveCount.get e.fields.owner - 1) := rfl
  rw [split, ownedBy_split] at owned
  rw [removeEntry_live split distinct, count, PerPort.get_set]
  split
  · next same => subst same; simp [owned]
  · next other => simpa [Ne.symm other] using owned

/-- An entry rewritten for the same owner leaves counts that count. -/
theorem putEntry_liveCounted (f : Entry) (same : f.index = e.index) (owner : f.fields.owner = e.fields.owner)
    (counted : s.liveCounted) : (s.putEntry f).liveCounted := by
  intro q
  have owned := counted q
  have count : (s.putEntry f).table.liveCount = s.table.liveCount := rfl
  rw [split, ownedBy_split] at owned
  rw [putEntry_live split distinct f same, count, ownedBy_split, owner, owned]

end

/-- After the removal of a corrupt entry the counts count, whatever they were before (R71). -/
theorem removeCorrupt_liveCounted (s : State) (e : Entry) : (s.removeCorrupt e).liveCounted := fun q => recount_get _ q

/-! ## One matched entry (R135) -/

/-- The entry armed in its place, its code computed anew. -/
def Entry.arm (e : Entry) : Entry := e.rewrite { e.fields with stage := .armed }

section
variable (keep : Bool) (acc : State × VerdictCounts) (e : Entry)

theorem verdictOne_corrupt (corrupt : e.codeOk = false) : verdictOne keep acc e = (acc.1.removeCorrupt e, acc.2) := by
  simp [verdictOne, corrupt]

theorem verdictOne_late (sound : e.codeOk = true) (armed : e.fields.stage.isHeld = false) :
    verdictOne keep acc e = (acc.1, { acc.2 with late := acc.2.late + 1 }) := by
  cases stage : e.fields.stage with
  | armed => simp [verdictOne, sound, stage]
  | held d f => simp [stage, Stage.isHeld] at armed

theorem verdictOne_decided (sound : e.codeOk = true) (held : e.fields.stage.isHeld = true) :
    verdictOne keep acc e = (if keep then acc.1.putEntry e.arm else acc.1.removeEntry e,
      { acc.2 with decided := acc.2.decided + 1 }) := by
  cases stage : e.fields.stage with
  | armed => simp [stage, Stage.isHeld] at held
  | held d f => simp [verdictOne, sound, stage, Entry.arm]

end

/-- A matched entry is found corrupt, or is late, or is decided. -/
theorem verdict_cases (e : Entry) : e.codeOk = false ∨ (e.codeOk = true ∧ e.fields.stage.isHeld = false)
    ∨ (e.codeOk = true ∧ e.fields.stage.isHeld = true) := by
  cases e.codeOk <;> cases e.fields.stage.isHeld <;> simp

/-- The corrupt entries of a list as the findings that their removals hand on (R71). -/
def corruptFindings (es : List Entry) : List Finding :=
  (es.filter fun e => !e.codeOk).map fun e => .entry e.index

/-- Only the table's entries and counts differ, and these findings have been handed on. -/
def OnlyEntries (found : List Finding) (s t : State) : Prop :=
  t = { s with
    table := { s.table with live := t.table.live, liveCount := t.table.liveCount }
    wires := { s.wires with findings := s.wires.findings ++ found } }

theorem OnlyEntries.of_table {s : State} {live : List Entry} {count : PerPort Nat} :
    OnlyEntries [] s (s.setTable { s.table with live := live, liveCount := count }) := by
  simp [OnlyEntries, State.setTable]

theorem OnlyEntries.refl (s : State) : OnlyEntries [] s s := OnlyEntries.of_table

theorem OnlyEntries.trans {found more : List Finding} {s t u : State} (h : OnlyEntries found s t)
    (k : OnlyEntries more t u) : OnlyEntries (found ++ more) s u := by
  unfold OnlyEntries at *
  rw [k, h, List.append_assoc]

theorem verdictOne_frame (keep : Bool) (acc : State × VerdictCounts) (e : Entry) :
    OnlyEntries (corruptFindings [e]) acc.1 (verdictOne keep acc e).1 := by
  obtain corrupt | ⟨sound, armed⟩ | ⟨sound, held⟩ := verdict_cases e
  · have found : corruptFindings [e] = [.entry e.index] := by simp [corruptFindings, corrupt]
    rw [verdictOne_corrupt keep acc e corrupt, found]
    rfl
  all_goals have found : corruptFindings [e] = [] := by simp [corruptFindings, sound]
  · rw [verdictOne_late keep acc e sound armed, found]
    exact OnlyEntries.refl _
  · rw [verdictOne_decided keep acc e sound held, found]
    cases keep <;> exact OnlyEntries.of_table

theorem verdictOne_counts (keep : Bool) (acc : State × VerdictCounts) (e : Entry) :
    (verdictOne keep acc e).2 =
      { decided := acc.2.decided + ([e].filter fun e => e.codeOk && e.fields.stage.isHeld).length
        late := acc.2.late + ([e].filter fun e => e.codeOk && !e.fields.stage.isHeld).length } := by
  obtain corrupt | ⟨sound, armed⟩ | ⟨sound, held⟩ := verdict_cases e
  · simp [verdictOne_corrupt keep acc e corrupt, corrupt]
  · simp [verdictOne_late keep acc e sound armed, sound, armed]
  · simp [verdictOne_decided keep acc e sound held, sound, held]

/-- What a verdict leaves of a matched entry: nothing of a corrupt one, an ARMED one as it is, and a HELD one armed or, by
DROP, nothing. -/
def verdictLeaves (keep : Bool) (e : Entry) : Option Entry :=
  if e.codeOk then if e.fields.stage.isHeld then if keep then some e.arm else none else some e else none

/-- A verdict moves no entry to another index. -/
theorem verdictLeaves_index (keep : Bool) (e : Entry) : ∀ x ∈ verdictLeaves keep e, x.index = e.index := by
  intro x left
  obtain corrupt | ⟨sound, armed⟩ | ⟨sound, held⟩ := verdict_cases e
  · simp [verdictLeaves, corrupt] at left
  · have same : e = x := by simpa [verdictLeaves, sound, armed] using left
    rw [same]
  · cases keep with
    | false => simp [verdictLeaves, sound, held] at left
    | true =>
      have same : e.arm = x := by simpa [verdictLeaves, sound, held] using left
      exact same ▸ rfl

section
variable (keep : Bool) {acc : State × VerdictCounts} {before after : List Entry} {e : Entry}
  (split : acc.1.table.live = before ++ e :: after) (distinct : ((before ++ e :: after).map Entry.index).Nodup)
include split distinct

/-- The entry alone changes, to what the verdict leaves of it. -/
theorem verdictOne_live : (verdictOne keep acc e).1.table.live = before ++ ((verdictLeaves keep e).toList ++ after) := by
  obtain corrupt | ⟨sound, armed⟩ | ⟨sound, held⟩ := verdict_cases e
  · simp [verdictOne_corrupt keep acc e corrupt, verdictLeaves, corrupt, removeCorrupt_live split distinct]
  · simp [verdictOne_late keep acc e sound armed, verdictLeaves, sound, armed, split]
  · cases keep with
    | false => simp [verdictOne_decided false acc e sound held, verdictLeaves, sound, held, removeEntry_live split distinct]
    | true =>
      simp [verdictOne_decided true acc e sound held, verdictLeaves, sound, held, putEntry_live split distinct e.arm rfl]

theorem verdictOne_liveCounted (counted : acc.1.liveCounted) : (verdictOne keep acc e).1.liveCounted := by
  obtain corrupt | ⟨sound, armed⟩ | ⟨sound, held⟩ := verdict_cases e
  · rw [verdictOne_corrupt keep acc e corrupt]
    exact removeCorrupt_liveCounted acc.1 e
  · rwa [verdictOne_late keep acc e sound armed]
  · rw [verdictOne_decided keep acc e sound held]
    cases keep with
    | false => exact removeEntry_liveCounted split distinct counted
    | true => exact putEntry_liveCounted split distinct e.arm rfl rfl counted

end

/-! ## The matched entries in their order (R135) -/

theorem corruptFindings_cons (e : Entry) (es : List Entry) :
    corruptFindings (e :: es) = corruptFindings [e] ++ corruptFindings es := by
  rw [corruptFindings, ← List.singleton_append, List.filter_append, List.map_append]
  rfl

/-- A verdict changes only the table's entries and counts, and hands on a finding for each corrupt match. -/
theorem foldl_verdictOne_frame (keep : Bool) (es : List Entry) (acc : State × VerdictCounts) :
    OnlyEntries (corruptFindings es) acc.1 (es.foldl (verdictOne keep) acc).1 := by
  induction es generalizing acc with
  | nil => exact OnlyEntries.refl _
  | cons e es ih =>
    rw [List.foldl_cons, corruptFindings_cons]
    exact (verdictOne_frame keep acc e).trans (ih _)

/-- A verdict counts its sound matches, HELD ones as decided and ARMED ones as late. -/
theorem foldl_verdictOne_counts (keep : Bool) (es : List Entry) (acc : State × VerdictCounts) :
    (es.foldl (verdictOne keep) acc).2 =
      { decided := acc.2.decided + (es.filter fun e => e.codeOk && e.fields.stage.isHeld).length
        late := acc.2.late + (es.filter fun e => e.codeOk && !e.fields.stage.isHeld).length } := by
  induction es generalizing acc with
  | nil => rfl
  | cons e es ih =>
    have parts (test : Entry → Bool) :
        ((e :: es).filter test).length = ([e].filter test).length + (es.filter test).length := by
      rw [← List.singleton_append, List.filter_append, List.length_append]
    rw [List.foldl_cons, ih, verdictOne_counts, parts, parts, ← Nat.add_assoc, ← Nat.add_assoc]

/-- What a verdict leaves of an entry: of a match as `verdictLeaves` says, of any other the entry. -/
def verdictOn (hit : Entry → Bool) (keep : Bool) (e : Entry) : Option Entry :=
  if hit e then verdictLeaves keep e else some e

/-- With the entries before `rest` dealt with, the verdict on the matches of `rest` changes each in its place, and counts that
count go on counting. -/
theorem foldl_verdictOne_live (hit : Entry → Bool) (keep : Bool) (rest before : List Entry) (acc : State × VerdictCounts)
    (split : acc.1.table.live = before ++ rest) (distinct : ((before ++ rest).map Entry.index).Nodup)
    (counted : acc.1.liveCounted) :
    ((rest.filter hit).foldl (verdictOne keep) acc).1.table.live = before ++ rest.filterMap (verdictOn hit keep)
    ∧ ((rest.filter hit).foldl (verdictOne keep) acc).1.liveCounted := by
  induction rest generalizing before acc with
  | nil => exact ⟨split, counted⟩
  | cons e rest ih =>
    cases matched : hit e with
    | false =>
      have stays : verdictOn hit keep e = some e := by simp [verdictOn, matched]
      rw [List.filter_cons_of_neg (by simp [matched]), List.filterMap_cons_some stays, List.append_cons]
      exact ih (before ++ [e]) acc (by rw [split, List.append_cons]) (by rwa [← List.append_cons]) counted
    | true =>
      have left : (e :: rest).filterMap (verdictOn hit keep)
          = (verdictLeaves keep e).toList ++ rest.filterMap (verdictOn hit keep) := by
        cases leaves : verdictLeaves keep e <;> simp [verdictOn, matched, leaves]
      have places : ((verdictLeaves keep e).toList.map Entry.index).Sublist [e.index] := by
        cases leaves : verdictLeaves keep e with
        | none => simp
        | some x => simp [verdictLeaves_index keep e x leaves]
      rw [List.filter_cons_of_pos matched, List.foldl_cons, left, ← List.append_assoc]
      refine ih (before ++ (verdictLeaves keep e).toList) (verdictOne keep acc e) ?live ?distinct
        (verdictOne_liveCounted keep split distinct counted)
      case live => rw [verdictOne_live keep split distinct, List.append_assoc]
      case distinct =>
        refine distinct.sublist ?_
        simp only [List.map_append, List.map_cons, List.append_assoc]
        exact (places.append (List.Sublist.refl _)).append_left _

/-! ## KEEP and DROP over the table (R135) -/

/-- DROP takes out the corrupt and the HELD matches. -/
theorem filterMap_verdictOn_drop (hit : Entry → Bool) (l : List Entry) :
    l.filterMap (verdictOn hit false)
      = l.filter fun e => !((hit e && !e.codeOk) || (hit e && e.codeOk && e.fields.stage.isHeld)) := by
  rw [← List.filterMap_eq_filter]
  refine List.filterMap_congr fun e _ => ?_
  cases matched : hit e with
  | false => simp [verdictOn, matched, Option.guard]
  | true =>
    obtain corrupt | ⟨sound, armed⟩ | ⟨sound, held⟩ := verdict_cases e
    · simp [verdictOn, matched, verdictLeaves, Option.guard, corrupt]
    · simp [verdictOn, matched, verdictLeaves, Option.guard, sound, armed]
    · simp [verdictOn, matched, verdictLeaves, Option.guard, sound, held]

/-- KEEP takes out the corrupt matches and arms the HELD ones. -/
theorem filterMap_verdictOn_keep (hit : Entry → Bool) (l : List Entry) :
    l.filterMap (verdictOn hit true) = (l.filter fun e => !(hit e && !e.codeOk)).map fun e =>
      if hit e && e.codeOk && e.fields.stage.isHeld then e.arm else e := by
  rw [← List.filterMap_eq_map, ← List.filterMap_eq_filter, List.filterMap_filterMap]
  refine List.filterMap_congr fun e _ => ?_
  cases matched : hit e with
  | false => simp [verdictOn, matched, Option.guard]
  | true =>
    obtain corrupt | ⟨sound, armed⟩ | ⟨sound, held⟩ := verdict_cases e
    · simp [verdictOn, matched, verdictLeaves, Option.guard, corrupt]
    · simp [verdictOn, matched, verdictLeaves, Option.guard, sound, armed]
    · simp [verdictOn, matched, verdictLeaves, Option.guard, sound, held]

/-! ## The body and the match (R134) -/

/-- The templates that a selector byte names: one, or with FFh all. -/
def templateSelector (sel : Byte) : Option TemplateNo := if h : sel.toNat < 32 then some ⟨sel.toNat, h⟩ else none

/-- A VERDICT body with its fields in range is accepted. -/
theorem parseVerdict_fields (seq : Word32) (sel verd : Byte) (selRange : sel.toNat < 32 ∨ sel = 0xFF#8)
    (verdRange : verd = 0 ∨ verd = 1) : parseVerdict (be32 seq ++ [sel, verd]) =
      some { seq := seq, template := templateSelector sel, keep := verd == 0 } := by
  have selector : natAt (be32 seq ++ [sel, verd]) 4 = sel.toNat := rfl
  have verdict : natAt (be32 seq ++ [sel, verd]) 5 = verd.toNat := rfl
  have small : verd.toNat ≤ 1 := by rcases verdRange with rfl | rfl <;> decide
  have keep : decide (verd.toNat = 0) = (verd == 0) := by rcases verdRange with rfl | rfl <;> rfl
  simp only [parseVerdict, word32At_be32, selector, verdict, keep]
  rw [if_pos ⟨rfl, small⟩]
  rcases selRange with number | rfl
  · rw [if_neg (by omega), dif_pos number, templateSelector, dif_pos number]
  · rfl

/-- The match by owner, capture sequence and template number or ALL. -/
theorem selects_fields (seq : Word32) (sel : Byte) (keep : Bool) (p : Port) (selRange : sel.toNat < 32 ∨ sel = 0xFF#8)
    (e : Entry) : ({ seq := seq, template := templateSelector sel, keep := keep } : VerdictBody).selects p e =
      (e.fields.owner == p && e.fields.origin.captureSeq == some seq
        && (sel == 0xFF#8 || e.fields.origin.templateNo.elim false fun n => n.val == sel.toNat)) := by
  cases origin : e.fields.origin with
  | posted tag => simp [VerdictBody.selects, origin, Origin.captureSeq]
  | template n q =>
    have named : (templateSelector sel).elim true (fun m => n == m) = (sel == 0xFF#8 || n.val == sel.toNat) := by
      rcases selRange with number | rfl
      · have one : (sel == 0xFF#8) = false := beq_eq_false_iff_ne.mpr fun all => by simp [all] at number
        rw [templateSelector, dif_pos number, one]
        exact Bool.eq_iff_iff.mpr (by simp [Fin.ext_iff])
      · rfl
    simp [VerdictBody.selects, origin, Origin.captureSeq, Origin.templateNo, named, Bool.and_assoc]

/-! ## VERDICT (R134, R136) -/

theorem exec_verdict (p : Port) (s : State) : exec (.verdict p) s = serve .verdict p (verdictRequest p) s := rfl

/-- Outside RUN a verdict is refused WRONG_MODE. -/
theorem verdictRequest_wrongMode (p : Port) (body : List Byte) (s : State) (shut : s.table.mode ≠ .run) :
    verdictRequest p body s = (s, Reply.refuse .wrongMode) := if_pos shut

/-- A malformed verdict is refused BAD_FIELD. -/
theorem verdictRequest_badField (p : Port) (body : List Byte) (s : State) (running : s.table.mode = .run)
    (bad : parseVerdict body = none) : verdictRequest p body s = (s, Reply.refuse .badField) := by
  rw [verdictRequest, if_neg (not_not_intro running), bad]

/-- A verdict in RUN takes its matches one by one and answers their counts. -/
theorem verdictRequest_taken (p : Port) (body : List Byte) (s : State) (b : VerdictBody) (r : State × VerdictCounts)
    (running : s.table.mode = .run) (parsed : parseVerdict body = some b)
    (folded : (s.table.live.filter (b.selects p)).foldl (verdictOne b.keep) (s, ⟨0, 0⟩) = r) :
    verdictRequest p body s = (r.1, { status := r.2.status, body := be16Nat r.2.decided ++ be16Nat r.2.late }) := by
  rw [verdictRequest, if_neg (not_not_intro running), parsed, ← folded]

/-- The status by the counts, in the order of the table of R136. -/
theorem VerdictCounts.status_eq (decided late : Nat) : VerdictCounts.status ⟨decided, late⟩ =
    if 1 ≤ decided then .ok else if 1 ≤ late then .late else .notHeld := by
  simp only [VerdictCounts.status, ne_eq, Nat.one_le_iff_ne_zero]

/-- Settles O26: the checks of R134 in their order, then the fold over the matches by its frame, its counts and its table. -/
theorem verdictDecidesHeldInstances : Obligations.VerdictDecidesHeldInstances := by
  intro s p w waits
  rw [exec_verdict]
  refine ⟨fun shut => ?wrongMode, fun running bad => ?badField,
    fun seq sel verd running body selRange verdRange law => ?taken⟩
  case wrongMode => exact serve_kept waits _ _ (verdictRequest_wrongMode p w.body s shut)
  case badField => exact serve_kept waits _ _ (verdictRequest_badField p w.body s running bad)
  case taken =>
    intro hit corrupt held decided late armed
    obtain ⟨-, distinct, -, counted⟩ := law
    have parsed := body ▸ parseVerdict_fields seq sel verd selRange verdRange
    generalize folded : (s.table.live.filter hit).foldl (verdictOne (verd == 0)) (s, ⟨0, 0⟩) = r
    have matches_hit : VerdictBody.selects ⟨seq, templateSelector sel, verd == 0⟩ p = hit :=
      funext (selects_fields seq sel (verd == 0) p selRange)
    have taken := verdictRequest_taken p w.body s _ r running parsed (by rw [matches_hit]; exact folded)
    have frame := foldl_verdictOne_frame (verd == 0) (s.table.live.filter hit) (s, ⟨0, 0⟩)
    have counts := foldl_verdictOne_counts (verd == 0) (s.table.live.filter hit) (s, ⟨0, 0⟩)
    obtain ⟨live, recounted⟩ := foldl_verdictOne_live hit (verd == 0) s.table.live [] (s, ⟨0, 0⟩) rfl distinct counted
    rw [folded] at frame counts live recounted
    have tallied : r.2 = ⟨decided, late⟩ := by
      rw [counts]
      simp [decided, late, held, List.filter_filter, Bool.and_comm, Bool.and_assoc, Bool.and_left_comm]
    have found : corruptFindings (s.table.live.filter hit) = (s.table.live.filter corrupt).map fun e => .entry e.index := by
      simp [corruptFindings, corrupt, List.filter_filter, Bool.and_comm]
    rw [found] at frame
    refine ⟨r.1, ?reply, frame, fun drop => ?drop, fun keep => ?keep, recounted⟩
    case reply =>
      rw [serve_unnoticed waits _ _ _ taken (by rw [frame]), tallied, VerdictCounts.status_eq]
      rfl
    case drop =>
      subst drop
      exact live.trans (filterMap_verdictOn_drop hit _)
    case keep =>
      subst keep
      exact live.trans (filterMap_verdictOn_keep hit _)

end Sys2Proof.Machine

/-! PROOFS. Frames by part: the parts of the state that the laws and rules speak of, which of them an operation and each command
may touch, and what a step comes to. -/

namespace Sys2Proof.Machine

/-! ## The parts of the state -/

/-- A part of the state that operations touch or leave alone as a whole. -/
inductive Part where
  | pending | inReset | pinA | pinB | pinReadback | pinSafeIn | now | position
  | lineMode | lineTimer | line
  | entries | generations | commits | tablePos | tableMode | tableLimits
  | slotContents | slotPos | slotMode | sensor | captures | logMode | places | templateMode
  | mode | causes | corruption | params | scrubber | softArmed | notices | ports
  | motion | asks | edges | handOffs | boundaries | findings | posted
  | toTimetable | toSlots | toTemplates | toLog | toLines | toPosition | freeCount
  deriving DecidableEq

/-- Two states agree on a part. -/
def Part.Same (s t : State) : Part → Prop
  | .pending => t.pending = s.pending
  | .inReset => t.inReset = s.inReset
  | .pinA => t.pinA = s.pinA
  | .pinB => t.pinB = s.pinB
  | .pinReadback => t.pinReadback = s.pinReadback
  | .pinSafeIn => t.pinSafeIn = s.pinSafeIn
  | .now => t.now = s.now
  | .position => t.position = s.position
  | .lineMode => t.lineBlock.mode = s.lineBlock.mode
  | .lineTimer => t.lineBlock.historyStart = s.lineBlock.historyStart
      ∧ t.lineBlock.historyPeriod = s.lineBlock.historyPeriod
  | .line => t.line = s.line
  | .entries => t.table.live = s.table.live ∧ t.table.liveCount = s.table.liveCount
  | .generations => t.table.generations = s.table.generations
  | .commits => t.table.commitCounter = s.table.commitCounter
  | .tablePos => t.table.pos = s.table.pos ∧ t.table.askedSafe = s.table.askedSafe
  | .tableMode => t.table.mode = s.table.mode
  | .tableLimits => t.table.limits = s.table.limits
  | .slotContents => ∀ p, (t.slots.get p).slot = (s.slots.get p).slot ∧ (t.slots.get p).age = (s.slots.get p).age
  | .slotPos => ∀ p, (t.slots.get p).pos = (s.slots.get p).pos ∧ (t.slots.get p).lead = (s.slots.get p).lead
  | .slotMode => ∀ p, (t.slots.get p).mode = (s.slots.get p).mode
  | .sensor => t.sensor = s.sensor
  | .captures => t.log = { s.log with mode := t.log.mode }
  | .logMode => t.log.mode = s.log.mode
  | .places => t.templates.place = s.templates.place
  | .templateMode => t.templates.mode = s.templates.mode
  | .mode => t.control.mode = s.control.mode
  | .causes => t.control.firstCause = s.control.firstCause ∧ t.control.later = s.control.later
  | .corruption => t.control.corruption = s.control.corruption
  | .params => t.control.params = s.control.params
  | .scrubber => t.control.scrubPos = s.control.scrubPos ∧ t.control.scrubRounds = s.control.scrubRounds
      ∧ t.control.visitStart = s.control.visitStart
  | .softArmed => t.control.softArmed = s.control.softArmed ∧ t.control.resetKind = s.control.resetKind
  | .notices => t.notices = s.notices
  | .ports => t.ports = s.ports
  | .motion => t.wires.timetableMotion = s.wires.timetableMotion ∧ t.wires.slotsMotion = s.wires.slotsMotion
  | .asks => t.wires.overrunAsks = s.wires.overrunAsks
  | .edges => t.wires.edges = s.wires.edges
  | .handOffs => t.wires.handOffs = s.wires.handOffs
  | .boundaries => t.wires.boundaries = s.wires.boundaries
  | .findings => t.wires.findings = s.wires.findings
  | .posted => t.wires.notices = s.wires.notices
  | .toTimetable => t.wires.toTimetable = s.wires.toTimetable
  | .toSlots => t.wires.toSlots = s.wires.toSlots
  | .toTemplates => t.wires.toTemplates = s.wires.toTemplates
  | .toLog => t.wires.toLog = s.wires.toLog
  | .toLines => t.wires.toLines = s.wires.toLines
  | .toPosition => t.wires.toPosition = s.wires.toPosition
  | .freeCount => t.freeCount = s.freeCount

@[simp] theorem Part.same_refl (s : State) (x : Part) : x.Same s s := by cases x <;> simp [Part.Same]

theorem Part.same_trans {s t u : State} {x : Part} (h : x.Same s t) (k : x.Same t u) : x.Same s u := by
  cases x <;> simp only [Part.Same] at h k ⊢
  case captures => rw [k, h]
  all_goals simp_all

/-- Only the parts listed may differ. -/
def Touches (parts : List Part) (s t : State) : Prop := ∀ x, x ∉ parts → x.Same s t

@[simp] theorem Touches.refl (parts : List Part) (s : State) : Touches parts s s := fun x _ => x.same_refl s

theorem Touches.trans {parts : List Part} {s t u : State} (h : Touches parts s t) (k : Touches parts t u) :
    Touches parts s u := fun x hx => Part.same_trans (h x hx) (k x hx)

theorem Touches.mono {parts more : List Part} {s t : State} (h : Touches parts s t) (sub : parts ⊆ more) :
    Touches more s t := fun x hx => h x fun m => hx (sub m)

/-- One operation after another. -/
theorem Touches.comp {a b : List Part} {s t u : State} (h : Touches a s t) (k : Touches b t u) :
    Touches (a ++ b) s u :=
  (h.mono (List.subset_append_left a b)).trans (k.mono (List.subset_append_right a b))

theorem Touches.foldl {σ : Type} {parts : List Part} {f : State → σ → State} (hf : ∀ s a, Touches parts s (f s a))
    (l : List σ) (s : State) : Touches parts s (l.foldl f s) :=
  foldl_keeps (Touches parts) f (Touches.refl parts) (fun _ _ _ => Touches.trans) hf l s

/-! ## Accessors -/

theorem setLine_touches (s : State) (l : LineNo) (r : LineRec) : Touches [.line] s (s.setLine l r) := by
  intro x hx; cases x <;> simp_all [Part.Same]

theorem setNotices_touches (s : State) (p : Port) (x : NoticeState) : Touches [.notices] s (s.setNotices p x) := by
  intro x hx; cases x <;> simp_all [Part.Same]

theorem setPort_touches (s : State) (p : Port) (x : PortRec) : Touches [.ports] s (s.setPort p x) := by
  intro x hx; cases x <;> simp_all [Part.Same]

theorem setPlace_touches (s : State) (n : TemplateNo) (o : Option Template) : Touches [.places] s (s.setPlace n o) := by
  intro x hx; cases x <;> simp_all [Part.Same]

theorem setSensor_touches (s : State) (k : SensorNo) (x : Sensor) : Touches [.sensor] s (s.setSensor k x) := by
  intro x hx; cases x <;> simp_all [Part.Same]

theorem setPosition_touches (s : State) (u : PositionUnit) : Touches [.position] s (s.setPosition u) := by
  intro x hx; cases x <;> simp_all [Part.Same]

theorem setPhase_touches (s : State) (p : Port) (w : Work) (ph : WorkPhase) : Touches [.ports] s (s.setPhase p w ph) :=
  setPort_touches _ _ _

theorem notify_touches (s : State) (src : NoticeSource) (p : Port) (n : Notice) : Touches [.posted] s (s.notify src p n) := by
  intro x hx; cases x <;> simp_all [Part.Same, State.notify]

theorem notifyAll_touches (s : State) (src : NoticeSource) (n : Notice) : Touches [.posted] s (s.notifyAll src n) :=
  Touches.foldl (fun s p => notify_touches s src p n) _ _

theorem markOwn_touches (s : State) (p : Port) (n : Nat) : Touches [.posted] s (s.markOwn p n) := by
  intro x hx; cases x <;> simp_all [Part.Same, State.markOwn]

theorem handFinding_touches (s : State) (f : Finding) : Touches [.findings] s (s.handFinding f) := by
  intro x hx; cases x <;> simp_all [Part.Same, State.handFinding]

theorem handMotion_touches (s : State) (e : MotionEvent) : Touches [.motion] s (s.handMotion e) := by
  intro x hx; cases x <;> simp_all [Part.Same, State.handMotion]


/-! ## Shared operations -/

theorem changeLine_touches (s : State) (l : LineNo) (f : LineRec → LineRec) : Touches [.line] s (s.changeLine l f) :=
  setLine_touches _ _ _

theorem changeLines_touches (s : State) (x : LineSet) (f : LineRec → LineRec) : Touches [.line] s (s.changeLines x f) :=
  Touches.foldl (fun s l => changeLine_touches s l f) _ _

theorem closeLines_touches {parts : List Part} (before : State) {s t : State} (h : Touches parts s t) (m : .line ∈ parts) :
    Touches parts s (closeLines before t) :=
  h.trans (Touches.mono (parts := [.line])
    (fun x hx => by cases x <;> simp_all [Part.Same, closeLines]) (by simpa using m))

/-- The messages of the Mode Controller to the blocks. -/
def messageParts : List Part := [.toTimetable, .toSlots, .toTemplates, .toLog, .toLines]

/-- What a cut and a consultation about lines may touch. -/
def workParts : List Part := [.line, .slotContents, .entries, .places, .findings]

/-- What an admission may touch. -/
def proposalParts : List Part := [.generations, .commits, .posted] ++ workParts

/-- What a change of the device mode or a SAFE cause may touch. -/
def causeParts : List Part := [.mode, .causes, .posted, .notices] ++ messageParts

theorem handChange_touches (s : State) (old new : Mode) : Touches messageParts s (s.handChange old new) := by
  intro x hx; cases x <;> simp_all [Part.Same, State.handChange, messageParts]

theorem setMode_touches (s : State) (m : Mode) : Touches [.mode] s (s.setControl { s.control with mode := m }) := by
  intro x hx; cases x <;> simp_all [Part.Same]

theorem setCause_touches (s : State) (o : Option SafeCause) :
    Touches [.causes] s (s.setControl { s.control with firstCause := o }) := by
  intro x hx; cases x <;> simp_all [Part.Same]

theorem changeMode_touches (s : State) (new : Mode) (reason : Nat) (line : Option LineNo) :
    Touches ([.mode, .posted] ++ messageParts) s (s.changeMode new reason line) :=
  ((setMode_touches _ _).comp ((notifyAll_touches _ _ _).comp (handChange_touches _ _ _))).mono (by decide)

theorem endInit_touches (s : State) (new : Mode) : Touches ([.mode, .notices] ++ messageParts) s (s.endInit new) := by
  intro x hx
  cases x <;> simp_all [Part.Same, State.endInit, State.handChange, messageParts, State.setWires, State.setControl]

theorem takeCause_touches (s : State) (cause : SafeCause) (line : Option LineNo) :
    Touches causeParts s (s.takeCause cause line) := by
  unfold State.takeCause
  split
  · intro x hx; cases x <;> simp_all [Part.Same, causeParts]
  · exact ((setCause_touches _ _).comp (endInit_touches _ _)).mono (by decide)
  all_goals exact ((setCause_touches _ _).comp (changeMode_touches _ _ _ _)).mono (by decide)

theorem takeLimits_touches (s : State) : Touches [.tableLimits, .toTimetable] s s.takeLimits := by
  intro x hx; cases x <;> simp_all [Part.Same, State.takeLimits]

/-- A change of one port's slots that keeps position, lead and mode. -/
theorem setSlots_touches {s : State} {p : Port} {b : Slots} (pos : b.pos = (s.slots.get p).pos)
    (lead : b.lead = (s.slots.get p).lead) (mode : b.mode = (s.slots.get p).mode) :
    Touches [.slotContents] s (s.setSlots p b) := by
  intro x hx
  cases x <;> simp only [Part.Same, State.setSlots_slots, PerPort.get_set] <;> simp_all
  all_goals intro q; split <;> simp_all

theorem setEntries_touches (s : State) (live : List Entry) (count : PerPort Nat) :
    Touches [.entries] s (s.setTable { s.table with live := live, liveCount := count }) := by
  intro x hx; cases x <;> simp_all [Part.Same]

theorem setPlaces_touches (s : State) (place : Vector (Option Template) 32) :
    Touches [.places] s { s with templates := { s.templates with place := place } } := by
  intro x hx; cases x <;> simp_all [Part.Same]

theorem cut_touches (s : State) (p : Port) (x : LineSet) : Touches [.slotContents, .entries, .places] s (s.cut p x) :=
  ((setSlots_touches (s := s) (p := p) (b := Slots.cut x (s.slots.get p)) rfl rfl rfl).comp
    ((setEntries_touches _ _ _).comp (setPlaces_touches _ _)))

theorem cutAll_touches (s : State) (ps : List Port) (x : LineSet) :
    Touches [.slotContents, .entries, .places] s (s.cutAll ps x) :=
  Touches.foldl (fun s p => cut_touches s p x) _ _

theorem clearLine_touches (s : State) (l : LineNo) : Touches workParts s (s.clearLine l) :=
  (closeLines_touches s (((setLine_touches _ _ _).comp (cutAll_touches _ _ _)).mono (by decide)) (by decide)).trans
    ((handFinding_touches _ _).mono (by decide))

theorem verifyLine_touches (s : State) (l : LineNo) : Touches workParts s (s.verifyLine l) := by
  unfold State.verifyLine
  split
  · exact .refl _ _
  · exact clearLine_touches s l

theorem consult_touches (s : State) (x : LineSet) : Touches workParts s (s.consult x) :=
  Touches.foldl verifyLine_touches _ _

theorem removeEntry_touches (s : State) (e : Entry) : Touches [.entries] s (s.removeEntry e) := setEntries_touches _ _ _

theorem removeCorrupt_touches (s : State) (e : Entry) : Touches [.entries, .findings] s (s.removeCorrupt e) :=
  (setEntries_touches _ _ _).comp (handFinding_touches _ _)

theorem putEntry_touches (s : State) (e : Entry) : Touches [.entries] s (s.putEntry e) := setEntries_touches _ _ _

theorem displace_touches (s : State) (c : Entry × LineSet) : Touches [.entries, .posted] s (s.displace c) :=
  (removeEntry_touches _ _).comp (notify_touches _ _ _ _)

theorem displaceAll_touches (s : State) (out : List (Entry × LineSet)) :
    Touches [.entries, .posted] s (out.foldl State.displace s) :=
  Touches.foldl displace_touches _ _

theorem setTable_place_touches (s : State) (n : Proposal) (i : Fin 256) :
    Touches [.entries, .generations, .commits] s (s.setTable (s.table.place n i)) := by
  intro x hx; cases x <;> simp_all [Part.Same, Timetable.place]

theorem placeProposal_touches (s : State) (n : Proposal) (out : List (Entry × LineSet)) :
    Touches [.entries, .generations, .commits, .posted] s (s.placeProposal n out).1 := by
  unfold State.placeProposal
  simp only
  split
  · exact .refl _ _
  · exact ((displaceAll_touches _ _).comp (setTable_place_touches _ _ _)).mono (by decide)

theorem propose_touches (s : State) (n : Proposal) : Touches proposalParts s (s.propose n).1 := by
  have consulted : Touches proposalParts s (s.consult n.lines) := (consult_touches _ _).mono (by decide)
  unfold State.propose
  split
  · exact .refl _ _
  · simp only
    split
    · exact consulted
    · split
      · exact consulted
      · split
        · exact consulted
        · exact consulted.trans ((placeProposal_touches _ _ _).mono (by decide))

/-! ## Slots -/

theorem commitSlot_touches (s : State) (p : Port) (reason : CommitReason) (i : Fin 4) :
    Touches proposalParts s (s.commitSlot p reason i).1 := by
  unfold State.commitSlot
  split
  · exact .refl _ _
  · have emptied : Touches [.slotContents] s (s.setSlots p ((s.slots.get p).empty i)) := setSlots_touches rfl rfl rfl
    exact (emptied.mono (by decide)).trans (propose_touches _ _)

theorem commitSlots_touches (p : Port) (reason : CommitReason) (is : List (Fin 4)) (s : State) :
    Touches proposalParts s (s.commitSlots p reason is).1 := by
  induction is generalizing s with
  | nil => exact .refl _ _
  | cons i rest ih => exact (commitSlot_touches s p reason i).trans (ih _)

theorem leadCommits_touches (s : State) (p : Port) : Touches proposalParts s (s.leadCommits p) :=
  (commitSlots_touches _ _ _ _).trans
    (Touches.foldl (fun s _ => (notify_touches s _ _ _).mono (by decide)) _ _)

theorem makeRoom_touches (s : State) (p : Port) : Touches proposalParts s (s.makeRoom p).1 := by
  unfold State.makeRoom
  split
  · exact commitSlot_touches _ _ _ _
  · exact .refl _ _

theorem placePost_touches (s : State) (p : Port) (b : PostBody) : Touches proposalParts s (s.placePost p b).1 := by
  unfold State.placePost
  split
  · rename_i i _
    have merged : Touches [.slotContents] s (s.setSlots p ((s.slots.get p).merge i b.lines)) := setSlots_touches rfl rfl rfl
    exact merged.mono (by decide)
  · have put (t : State) (i : Fin 4) : Touches [.slotContents] t (t.setSlots p ((t.slots.get p).put i b)) :=
      setSlots_touches rfl rfl rfl
    exact (makeRoom_touches s p).trans ((put _ _).mono (by decide))

theorem commitAfterPost_touches (s : State) (p : Port) (b : PostBody) (x : Placed) :
    Touches proposalParts s (s.commitAfterPost p b x).1 := by
  unfold State.commitAfterPost
  split
  · exact commitSlots_touches _ _ _ _
  · split
    · exact commitSlot_touches _ _ _ _
    · exact .refl _ _

theorem postRequest_touches (p : Port) (body : List Byte) (s : State) : Touches proposalParts s (postRequest p body s).1 := by
  unfold postRequest
  split
  · exact .refl _ _
  · split
    · exact .refl _ _
    · rename_i b _
      have consulted : Touches proposalParts s (s.consult b.lines) := (consult_touches _ _).mono (by decide)
      simp only
      split
      · exact consulted
      · split
        · exact consulted
        · split
          · exact consulted
          · exact consulted.trans ((placePost_touches _ _ _).trans (commitAfterPost_touches _ _ _ _))

end Sys2Proof.Machine

/-! PROOFS. What each command may touch, and the induction over a step. -/

namespace Sys2Proof.Machine

/-! ## What a command answers -/

/-- Under the guard of a reset the state is left, or the event is taken. -/
theorem whenRunning_cases {f : State → State} {s t : State} (h : whenRunning f s = .next t) :
    t = s ∨ (s.inReset = none ∧ t = f s) := by
  unfold whenRunning at h
  cases r : s.inReset with
  | none => rw [r] at h; exact .inr ⟨rfl, (Host.Outcome.next.inj h).symm⟩
  | some k => rw [r] at h; exact .inl (Host.Outcome.next.inj h).symm

/-- A request is not taken, or its handler acts, the requester's notices are marked and the reply is held (R171). -/
theorem serve_cases {k : ReqKind} {p : Port} {f : List Byte → State → State × Reply} {s t : State}
    (h : serve k p f s = .next t) : t = s ∨ ∃ w, s.request p k = some w ∧
      t = ((f w.body s).1.markOwn p (s.wires.notices.get p).length).setPhase p w
        (.done (f w.body s).2.status (f w.body s).2.body) := by
  unfold serve at h
  cases r : s.request p k with
  | none => rw [r] at h; exact .inl (Host.Outcome.next.inj h).symm
  | some w => rw [r] at h; exact .inr ⟨w, rfl, (Host.Outcome.next.inj h).symm⟩

theorem whenRunning_touches {parts : List Part} {f : State → State} {s t : State} (h : whenRunning f s = .next t)
    (k : Touches parts s (f s)) : Touches parts s t := by
  obtain rfl | ⟨-, rfl⟩ := whenRunning_cases h
  · exact .refl _ _
  · exact k

theorem serve_touches {parts : List Part} {k : ReqKind} {p : Port} {f : List Byte → State → State × Reply} {s t : State}
    (h : serve k p f s = .next t) (hf : ∀ body, Touches parts s (f body s).1) :
    Touches (parts ++ [.posted, .ports]) s t := by
  obtain rfl | ⟨w, -, rfl⟩ := serve_cases h
  · exact .refl _ _
  · exact (hf w.body).comp ((markOwn_touches _ _ _).comp (setPhase_touches _ _ _ _))

theorem reading_touches (parts : List Part) (f : List Byte → State → Reply) (body : List Byte) (s : State) :
    Touches parts s (reading f body s).1 := .refl _ _

/-! ## Resets -/

/-- What a device reset may touch: all but the pins, the queue and the counter of free values. -/
def resetParts : List Part :=
  [.inReset, .now, .position, .lineMode, .lineTimer, .line, .entries, .generations, .commits, .tablePos, .tableMode,
    .tableLimits, .slotContents, .slotPos, .slotMode, .sensor, .captures, .logMode, .places, .templateMode]
  ++ [.mode, .causes, .corruption, .params, .scrubber, .softArmed, .notices, .ports, .motion, .asks, .edges, .handOffs,
    .boundaries, .findings, .posted, .toTimetable, .toSlots, .toTemplates, .toLog, .toLines, .toPosition]

theorem resetParts_spare (x : Part) (h : x ∉ resetParts) :
    x = .pending ∨ x = .pinA ∨ x = .pinB ∨ x = .pinReadback ∨ x = .pinSafeIn ∨ x = .freeCount := by
  revert h; cases x <;> decide

theorem restarted_touches (s : State) (q : Params) (k : ResetKind) : Touches resetParts s (s.restarted q k) := by
  intro x hx
  obtain rfl | rfl | rfl | rfl | rfl | rfl := resetParts_spare x hx <;> rfl

theorem startReset_touches (s : State) (k : ResetKind) : Touches resetParts s (s.startReset k) := by
  intro x hx
  obtain rfl | rfl | rfl | rfl | rfl | rfl := resetParts_spare x hx <;> rfl

theorem consultSafeIn_touches (s : State) : Touches causeParts s s.consultSafeIn := by
  unfold State.consultSafeIn
  split
  · exact takeCause_touches _ _ _
  · exact .refl _ _

theorem softReset_eq (s : State) : s.softReset = State.consultSafeIn { s.restarted s.control.params .soft with
    line := Vector.ofFn fun l => { (s.restarted s.control.params .soft).line[l] with
      engine := s.line[l].engine.afterSoftReset s.control.params.rest[l] } } := rfl

theorem softReset_touches (s : State) : Touches resetParts s s.softReset := by
  have engines (t : State) (v : Vector LineRec 32) : Touches [.line] t { t with line := v } := by
    intro x hx; cases x <;> simp_all [Part.Same]
  exact ((restarted_touches _ _ _).trans ((engines _ _).mono (by decide))).trans
    ((consultSafeIn_touches _).mono (by decide))

/-- RESET_END ends the reset in force, if there is one (R140). -/
theorem execResetEnd_cases {s t : State} (h : execResetEnd s = .next t) :
    t = s ∨ ∃ k, s.inReset = some k ∧ t = (s.restarted s.control.params k).consultSafeIn := by
  unfold execResetEnd at h
  split at h
  · exact .inl (Host.Outcome.next.inj h).symm
  · exact .inr ⟨_, ‹_›, (Host.Outcome.next.inj h).symm⟩

theorem execResetEnd_touches {s t : State} (h : execResetEnd s = .next t) : Touches resetParts s t := by
  obtain rfl | ⟨k, -, rfl⟩ := execResetEnd_cases h
  · exact .refl _ _
  · exact (restarted_touches _ _ _).trans ((consultSafeIn_touches _).mono (by decide))

/-- The record of a port as its select is released (R173). -/
def PortRec.released (r : PortRec) : PortRec := if r.refusing then r.refusedClosed else r.closed

/-- A release of a select that is released does nothing; another ends the transaction, and may start the soft reset (R157, R173). -/
theorem execSelectRelease_cases {p : Port} {s t : State} (h : execSelectRelease p s = .next t) :
    t = s ∨ ((s.ports.get p).selected = true ∧
      (t = s.setPort p (s.ports.get p).released ∨ t = (s.setPort p (s.ports.get p).released).softReset)) := by
  unfold execSelectRelease at h
  simp only at h
  by_cases selected : (s.ports.get p).selected = true
  · rw [if_pos selected] at h
    refine .inr ⟨selected, ?_⟩
    split at h
    · exact .inr (Host.Outcome.next.inj h).symm
    · exact .inl (Host.Outcome.next.inj h).symm
  · rw [if_neg selected] at h
    exact .inl (Host.Outcome.next.inj h).symm

theorem execSelectRelease_touches {p : Port} {s t : State} (h : execSelectRelease p s = .next t) :
    Touches resetParts s t := by
  have closed := (setPort_touches s p (s.ports.get p).released).mono (more := resetParts) (by decide)
  obtain rfl | ⟨-, rfl | rfl⟩ := execSelectRelease_cases h
  · exact .refl _ _
  · exact closed
  · exact closed.trans (softReset_touches _)

/-- RESET_DEVICE is not taken, resets at once after a cut, is refused, or is accepted and waits for the release (R157). -/
theorem execResetDevice_cases {s t : State} (h : execResetDevice s = .next t) :
    t = s ∨ t = s.softReset ∨ ∃ w ph, s.request .A .resetDevice = some w ∧ (t = s.setPhase .A w ph
      ∨ t = (s.setControl { s.control with softArmed := true }).setPhase .A w ph) := by
  unfold execResetDevice at h
  cases r : s.request .A .resetDevice with
  | none => rw [r] at h; exact .inl (Host.Outcome.next.inj h).symm
  | some w =>
    rw [r] at h
    simp only at h
    split at h
    · exact .inr (.inr ⟨w, _, rfl, .inl (Host.Outcome.next.inj h).symm⟩)
    · split at h
      · exact .inr (.inl (Host.Outcome.next.inj h).symm)
      · exact .inr (.inr ⟨w, _, rfl, .inr (Host.Outcome.next.inj h).symm⟩)

theorem execResetDevice_touches {s t : State} (h : execResetDevice s = .next t) : Touches resetParts s t := by
  have armed : Touches [.softArmed] s (s.setControl { s.control with softArmed := true }) := by
    intro x hx; cases x <;> simp_all [Part.Same]
  obtain rfl | rfl | ⟨w, ph, -, rfl | rfl⟩ := execResetDevice_cases h
  · exact .refl _ _
  · exact softReset_touches _
  · exact (setPhase_touches _ _ _ _).mono (by decide)
  · exact (armed.comp (setPhase_touches _ _ _ _)).mono (by decide)

theorem initEnd_touches (s : State) : Touches causeParts s (if s.control.mode = .init then
    (if s.pinSafeIn then s.takeCause .safeIn none else s.endInit .config) else s) := by
  split
  · split
    · exact takeCause_touches _ _ _
    · exact (endInit_touches _ _).mono (by decide)
  · exact .refl _ _

/-- SAFEIN_ASSERT moves the pin, and its change raises the cause outside a reset (R145). -/
theorem execSafeinAssert_cases {s t : State} (h : execSafeinAssert s = .next t) :
    t = s ∨ t = { s with pinSafeIn := true } ∨ t = State.takeCause { s with pinSafeIn := true } .safeIn none := by
  unfold execSafeinAssert at h
  split at h
  · exact .inl (Host.Outcome.next.inj h).symm
  · simp only at h
    split at h
    · exact .inr (.inl (Host.Outcome.next.inj h).symm)
    · exact .inr (.inr (Host.Outcome.next.inj h).symm)

theorem execSafeinAssert_touches {s t : State} (h : execSafeinAssert s = .next t) :
    Touches (.pinSafeIn :: causeParts) s t := by
  have pin : Touches [.pinSafeIn] s { s with pinSafeIn := true } := by
    intro x hx; cases x <;> simp_all [Part.Same]
  obtain rfl | rfl | rfl := execSafeinAssert_cases h
  · exact .refl _ _
  · exact pin.mono (by decide)
  · exact pin.comp (takeCause_touches _ _ _)

theorem setPinSafeIn_touches (s : State) (b : Bool) : Touches [.pinSafeIn] s { s with pinSafeIn := b } := by
  intro x hx; cases x <;> simp_all [Part.Same]

/-! ## Position -/

theorem setAsks_touches (s : State) (a : List (Option Nat)) :
    Touches [.asks] s (s.setWires { s.wires with overrunAsks := a }) := by
  intro x hx; cases x <;> simp_all [Part.Same]

theorem notifyMotion_touches (s : State) (r : Option MotionReason) : Touches [.posted] s (s.notifyMotion r) := by
  cases r with
  | none => exact .refl _ _
  | some m => exact notifyAll_touches _ _ _

/-- What a step event may touch. -/
def stepParts : List Part := [.position, .motion, .posted, .asks]

theorem stepEvent_touches (s : State) (forward : Bool) : Touches stepParts s (s.stepEvent forward) := by
  have moved : Touches stepParts s ((s.setPosition (s.position.stepped s.now s.control.params.reverseLimit forward)).handMotion
      (.step forward (s.position.stepped s.now s.control.params.reverseLimit forward).p (asksSafe s.position.motion
        (s.position.stepped s.now s.control.params.reverseLimit forward).motion forward))) :=
    ((setPosition_touches _ _).comp (handMotion_touches _ _)).mono (by decide)
  have told := moved.trans ((notifyMotion_touches _ (motionReason s.position.motion
    (s.position.stepped s.now s.control.params.reverseLimit forward).motion)).mono (by decide))
  unfold State.stepEvent
  simp only
  split
  · exact told.trans ((setAsks_touches _ _).mono (by decide))
  · exact told

theorem decode_touches (s : State) (a b : Bool) : Touches stepParts s (s.decode a b) := by
  have refs : Touches stepParts s (s.setPosition { s.position with refA := a, refB := b }) :=
    (setPosition_touches _ _).mono (by decide)
  unfold State.decode
  split
  · simp only
    split
    · exact refs
    · exact refs.trans (stepEvent_touches _ _)
    · exact refs.trans (stepEvent_touches _ _)
    · exact refs.trans (((setPosition_touches _ _).comp (notifyMotion_touches _ _)).mono (by decide))
  · simp only
    split
    · exact refs.trans (stepEvent_touches _ _)
    · exact refs
  · exact .refl _ _

theorem motionPins_touches (s : State) (a b : Bool) : Touches ([.pinA, .pinB] ++ stepParts) s (s.motionPins a b) := by
  have pins : Touches [.pinA, .pinB] s { s with pinA := a, pinB := b } := by
    intro x hx; cases x <;> simp_all [Part.Same]
  unfold State.motionPins
  simp only
  split
  · exact pins.mono (by decide)
  · exact pins.comp (decode_touches _ _ _)

theorem stallExpiry_touches (s : State) : Touches [.position, .posted] s s.stallExpiry :=
  (setPosition_touches _ _).comp (notifyMotion_touches _ _)

theorem setToPosition_touches (s : State) (q : List BlockMessage) : Touches [.toPosition] s (s.setToPosition q) := by
  intro x hx; cases x <;> simp_all [Part.Same, State.setToPosition]

theorem setToLines_touches (s : State) (q : List BlockMessage) : Touches [.toLines] s (s.setToLines q) := by
  intro x hx; cases x <;> simp_all [Part.Same, State.setToLines]

theorem presetPositionRequest_touches (body : List Byte) (s : State) :
    Touches [.position, .motion] s (presetPositionRequest body s).1 := by
  unfold presetPositionRequest
  split
  · exact .refl _ _
  · split
    · exact .refl _ _
    · exact (setPosition_touches _ _).comp (handMotion_touches _ _)

/-! ## The Line Block -/

theorem leaseRequest_touches (p : Port) (body : List Byte) (s : State) : Touches [.line] s (leaseRequest p body s).1 := by
  unfold leaseRequest
  repeat' split
  all_goals first | exact changeLines_touches _ _ _ | exact .refl _ _

theorem releaseRequest_touches (p : Port) (body : List Byte) (s : State) :
    Touches [.line, .slotContents, .entries, .places] s (releaseRequest p body s).1 := by
  unfold releaseRequest
  repeat' split
  all_goals first | exact .refl _ _ | exact (changeLines_touches _ _ _).comp (cut_touches _ _ _)

theorem revokePort_touches (s : State) (p : Port) (x : LineSet) :
    Touches [.slotContents, .entries, .places, .posted] s (s.revokePort p x) := by
  unfold State.revokePort
  split
  · exact .refl _ _
  · exact (cut_touches _ _ _).comp (notify_touches _ _ _ _)

theorem revokeRequest_touches (body : List Byte) (s : State) :
    Touches [.line, .slotContents, .entries, .places, .posted] s (revokeRequest body s).1 := by
  unfold revokeRequest
  repeat' split
  all_goals first
    | exact .refl _ _
    | exact (changeLines_touches _ _ _).comp (Touches.foldl (fun t p => revokePort_touches t p _) _ _)

theorem forceLines_touches (s : State) (x : LineSet) (f : Force) : Touches [.line] s (s.forceLines x f) :=
  closeLines_touches _ (changeLines_touches _ _ _) (by decide)

theorem forceRequest_touches (body : List Byte) (s : State) : Touches [.line] s (forceRequest body s).1 := by
  unfold forceRequest
  repeat' split
  all_goals first | exact .refl _ _ | exact forceLines_touches _ _ _

theorem unforceRequest_touches (body : List Byte) (s : State) : Touches [.line] s (unforceRequest body s).1 := by
  unfold unforceRequest
  repeat' split
  all_goals first | exact .refl _ _ | exact forceLines_touches _ _ _

theorem clearFaultRequest_touches (body : List Byte) (s : State) : Touches [.line] s (clearFaultRequest body s).1 := by
  unfold clearFaultRequest
  repeat' split
  all_goals first | exact .refl _ _ | exact closeLines_touches _ (changeLines_touches _ _ _) (by decide)

theorem testLapse_touches (s : State) (x : LineNo × Share) :
    Touches [.line, .slotContents, .entries, .places, .posted] s (s.testLapse x) := by
  unfold State.testLapse
  split
  · exact (changeLine_touches _ _ _).comp ((cut_touches _ _ _).comp (notify_touches _ _ _ _))
  · exact .refl _ _

theorem boundary_touches (s : State) :
    Touches [.line, .slotContents, .entries, .places, .posted, .lineTimer, .boundaries] s s.boundary := by
  have aged : Touches [.line] s { s with line := s.line.map LineRec.aged } := by
    intro x hx; cases x <;> simp_all [Part.Same]
  have restarted (u : State) : Touches [.lineTimer, .boundaries] u
      ((u.setLineBlock { u.lineBlock with historyStart := u.now }).setWires
        { u.wires with boundaries := u.wires.boundaries + 1 }) := by
    intro x hx; cases x <;> simp_all [Part.Same]
  exact (aged.comp ((Touches.foldl testLapse_touches _ _).comp (restarted _))).mono (by decide)

theorem failLine_touches (s : State) (l : LineNo) :
    Touches [.line, .slotContents, .entries, .places, .posted] s (s.failLine l) :=
  (changeLine_touches _ _ _).comp ((cutAll_touches _ _ _).comp
    (Touches.foldl (fun t p => notify_touches t .lineBlock p _) _ _))

theorem completeSettle_touches (s : State) (l : LineNo) (rb : Bool) :
    Touches [.line, .slotContents, .entries, .places, .posted, .pinReadback] s (s.completeSettle l rb) := by
  have pin (u : State) (v : BitVec 32) : Touches [.pinReadback] u { u with pinReadback := v } := by
    intro x hx; cases x <;> simp_all [Part.Same]
  have done : Touches [.line, .slotContents, .entries, .places, .posted, .pinReadback] s
      (let r := s.line[l]
       let agrees := rb == s.driven l
       let n := mismatchAfter agrees r.mismatch
       let t := s.setLine l { r with mismatch := n, settle := none }
       if r.failsAt agrees n s.control.params.faultThreshold then t.failLine l else t) := by
    simp only
    split
    · exact ((setLine_touches _ _ _).comp (failLine_touches _ _)).mono (by decide)
    · exact (setLine_touches _ _ _).mono (by decide)
  exact (closeLines_touches s done (by decide)).trans ((pin _ _).mono (by decide))

/-! ## Sensors and the Capture Log -/

theorem setEdges_touches (s : State) (q : List AcceptedEdge) :
    Touches [.edges] s (s.setWires { s.wires with edges := q }) := by
  intro x hx; cases x <;> simp_all [Part.Same]

theorem completeIfDue_touches (s : State) (k : SensorNo) : Touches [.sensor, .edges] s (s.completeIfDue k) := by
  have sensed (t : State) (x : Sensor) : Touches [.sensor, .edges] t (t.setSensor k x) :=
    (setSensor_touches _ _ _).mono (by decide)
  have tested (t : State) (e : AcceptedEdge) : Touches [.sensor, .edges] t (t.testSpacing k e) := by
    unfold State.testSpacing
    simp only
    split
    · exact sensed _ _
    · exact (setSensor_touches t k _).comp (setEdges_touches (t.setSensor k _) _)
  unfold State.completeIfDue State.completeFilter
  split
  · split
    · exact .refl _ _
    · simp only
      split
      · exact (sensed _ _).trans (tested _ _)
      · exact sensed _ _
  · exact .refl _ _

theorem rawChange_touches (s : State) (k : SensorNo) (level : Bool) :
    Touches [.sensor, .edges] s (s.rawChange k level) := by
  unfold State.rawChange
  simp only
  split
  · exact (setSensor_touches _ _ _).mono (by decide)
  · exact ((setSensor_touches _ _ _).comp (completeIfDue_touches _ _)).mono (by decide)

/-- A change of the Capture Log that keeps its mode. -/
theorem setLog_touches {s : State} {g : CaptureLog} (h : g.mode = s.log.mode) : Touches [.captures] s (s.setLog g) := by
  intro x hx; cases x <;> simp_all [Part.Same]

theorem chargeLost_touches (s : State) (c : Capture) (p : Port) : Touches [.captures, .posted] s (s.chargeLost c p) := by
  unfold State.chargeLost
  split
  · have lost (n : PerPort Word16) : Touches [.captures] s (s.setLog { s.log with lost := n }) := setLog_touches rfl
    exact (lost _).comp (notify_touches _ _ _ _)
  · exact .refl _ _

theorem overwrite_touches (s : State) : Touches [.captures, .posted] s s.overwrite := by
  unfold State.overwrite
  split
  · exact .refl _ _
  · split
    · have left (t : State) (rs : List Capture) :
          Touches [.captures] t (t.setLog ({ t.log with records := rs } : CaptureLog).prune) := setLog_touches rfl
      exact (Touches.foldl (fun t p => chargeLost_touches t _ p) _ _).trans ((left _ _).mono (by decide))
    · exact .refl _ _

theorem setHandOffs_touches (s : State) (q : List HandOff) :
    Touches [.handOffs] s (s.setWires { s.wires with handOffs := q }) := by
  intro x hx; cases x <;> simp_all [Part.Same]

theorem enterCapture_touches (s : State) (e : AcceptedEdge) :
    Touches [.captures, .posted, .handOffs] s (s.enterCapture e) := by
  have handed (t : State) (c : Capture) : Touches [.handOffs] t (t.handCapture c) := by
    unfold State.handCapture
    split
    · exact setHandOffs_touches _ _
    · exact .refl _ _
  have entered (t : State) : Touches [.captures] t (t.setLog (t.log.enter e)) := setLog_touches rfl
  exact ((overwrite_touches s).comp ((entered _).comp (handed _ _))).mono (by decide)

theorem subscribeRequest_touches (p : Port) (body : List Byte) (s : State) :
    Touches [.captures] s (subscribeRequest p body s).1 := by
  unfold subscribeRequest
  split
  · exact .refl _ _
  · exact setLog_touches rfl

theorem readCapturesRequest_touches (p : Port) (body : List Byte) (s : State) :
    Touches [.captures] s (readCapturesRequest p body s).1 := by
  unfold readCapturesRequest
  split
  · exact .refl _ _
  · exact setLog_touches rfl

/-! ## Ports -/

theorem execSelectFall_touches {p : Port} {s t : State} (h : execSelectFall p s = .next t) : Touches [.ports] s t := by
  obtain rfl := Host.Outcome.next.inj h
  split
  · exact .refl _ _
  · exact setPort_touches _ _ _

theorem judgeFrame_touches (s : State) (p : Port) (r : PortRec) (frame : List Byte) :
    Touches [.ports] s (s.judgeFrame p r frame) := by
  unfold State.judgeFrame
  simp only
  repeat' split
  all_goals exact setPort_touches _ _ _

theorem receive_touches (s : State) (p : Port) (r : PortRec) (bytes : List Byte) :
    Touches [.ports] s (s.receive p r bytes) := by
  unfold State.receive
  simp only
  split
  · exact .refl _ _
  · split
    · exact setPort_touches _ _ _
    · split
      · exact setPort_touches _ _ _
      · exact judgeFrame_touches _ _ _ _

theorem completeWork_touches (s : State) (p : Port) (w : Work) (st : Status) (body : List Byte) :
    Touches [.ports] s (s.completeWork p w st body) := by
  unfold State.completeWork
  simp only
  split <;> exact setPort_touches _ _ _

theorem portStatusRequest_touches (p : Port) (body : List Byte) (s : State) :
    Touches [.ports] s (portStatusRequest p body s).1 := by
  unfold portStatusRequest
  simp only
  split
  · exact setPort_touches _ _ _
  · exact .refl _ _

/-- What RESET_PORT may touch. -/
def portResetParts : List Part := [.places, .slotContents, .entries, .line, .captures, .notices, .ports]

theorem portResetPart_touches (s : State) (p : Port) (stage : Nat) (c : PortResetCounts) :
    Touches portResetParts s (s.portResetPart p stage c).1 := by
  have shares : Touches portResetParts s (s.dropShares p) :=
    ((changeLines_touches _ _ _).comp (cut_touches _ _ _)).mono (by decide)
  have cleared : Touches [.slotContents] s (s.setSlots p (s.slots.get p).cleared) := setSlots_touches rfl rfl rfl
  have logged : Touches [.captures] s (s.setLog (s.log.resetPort p)) := setLog_touches rfl
  unfold State.portResetPart
  split
  · exact (setPlaces_touches _ _).mono (by decide)
  · exact cleared.mono (by decide)
  · exact (setEntries_touches _ _ _).mono (by decide)
  · exact shares
  · exact logged.mono (by decide)
  · split
    · exact (setNotices_touches _ _ _).mono (by decide)
    · exact .refl _ _

/-- RESET_PORT is not taken, takes its next part, or is refused (R176). -/
theorem execResetPort_cases {p : Port} {s t : State} (h : execResetPort p s = .next t) :
    t = s ∨ ∃ w, (s.ports.get p).work = some w ∧
      ((∃ n c, t = s.advanceReset p w n c) ∨ t = s.setPhase p w (.done .badField [])) := by
  obtain rfl | ⟨-, taken⟩ := whenRunning_cases h
  · exact .inl rfl
  · split at taken
    · exact .inl taken
    · rename_i w work
      split at taken
      · split at taken
        · split at taken
          · exact .inr ⟨w, work, .inl ⟨_, _, taken⟩⟩
          · exact .inr ⟨w, work, .inr taken⟩
        · exact .inr ⟨w, work, .inl ⟨_, _, taken⟩⟩
        · exact .inl taken
      · exact .inl taken

theorem resetPort_touches {p : Port} {s t : State} (h : execResetPort p s = .next t) : Touches portResetParts s t := by
  obtain rfl | ⟨w, -, ⟨n, c, rfl⟩ | rfl⟩ := execResetPort_cases h
  · exact .refl _ _
  · exact (portResetPart_touches s p n c).trans ((setPhase_touches _ _ _ _).mono (by decide))
  · exact (setPhase_touches _ _ _ _).mono (by decide)

/-! ## Templates and integrity -/

theorem instanceFailed_touches (s : State) (n : TemplateNo) (f : TemplateFields) (seq : Word32) (st : Status) :
    Touches [.places, .posted] s (s.instanceFailed n f seq st) :=
  (setPlace_touches _ _ _).comp (notify_touches _ _ _ _)

theorem deleteCorrupt_touches (s : State) (n : TemplateNo) : Touches [.places, .findings] s (s.deleteCorrupt n) :=
  (setPlace_touches _ _ _).comp (handFinding_touches _ _)

theorem examinePlace_touches (h : HandOff) (s : State) (n : TemplateNo) : Touches proposalParts s (s.examinePlace h n) := by
  have made (f : TemplateFields) : Touches proposalParts s (s.instantiate n f h) := by
    unfold State.instantiate
    simp only
    split
    · exact propose_touches _ _
    · exact (propose_touches _ _).trans ((instanceFailed_touches _ _ _ _ _).mono (by decide))
  unfold State.examinePlace
  split
  · exact .refl _ _
  · split
    · split
      · exact made _
      · exact (deleteCorrupt_touches _ _).mono (by decide)
    · exact .refl _ _

theorem defineRequest_touches (p : Port) (body : List Byte) (s : State) : Touches workParts s (defineRequest p body s).1 := by
  unfold defineRequest
  simp only
  repeat' split
  all_goals first
    | exact .refl _ _
    | exact consult_touches _ _
    | exact (consult_touches _ _).trans ((setPlace_touches _ _ _).mono (by decide))

theorem deleteRequest_touches (p : Port) (body : List Byte) (s : State) : Touches [.places] s (deleteRequest p body s).1 := by
  unfold deleteRequest
  repeat' split
  all_goals first | exact .refl _ _ | exact setPlace_touches _ _ _

theorem templateStateRequest_touches (p : Port) (body : List Byte) (s : State) :
    Touches [.places] s (templateStateRequest p body s).1 := by
  unfold templateStateRequest
  repeat' split
  all_goals first | exact .refl _ _ | exact setPlace_touches _ _ _

theorem visit_touches (s : State) (pos : Nat) : Touches workParts s (s.visit pos) := by
  unfold State.visit State.visitEntry State.visitPlace
  repeat' split
  all_goals first
    | exact .refl _ _
    | exact (removeCorrupt_touches _ _).mono (by decide)
    | exact (deleteCorrupt_touches _ _).mono (by decide)
    | exact verifyLine_touches _ _

theorem visited_touches (s : State) (now : Word32) :
    Touches [.scrubber] s (s.setControl (s.control.visited now)) := by
  unfold ModeController.visited
  split <;> · intro x hx; cases x <;> simp_all [Part.Same]

theorem setFindings_touches (s : State) (q : List Finding) :
    Touches [.findings] s (s.setWires { s.wires with findings := q }) := by
  intro x hx; cases x <;> simp_all [Part.Same]

theorem setCorruption_touches (s : State) (n : Nat) :
    Touches [.corruption] s (s.setControl { s.control with corruption := n }) := by
  intro x hx; cases x <;> simp_all [Part.Same]

theorem finding_touches (s : State) (f : Finding) : Touches (.corruption :: causeParts) s (s.finding f) := by
  have reported : Touches (.corruption :: causeParts) s (s.reportFinding f) := by
    unfold State.reportFinding
    split
    · exact .refl _ _
    · exact (notifyAll_touches _ _ _).mono (by decide)
  have caused (u : State) : Touches (.corruption :: causeParts) u (u.causeOfFinding f) := by
    cases f with
    | entry i => exact .refl _ _
    | template n => exact .refl _ _
    | line l => exact (takeCause_touches _ _ _).mono (by decide)
  have tested (u : State) : Touches (.corruption :: causeParts) u u.testLimit := by
    unfold State.testLimit
    split
    · exact (takeCause_touches _ _ _).mono (by decide)
    · exact .refl _ _
  exact ((reported.trans ((setCorruption_touches _ _).mono (by decide))).trans (caused _)).trans (tested _)

/-! ## Mode changes at the blocks -/

theorem abandon_touches (s : State) (p : Port) : Touches [.posted] s (s.abandon p) := by
  unfold State.abandon
  split
  · exact .refl _ _
  · exact notify_touches _ _ _ _

theorem emptyTable_touches (s : State) : Touches [.posted, .entries] s s.emptyTable :=
  (Touches.foldl abandon_touches _ _).comp (setEntries_touches _ _ _)

theorem setTableMode_touches (s : State) (m : Mode) : Touches [.tableMode] s (s.setTable { s.table with mode := m }) := by
  intro x hx; cases x <;> simp_all [Part.Same]

theorem timetableEmptying_touches {s t : State} (h : execTimetableEmptying s = .next t) :
    Touches [.toTimetable, .toLines, .asks, .posted, .entries, .tableMode, .tableLimits] s t := by
  have wired (q r : List BlockMessage) (a : List (Option Nat)) : Touches [.toTimetable, .toLines, .asks] s
      (s.setWires { s.wires with toTimetable := q, toLines := r, overrunAsks := a }) := by
    intro x hx; cases x <;> simp_all [Part.Same]
  refine whenRunning_touches h ?_
  split
  · exact .refl _ _
  · rename_i c q _
    have handed := wired q (releaseChange s.wires.toLines) (countAsks s.wires.overrunAsks)
    generalize s.setWires { s.wires with
      toTimetable := q, toLines := releaseChange s.wires.toLines
      overrunAsks := countAsks s.wires.overrunAsks } = u at handed ⊢
    have emptied := handed.comp (emptyTable_touches u)
    exact (emptied.comp ((setTableMode_touches _ c.new).comp (takeLimits_touches _))).mono (by decide)

theorem setToSlots_touches (s : State) (q : PerPort (List BlockMessage)) :
    Touches [.toSlots] s (s.setWires { s.wires with toSlots := q }) := by
  intro x hx; cases x <;> simp_all [Part.Same]

theorem slotsEmptying_touches {p : Port} {s t : State} (h : execSlotsEmptying p s = .next t) :
    Touches [.toSlots, .slotContents, .slotMode] s t := by
  have cleared (u : State) (m : Mode) : Touches [.slotContents, .slotMode] u
      (u.setSlots p { (u.slots.get p).cleared with mode := m }) := by
    intro x hx
    cases x <;> simp only [Part.Same, State.setSlots_slots, PerPort.get_set] <;> simp_all
    intro q; split <;> simp_all [Slots.cleared]
  refine whenRunning_touches h ?_
  split
  · exact .refl _ _
  · exact (setToSlots_touches _ _).comp (cleared _ _)

theorem templatesSuspension_touches {s t : State} (h : execTemplatesSuspension s = .next t) :
    Touches [.toTemplates, .places, .templateMode] s t := by
  refine whenRunning_touches h ?_
  split
  · exact .refl _ _
  · intro x hx; cases x <;> simp_all [Part.Same]

theorem enginesOff_touches {s t : State} (h : execEnginesOff s = .next t) : Touches [.toLines, .lineMode, .line] s t := by
  refine whenRunning_touches h ?_
  split
  · exact .refl _ _
  · refine closeLines_touches s ?_ (by decide)
    intro x hx; cases x <;> simp_all [Part.Same]

/-- What a mode change taken at a block may touch. -/
def changeTouches : ChangeBlock → List Part
  | .timetable => [.toTimetable, .asks, .tableMode, .tableLimits]
  | .slots _ => [.toSlots, .slotMode]
  | .templates => [.toTemplates, .templateMode]
  | .log => [.toLog, .logMode]
  | .lines => [.toLines, .lineMode, .line]

theorem changeAtTimetable_touches (s : State) : Touches (changeTouches .timetable) s s.changeAtTimetable := by
  have wired (q : List BlockMessage) (a : List (Option Nat)) : Touches [.toTimetable, .asks] s
      (s.setWires { s.wires with toTimetable := q, overrunAsks := a }) := by
    intro x hx; cases x <;> simp_all [Part.Same]
  unfold State.changeAtTimetable
  split
  · exact .refl _ _
  · exact ((wired _ _).comp ((setTableMode_touches _ _).comp (takeLimits_touches _))).mono (by decide)

theorem changeAtSlots_touches (s : State) (p : Port) : Touches (changeTouches (.slots p)) s (s.changeAtSlots p) := by
  have moded (u : State) (m : Mode) : Touches [.slotMode] u (u.setSlots p { u.slots.get p with mode := m }) := by
    intro x hx
    cases x <;> simp only [Part.Same, State.setSlots_slots, PerPort.get_set] <;> simp_all
    all_goals intro q; split <;> simp_all
  unfold State.changeAtSlots
  split
  · exact .refl _ _
  · exact (setToSlots_touches _ _).comp (moded _ _)

theorem modeChange_touches (b : ChangeBlock) {s t : State} (h : execModeChangeTakenAtBlock b s = .next t) :
    Touches (changeTouches b) s t := by
  refine whenRunning_touches h ?_
  cases b with
  | timetable => exact changeAtTimetable_touches s
  | slots p => exact changeAtSlots_touches s p
  | templates =>
    simp only [State.changeAtTemplates]
    split
    · exact .refl _ _
    · intro x hx; cases x <;> simp_all [Part.Same, changeTouches]
  | log =>
    simp only [State.changeAtLog]
    split
    · exact .refl _ _
    · intro x hx; cases x <;> simp_all [Part.Same, changeTouches]
  | lines =>
    simp only [State.changeAtLines]
    split
    · exact .refl _ _
    · refine closeLines_touches s ?_ (by decide)
      intro x hx; cases x <;> simp_all [Part.Same, changeTouches]

theorem startRequest_touches (body : List Byte) (s : State) :
    Touches ([.mode, .posted] ++ messageParts) s (startRequest body s).1 := by
  unfold startRequest
  split
  · exact .refl _ _
  · split
    · exact .refl _ _
    · split
      · exact .refl _ _
      · exact changeMode_touches _ _ _ _

theorem stopRequest_touches (body : List Byte) (s : State) :
    Touches ([.mode, .posted] ++ messageParts) s (stopRequest body s).1 := by
  unfold stopRequest
  split
  · exact .refl _ _
  · split
    · exact .refl _ _
    · exact changeMode_touches _ _ _ _

theorem resumeRequest_touches (body : List Byte) (s : State) :
    Touches ([.causes, .corruption, .mode, .posted] ++ messageParts) s (resumeRequest body s).1 := by
  have forgiven : Touches [.causes, .corruption] s
      (s.setControl { s.control with firstCause := none, later := CauseSet.empty, corruption := 0 }) := by
    intro x hx; cases x <;> simp_all [Part.Same]
  unfold resumeRequest
  split
  · exact .refl _ _
  · split
    · exact .refl _ _
    · split
      · exact .refl _ _
      · exact forgiven.comp (changeMode_touches _ _ _ _)

/-! ## Parameters -/

/-- What the handing on of a parameter write may touch. -/
def writeParts : List Part := [.toPosition, .toSlots, .toLines, .toLog, .tableLimits, .toTimetable]

theorem handWrite_touches (s : State) (id : ParamId) (q : Params) : Touches writeParts s (s.handWrite id q) := by
  have position (w : ParamWrite) : Touches writeParts s (s.handPosition w) := by
    intro x hx; cases x <;> simp_all [Part.Same, writeParts, State.handPosition]
  have slots (w : ParamWrite) : Touches writeParts s (s.handSlots w) := by
    intro x hx; cases x <;> simp_all [Part.Same, writeParts, State.handSlots]
  have lines (w : ParamWrite) : Touches writeParts s (s.handLines w) := by
    intro x hx; cases x <;> simp_all [Part.Same, writeParts, State.handLines]
  have sensors (w : ParamWrite) : Touches writeParts s (s.handSensors w) := by
    intro x hx; cases x <;> simp_all [Part.Same, writeParts, State.handSensors]
  have waits : Touches writeParts s (s.setWires { s.wires with
      toTimetable := s.wires.toTimetable ++ [.write (.tableLimits q.limits)] }) := by
    intro x hx; cases x <;> simp_all [Part.Same, writeParts]
  have table : Touches writeParts s (s.handTable q) := waits.trans ((takeLimits_touches _).mono (by decide))
  cases id with
  | motionSource | internalRate | stallTime | speedWindow => exact position _
  | commitLead => exact slots _
  | historyPeriod | rest l | readback l => exact lines _
  | sensorFilter k => exact sensors _
  | guard l | policy l | quota p | portPriority r => exact table
  | reverseLimit | settle | faultThreshold | sensorEdge k | sensorSpacing k | corruptLimit => exact .refl _ _

theorem setParams_touches (s : State) (q : Params) :
    Touches [.params] s (s.setControl { s.control with params := q }) := by
  intro x hx; cases x <;> simp_all [Part.Same]

theorem setParamRequest_touches (body : List Byte) (s : State) :
    Touches (.params :: writeParts) s (setParamRequest body s).1 := by
  unfold setParamRequest
  repeat' split
  all_goals first | exact .refl _ _ | exact (setParams_touches _ _).comp (handWrite_touches _ _ _)

/-! ## Slots and the Timetable -/

theorem setSlotPos_touches (s : State) (p : Port) (pos : Word32) :
    Touches [.slotPos] s (s.setSlots p { s.slots.get p with pos := pos }) := by
  intro x hx
  cases x <;> simp only [Part.Same, State.setSlots_slots, PerPort.get_set] <;> simp_all
  all_goals intro q; split <;> simp_all

theorem setSlotLead_touches (s : State) (p : Port) (n : Nat) :
    Touches [.slotPos] s (s.setSlots p { s.slots.get p with lead := n }) := by
  intro x hx
  cases x <;> simp only [Part.Same, State.setSlots_slots, PerPort.get_set] <;> simp_all
  all_goals intro q; split <;> simp_all

theorem setSlotsMotion_touches (s : State) (q : PerPort (List MotionEvent)) :
    Touches [.motion] s (s.setWires { s.wires with slotsMotion := q }) := by
  intro x hx; cases x <;> simp_all [Part.Same]

theorem stepAtSlots_touches {p : Port} {s t : State} (h : execStepAtSlots p s = .next t) :
    Touches (.motion :: .slotPos :: proposalParts) s t := by
  refine whenRunning_touches h ?_
  split
  · have moved := (setSlotsMotion_touches s (s.wires.slotsMotion.set p ‹_›)).comp (setSlotPos_touches _ p ‹Word32›)
    simp only
    split
    · exact moved.comp (leadCommits_touches _ _)
    · exact moved.mono (by decide)
  · exact .refl _ _

theorem writeCommitLead_touches {p : Port} {s t : State} (h : execWriteCommitLead p s = .next t) :
    Touches (.toSlots :: .slotPos :: proposalParts) s t := by
  refine whenRunning_touches h ?_
  split
  · exact .refl _ _
  · rename_i v q _
    have written := (setToSlots_touches s (s.wires.toSlots.set p q)).comp (setSlotLead_touches _ p v)
    simp only
    split
    · exact written.comp (leadCommits_touches _ _)
    · exact written.mono (by decide)

theorem commitRequest_touches (p : Port) (body : List Byte) (s : State) :
    Touches proposalParts s (commitRequest p body s).1 := by
  unfold commitRequest
  repeat' split
  all_goals first | exact .refl _ _ | exact commitSlots_touches _ _ _ _

theorem discardRequest_touches (p : Port) (body : List Byte) (s : State) :
    Touches [.slotContents] s (discardRequest p body s).1 := by
  have cleared : Touches [.slotContents] s (s.setSlots p (s.slots.get p).cleared) := setSlots_touches rfl rfl rfl
  unfold discardRequest
  repeat' split
  all_goals first | exact .refl _ _ | exact cleared

theorem applyDefault_touches (s : State) (e : Entry) : Touches [.entries, .posted] s (s.applyDefault e) := by
  unfold State.applyDefault
  simp only
  split
  · exact .refl _ _
  · split
    · exact (putEntry_touches _ _).comp (notify_touches _ _ _ _)
    · exact (removeEntry_touches _ _).comp (notify_touches _ _ _ _)

theorem deliver_touches (s : State) (a : LineAction) (l : LineNo) : Touches [.line] s (s.deliver a l).1 := by
  unfold State.deliver
  simp only
  split
  · exact .refl _ _
  · exact setLine_touches _ _ _

theorem deliverAll_touches (a : LineAction) (ls : List LineNo) (s : State) : Touches [.line] s (s.deliverAll a ls).1 := by
  induction ls generalizing s with
  | nil => exact .refl _ _
  | cons l ls ih => exact (deliver_touches s a l).trans (ih _)

theorem notifyFired_touches (s : State) (f : EntryFields) (outs : List (LineNo × LineOutcome)) :
    Touches [.posted] s (s.notifyFired f outs) := by
  unfold State.notifyFired
  split
  · exact notify_touches _ _ _ _
  · exact .refl _ _

theorem notifySuppressed_touches (s : State) (f : EntryFields) (outs : List (LineNo × LineOutcome)) :
    Touches [.posted] s (s.notifySuppressed f outs) := by
  unfold State.notifySuppressed
  simp only
  split
  · exact .refl _ _
  · exact notify_touches _ _ _ _

/-- What the fires and decisions of a forward step may touch. -/
def fireParts : List Part := [.line, .entries, .posted, .findings]

theorem fireEntry_touches (s : State) (e : Entry) : Touches fireParts s (s.fireEntry e) := by
  unfold State.fireEntry
  simp only
  split
  · exact ((deliverAll_touches _ _ _).comp ((removeEntry_touches _ _).comp ((notifyFired_touches _ _ _).comp
      (notifySuppressed_touches _ _ _)))).mono (by decide)
  · exact (removeCorrupt_touches _ _).mono (by decide)

theorem forwardStep_touches (s : State) (pos : Word32) : Touches fireParts s (s.forwardStep pos) :=
  closeLines_touches s
    (((Touches.foldl applyDefault_touches _ _).mono (by decide)).trans (Touches.foldl fireEntry_touches _ _)) (by decide)

theorem stepAtTimetable_touches {s t : State} (h : execStepAtTimetable s = .next t) :
    Touches ([.motion, .asks, .tablePos] ++ fireParts) s t := by
  have stepped (rest : List MotionEvent) (a : List (Option Nat)) (asked : Bool) : Touches [.motion, .asks, .tablePos] s
      ((s.setWires { s.wires with timetableMotion := rest, overrunAsks := a }).setTable
        { s.table with askedSafe := asked }) := by
    intro x hx; cases x <;> simp_all [Part.Same]
  have moved (u : State) (pos : Word32) : Touches [.motion, .asks, .tablePos] u (u.setTable { u.table with pos := pos }) := by
    intro x hx; cases x <;> simp_all [Part.Same]
  have taken (u : State) (forward : Bool) (pos : Word32) :
      Touches ([.motion, .asks, .tablePos] ++ fireParts) u (u.takeStep forward pos) := by
    unfold State.takeStep
    simp only
    split
    · exact (moved _ _).comp (forwardStep_touches _ _)
    · exact (moved _ _).mono (by decide)
  refine whenRunning_touches h ?_
  split
  · simp only
    split
    · exact .refl _ _
    · exact ((stepped _ _ _).mono (by decide)).trans (taken _ _ _)
  · exact .refl _ _

theorem presetAtTimetable_touches (s : State) : Touches [.motion, .tablePos, .slotPos] s s.presetAtTimetable := by
  unfold State.presetAtTimetable
  split
  · split
    · exact .refl _ _
    · intro x hx; cases x <;> simp_all [Part.Same]
  · exact .refl _ _

theorem presetAtSlots_touches (s : State) (p : Port) : Touches [.motion, .tablePos, .slotPos] s (s.presetAtSlots p) := by
  unfold State.presetAtSlots
  split
  · split
    · exact .refl _ _
    · exact ((setSlotsMotion_touches _ _).comp (setSlotPos_touches _ _ _)).mono (by decide)
  · exact .refl _ _

theorem cancelOne_touches (acc : State × Nat) (e : Entry) : Touches [.entries, .findings] acc.1 (cancelOne acc e).1 := by
  unfold cancelOne
  split
  · exact (removeEntry_touches _ _).mono (by decide)
  · exact removeCorrupt_touches _ _

theorem verdictOne_touches (keep : Bool) (acc : State × VerdictCounts) (e : Entry) :
    Touches [.entries, .findings] acc.1 (verdictOne keep acc e).1 := by
  unfold verdictOne
  split
  · split
    · exact .refl _ _
    · simp only
      split
      · exact (putEntry_touches _ _).mono (by decide)
      · exact (removeEntry_touches _ _).mono (by decide)
  · exact removeCorrupt_touches _ _

/-- A fold over a state paired with counts. -/
theorem Touches.foldl_fst {σ α : Type} {parts : List Part} {f : State × α → σ → State × α}
    (hf : ∀ acc a, Touches parts acc.1 (f acc a).1) (l : List σ) (acc : State × α) :
    Touches parts acc.1 (l.foldl f acc).1 := by
  induction l generalizing acc with
  | nil => exact .refl _ _
  | cons a l ih => exact (hf acc a).trans (ih _)

theorem cancelRequest_touches (p : Port) (body : List Byte) (s : State) :
    Touches [.entries, .findings] s (cancelRequest p body s).1 := by
  unfold cancelRequest State.cancelList
  repeat' split
  all_goals first
    | exact .refl _ _
    | exact Touches.foldl_fst cancelOne_touches _ (s, 0)

theorem verdictRequest_touches (p : Port) (body : List Byte) (s : State) :
    Touches [.entries, .findings] s (verdictRequest p body s).1 := by
  unfold verdictRequest
  repeat' split
  all_goals first
    | exact .refl _ _
    | exact Touches.foldl_fst (verdictOne_touches _) _ (s, _)

theorem amendRequest_touches (p : Port) (body : List Byte) (s : State) :
    Touches (.posted :: workParts) s (amendRequest p body s).1 := by
  have checked (e : Entry) (due : Word32) (a : LineAction) :
      Touches (.posted :: workParts) s (s.amendChecked p e due a).1 := by
    have consulted : Touches (.posted :: workParts) s (s.consult e.fields.lines) := (consult_touches _ _).mono (by decide)
    unfold State.amendChecked
    simp only
    split
    · exact consulted
    · split
      · exact consulted
      · split
        · exact consulted
        · exact consulted.trans (((displaceAll_touches _ _).comp (putEntry_touches _ _)).mono (by decide))
  unfold amendRequest
  split
  · exact .refl _ _
  · split
    · exact .refl _ _
    · split
      · exact .refl _ _
      · split
        · split
          · exact .refl _ _
          · split
            · exact .refl _ _
            · exact checked _ _ _
        · exact (removeCorrupt_touches _ _).mono (by decide)

/-! ## Every command -/

/-- What a command may touch. -/
def touchesOf : Instr → List Part
  | .powerOnReset | .resetnAssert | .resetEnd | .selectRelease _ | .resetDevice => resetParts
  | .initEnd => causeParts
  | .safeinAssert => .pinSafeIn :: causeParts
  | .safeinDeassert => [.pinSafeIn]
  | .safeRequestOverrun => .asks :: causeParts
  | .motionInputChange _ _ | .stepInputRise _ => [.pinA, .pinB] ++ stepParts
  | .internalRateExpiry => stepParts
  | .stallTimerExpiry => [.position, .posted]
  | .speedWindowExpiry => [.position]
  | .stepAtTimetable => [.motion, .asks, .tablePos] ++ fireParts
  | .stepAtSlots _ => .motion :: .slotPos :: proposalParts
  | .presetAtBlock _ => [.motion, .tablePos, .slotPos]
  | .sensorRawChange _ _ | .sensorFilterExpiry _ => [.sensor, .edges]
  | .captureEntry _ => [.edges, .captures, .posted, .handOffs]
  | .captureHandOff => .handOffs :: proposalParts
  | .historyPeriodBoundary => [.line, .slotContents, .entries, .places, .posted, .lineTimer, .boundaries]
  | .corruptionDecay => [.boundaries, .corruption]
  | .settleExpiry _ _ => [.line, .slotContents, .entries, .places, .posted, .pinReadback]
  | .pulseEnd _ | .restEnd _ | .restGuardEnd _ => [.line]
  | .scrubVisit => .scrubber :: workParts
  | .corruptionFinding _ => .findings :: .corruption :: causeParts
  | .timetableEmptying => [.toTimetable, .toLines, .asks, .posted, .entries, .tableMode, .tableLimits]
  | .slotsEmptying _ => [.toSlots, .slotContents, .slotMode]
  | .templatesSuspension => [.toTemplates, .places, .templateMode]
  | .enginesOff => [.toLines, .lineMode, .line]
  | .writeMotionSource | .writeInternalRate | .writeSpeedWindow => [.toPosition, .position]
  | .writeStallTime => [.toPosition, .position, .posted]
  | .writeCommitLead _ => .toSlots :: .slotPos :: proposalParts
  | .writeHistoryPeriod => [.toLines, .lineTimer]
  | .writeRest _ | .writeReadback _ => [.toLines, .line]
  | .writeSensorFilter _ => [.toLog, .sensor, .edges]
  | .noticeTaken _ _ => [.posted, .notices]
  | .selectFall _ | .requestFrame _ _ | .replyReady _ | .replySent _ _ | .replyMarkerSent _ => [.ports]
  | .readPosition _ | .readLines _ | .queryEntry _ | .readTableStatus _ | .queryTemplate _ | .getParam _
  | .readHealth _ => [.posted, .ports]
  | .presetPosition => [.position, .motion] ++ [.posted, .ports]
  | .leaseLines _ | .forceLines | .unforceLines | .clearLineFault => [.line] ++ [.posted, .ports]
  | .releaseLines _ => [.line, .slotContents, .entries, .places] ++ [.posted, .ports]
  | .revokeLines => [.line, .slotContents, .entries, .places, .posted] ++ [.posted, .ports]
  | .post _ | .commit _ => proposalParts ++ [.posted, .ports]
  | .discardStaged _ => [.slotContents] ++ [.posted, .ports]
  | .cancelEntries _ | .verdict _ => [.entries, .findings] ++ [.posted, .ports]
  | .amendEntry _ => .posted :: workParts ++ [.posted, .ports]
  | .subscribe _ | .readCaptures _ => [.captures] ++ [.posted, .ports]
  | .defineTemplate _ => workParts ++ [.posted, .ports]
  | .deleteTemplate _ | .setTemplateState _ => [.places] ++ [.posted, .ports]
  | .setParam => .params :: writeParts ++ [.posted, .ports]
  | .start | .stop => [.mode, .posted] ++ messageParts ++ [.posted, .ports]
  | .resume => [.causes, .corruption, .mode, .posted] ++ messageParts ++ [.posted, .ports]
  | .readNotices _ | .setNoticeMask _ => [.notices] ++ [.posted, .ports]
  | .portStatus _ => [.ports] ++ [.posted, .ports]
  | .resetPort _ => portResetParts
  | .modeChangeTakenAtBlock b => changeTouches b

/-- An operation under a condition. -/
theorem Touches.ite {parts : List Part} {c : Prop} [Decidable c] {s t : State} (k : Touches parts s t) :
    Touches parts s (if c then t else s) := by
  split
  · exact k
  · exact .refl _ _

theorem writeMotionSource_touches {s t : State} (h : execWriteMotionSource s = .next t) : Touches [.toPosition, .position] s t := by
  refine whenRunning_touches h ?_
  split
  · exact .refl _ _
  · exact (setToPosition_touches _ _).comp (setPosition_touches _ _)

theorem writeInternalRate_touches {s t : State} (h : execWriteInternalRate s = .next t) : Touches [.toPosition, .position] s t := by
  refine whenRunning_touches h ?_
  split
  · exact .refl _ _
  · exact (setToPosition_touches _ _).comp (setPosition_touches _ _)

theorem writeSpeedWindow_touches {s t : State} (h : execWriteSpeedWindow s = .next t) : Touches [.toPosition, .position] s t := by
  refine whenRunning_touches h ?_
  split
  · exact .refl _ _
  · exact (setToPosition_touches _ _).comp (setPosition_touches _ _)

theorem writeRest_touches {l : LineNo} {s t : State} (h : execWriteRest l s = .next t) : Touches [.toLines, .line] s t := by
  refine whenRunning_touches h ?_
  split
  · exact .refl _ _
  · exact (setToLines_touches _ _).comp (setLine_touches _ _ _)

theorem writeReadback_touches {l : LineNo} {s t : State} (h : execWriteReadback l s = .next t) : Touches [.toLines, .line] s t := by
  refine whenRunning_touches h ?_
  split
  · exact .refl _ _
  · exact (setToLines_touches _ _).comp (setLine_touches _ _ _)

theorem writeHistoryPeriod_touches {s t : State} (h : execWriteHistoryPeriod s = .next t) :
    Touches [.toLines, .lineTimer] s t := by
  refine whenRunning_touches h ?_
  split
  · exact .refl _ _
  · intro x hx; cases x <;> simp_all [Part.Same, State.setToLines]

theorem internalRateExpiry_touches {s t : State} (h : execInternalRateExpiry s = .next t) : Touches stepParts s t :=
  whenRunning_touches h (.ite (((setPosition_touches s _).mono (by decide)).trans (stepEvent_touches _ _)))

theorem stallTimerExpiry_touches {s t : State} (h : execStallTimerExpiry s = .next t) :
    Touches [.position, .posted] s t := whenRunning_touches h (.ite (stallExpiry_touches _))

theorem speedWindowExpiry_touches {s t : State} (h : execSpeedWindowExpiry s = .next t) : Touches [.position] s t :=
  whenRunning_touches h (.ite (setPosition_touches _ _))

theorem presetAtBlock_touches {m : MotionBlock} {s t : State} (h : execPresetAtBlock m s = .next t) :
    Touches [.motion, .tablePos, .slotPos] s t := by
  refine whenRunning_touches h ?_
  cases m with
  | timetable => exact presetAtTimetable_touches s
  | slots p => exact presetAtSlots_touches s p

theorem sensorRawChange_touches {k : SensorNo} {level : Bool} {s t : State} (h : execSensorRawChange k level s = .next t) :
    Touches [.sensor, .edges] s t := by
  obtain rfl := Host.Outcome.next.inj h
  split
  · exact (setSensor_touches _ _ _).mono (by decide)
  · exact rawChange_touches _ _ _

theorem historyPeriodBoundary_touches {s t : State} (h : execHistoryPeriodBoundary s = .next t) :
    Touches [.line, .slotContents, .entries, .places, .posted, .lineTimer, .boundaries] s t :=
  whenRunning_touches h (.ite (boundary_touches _))

theorem settleExpiry_touches {l : LineNo} {rb : Bool} {s t : State} (h : execSettleExpiry l rb s = .next t) :
    Touches [.line, .slotContents, .entries, .places, .posted, .pinReadback] s t :=
  whenRunning_touches h (.ite (completeSettle_touches _ _ _))

theorem changeEngine_touches (s : State) (l : LineNo) (f : Nat → Engine → Engine) :
    Touches [.line] s (s.changeEngine l f) := setLine_touches _ _ _

theorem pulseEnd_touches {l : LineNo} {s t : State} (h : execPulseEnd l s = .next t) : Touches [.line] s t :=
  whenRunning_touches h (.ite (closeLines_touches s (changeEngine_touches s l _) (by decide)))

theorem restEnd_touches {l : LineNo} {s t : State} (h : execRestEnd l s = .next t) : Touches [.line] s t :=
  whenRunning_touches h (.ite (closeLines_touches s (changeEngine_touches s l _) (by decide)))

theorem restGuardEnd_touches {l : LineNo} {s t : State} (h : execRestGuardEnd l s = .next t) : Touches [.line] s t :=
  whenRunning_touches h (.ite (changeEngine_touches s l _))

theorem replyMarkerSent_touches {p : Port} {s t : State} (h : execReplyMarkerSent p s = .next t) : Touches [.ports] s t :=
  whenRunning_touches h (.ite (setPort_touches _ _ _))

theorem writeStallTime_touches {s t : State} (h : execWriteStallTime s = .next t) :
    Touches [.toPosition, .position, .posted] s t := by
  refine whenRunning_touches h ?_
  split
  · exact .refl _ _
  · rename_i v q _
    have written := (setToPosition_touches s q).comp (setPosition_touches _ { s.position with stallTime := v })
    simp only
    split
    · exact (written.comp (stallExpiry_touches _)).mono (by decide)
    · exact written.mono (by decide)

theorem writeSensorFilter_touches {k : SensorNo} {s t : State} (h : execWriteSensorFilter k s = .next t) :
    Touches [.toLog, .sensor, .edges] s t := by
  have wired (q : List BlockMessage) : Touches [.toLog] s (s.setWires { s.wires with toLog := q }) := by
    intro x hx; cases x <;> simp_all [Part.Same]
  refine whenRunning_touches h ?_
  split
  · exact .refl _ _
  · exact ((wired _).comp ((setSensor_touches _ _ _).comp (completeIfDue_touches _ _))).mono (by decide)

theorem noticeTaken_touches {p : Port} {i : Nat} {s t : State} (h : execNoticeTaken p i s = .next t) :
    Touches [.posted, .notices] s t := by
  have wired (q : PerPort (List PostedNotice)) : Touches [.posted] s (s.setWires { s.wires with notices := q }) := by
    intro x hx; cases x <;> simp_all [Part.Same]
  refine whenRunning_touches h ?_
  simp only
  split
  · exact .refl _ _
  · split
    · exact (wired _).comp (setNotices_touches _ _ _)
    · exact .refl _ _

theorem corruptionDecay_touches {s t : State} (h : execCorruptionDecay s = .next t) :
    Touches [.boundaries, .corruption] s t := by
  have wired (n : Nat) : Touches [.boundaries] s (s.setWires { s.wires with boundaries := n }) := by
    intro x hx; cases x <;> simp_all [Part.Same]
  refine whenRunning_touches h ?_
  split
  · exact .refl _ _
  · exact (wired _).comp (setCorruption_touches _ _)

theorem safeRequestOverrun_touches {s t : State} (h : execSafeRequestOverrun s = .next t) :
    Touches (.asks :: causeParts) s t := by
  refine whenRunning_touches h ?_
  split
  · exact ((takeCause_touches _ _ _).comp (setAsks_touches _ _)).mono (by decide)
  · exact .refl _ _

theorem captureEntry_touches {i : Nat} {s t : State} (h : execCaptureEntry i s = .next t) :
    Touches [.edges, .captures, .posted, .handOffs] s t := by
  refine whenRunning_touches h ?_
  split
  · exact .refl _ _
  · exact (setEdges_touches _ _).comp (enterCapture_touches _ _)

theorem captureHandOff_touches {s t : State} (h : execCaptureHandOff s = .next t) :
    Touches (.handOffs :: proposalParts) s t := by
  refine whenRunning_touches h ?_
  split
  · exact .refl _ _
  · exact (setHandOffs_touches _ _).comp (Touches.foldl (examinePlace_touches _) _ _)

theorem corruptionFinding_touches {k : RecordKind} {s t : State} (h : execCorruptionFinding k s = .next t) :
    Touches (.findings :: .corruption :: causeParts) s t := by
  refine whenRunning_touches h ?_
  split
  · exact .refl _ _
  · exact (setFindings_touches _ _).comp (finding_touches _ _)

theorem scrubVisit_touches {s t : State} (h : execScrubVisit s = .next t) : Touches (.scrubber :: workParts) s t := by
  refine whenRunning_touches h ?_
  split
  · exact ((visit_touches _ _).comp (visited_touches _ _)).mono (by decide)
  · exact .refl _ _

theorem requestFrame_touches {p : Port} {bytes : List Byte} {s t : State} (h : execRequestFrame p bytes s = .next t) :
    Touches [.ports] s t :=
  whenRunning_touches h (.ite (receive_touches _ _ _ _))

theorem replyReady_touches {p : Port} {s t : State} (h : execReplyReady p s = .next t) : Touches [.ports] s t := by
  refine whenRunning_touches h ?_
  split
  · exact .refl _ _
  · split
    · exact .refl _ _
    · exact .refl _ _
    · split
      · exact .refl _ _
      · exact completeWork_touches _ _ _ _ _

theorem replySent_touches {p : Port} {n : Nat} {s t : State} (h : execReplySent p n s = .next t) :
    Touches [.ports] s t := by
  refine whenRunning_touches h ?_
  simp only
  split
  · exact .refl _ _
  · split
    · exact setPort_touches _ _ _
    · exact .refl _ _

theorem readNoticesRequest_touches (p : Port) (body : List Byte) (s : State) :
    Touches [.notices] s (readNoticesRequest p body s).1 := by
  unfold readNoticesRequest
  split
  · exact setNotices_touches _ _ _
  · exact .refl _ _

theorem setMaskRequest_touches (p : Port) (body : List Byte) (s : State) :
    Touches [.notices] s (setMaskRequest p body s).1 := by
  unfold setMaskRequest
  split
  · exact .refl _ _
  · exact setNotices_touches _ _ _

/-- A command touches nothing but the parts listed for it. -/
theorem exec_touches (i : Instr) {s t : State} (h : exec i s = .next t) : Touches (touchesOf i) s t := by
  cases i with
  | powerOnReset => obtain rfl := Host.Outcome.next.inj h; exact startReset_touches _ _
  | resetnAssert => obtain rfl := Host.Outcome.next.inj h; exact startReset_touches _ _
  | resetEnd => exact execResetEnd_touches h
  | initEnd => exact whenRunning_touches h (initEnd_touches s)
  | safeinAssert => exact execSafeinAssert_touches h
  | safeinDeassert => obtain rfl := Host.Outcome.next.inj h; exact setPinSafeIn_touches _ _
  | safeRequestOverrun => exact safeRequestOverrun_touches h
  | motionInputChange a b => obtain rfl := Host.Outcome.next.inj h; exact motionPins_touches _ _ _
  | stepInputRise b => obtain rfl := Host.Outcome.next.inj h; exact motionPins_touches _ _ _
  | internalRateExpiry => exact internalRateExpiry_touches h
  | stallTimerExpiry => exact stallTimerExpiry_touches h
  | speedWindowExpiry => exact speedWindowExpiry_touches h
  | stepAtTimetable => exact stepAtTimetable_touches h
  | stepAtSlots p => exact stepAtSlots_touches h
  | presetAtBlock m => exact presetAtBlock_touches h
  | sensorRawChange k level => exact sensorRawChange_touches h
  | sensorFilterExpiry k => exact whenRunning_touches h (completeIfDue_touches s k)
  | captureEntry n => exact captureEntry_touches h
  | captureHandOff => exact captureHandOff_touches h
  | historyPeriodBoundary => exact historyPeriodBoundary_touches h
  | corruptionDecay => exact corruptionDecay_touches h
  | settleExpiry l rb => exact settleExpiry_touches h
  | pulseEnd l => exact pulseEnd_touches h
  | restEnd l => exact restEnd_touches h
  | restGuardEnd l => exact restGuardEnd_touches h
  | scrubVisit => exact scrubVisit_touches h
  | corruptionFinding k => exact corruptionFinding_touches h
  | timetableEmptying => exact timetableEmptying_touches h
  | slotsEmptying p => exact slotsEmptying_touches h
  | templatesSuspension => exact templatesSuspension_touches h
  | enginesOff => exact enginesOff_touches h
  | writeMotionSource => exact writeMotionSource_touches h
  | writeInternalRate => exact writeInternalRate_touches h
  | writeSpeedWindow => exact writeSpeedWindow_touches h
  | writeStallTime => exact writeStallTime_touches h
  | writeCommitLead p => exact writeCommitLead_touches h
  | writeHistoryPeriod => exact writeHistoryPeriod_touches h
  | writeRest l => exact writeRest_touches h
  | writeReadback l => exact writeReadback_touches h
  | writeSensorFilter k => exact writeSensorFilter_touches h
  | noticeTaken p n => exact noticeTaken_touches h
  | selectFall p => exact execSelectFall_touches h
  | requestFrame p bytes => exact requestFrame_touches h
  | replyReady p => exact replyReady_touches h
  | replySent p n => exact replySent_touches h
  | selectRelease p => exact execSelectRelease_touches h
  | readPosition p | readLines p | queryEntry p | readTableStatus p | queryTemplate p | getParam p | readHealth p =>
    exact serve_touches h (reading_touches [] _ · s)
  | presetPosition => exact serve_touches h (presetPositionRequest_touches · s)
  | leaseLines p => exact serve_touches h (leaseRequest_touches p · s)
  | releaseLines p => exact serve_touches h (releaseRequest_touches p · s)
  | revokeLines => exact serve_touches h (revokeRequest_touches · s)
  | forceLines => exact serve_touches h (forceRequest_touches · s)
  | unforceLines => exact serve_touches h (unforceRequest_touches · s)
  | clearLineFault => exact serve_touches h (clearFaultRequest_touches · s)
  | post p => exact serve_touches h (postRequest_touches p · s)
  | commit p => exact serve_touches h (commitRequest_touches p · s)
  | discardStaged p => exact serve_touches h (discardRequest_touches p · s)
  | cancelEntries p => exact serve_touches h (cancelRequest_touches p · s)
  | amendEntry p => exact serve_touches h (amendRequest_touches p · s)
  | subscribe p => exact serve_touches h (subscribeRequest_touches p · s)
  | readCaptures p => exact serve_touches h (readCapturesRequest_touches p · s)
  | defineTemplate p => exact serve_touches h (defineRequest_touches p · s)
  | deleteTemplate p => exact serve_touches h (deleteRequest_touches p · s)
  | setTemplateState p => exact serve_touches h (templateStateRequest_touches p · s)
  | verdict p => exact serve_touches h (verdictRequest_touches p · s)
  | setParam => exact serve_touches h (setParamRequest_touches · s)
  | start => exact serve_touches h (startRequest_touches · s)
  | stop => exact serve_touches h (stopRequest_touches · s)
  | resume => exact serve_touches h (resumeRequest_touches · s)
  | resetDevice => exact execResetDevice_touches h
  | readNotices p => exact serve_touches h (readNoticesRequest_touches p · s)
  | setNoticeMask p => exact serve_touches h (setMaskRequest_touches p · s)
  | portStatus p => exact serve_touches h (portStatusRequest_touches p · s)
  | resetPort p => exact resetPort_touches h
  | modeChangeTakenAtBlock b => exact modeChange_touches b h
  | replyMarkerSent p => exact replyMarkerSent_touches h

/-! ## The induction over a step -/

/-- What neither the queue, the counter of free values nor the passing of time can break, and every command keeps, every step
keeps. -/
theorem step_keeps {law : State → Prop}
    (still : ∀ s t : State, Touches [.pending, .freeCount, .now] s t → law s → law t)
    (command : ∀ (i : Instr) (s t : State), law s → exec i s = .next t → law t) :
    ∀ s t : State, law s → step s = .next t → law t := by
  intro s t hs h
  unfold step at h
  split at h
  · rename_i c rest _
    refine command c _ t (still s _ ?_ hs) h
    intro x hx; cases x <;> simp_all [Part.Same]
  · unfold idle at h
    split at h
    · rename_i c _
      refine command c _ t (still s _ ?_ hs) h
      intro x hx; cases x <;> simp_all [Part.Same]
    · obtain rfl := Host.Outcome.next.inj h
      refine still s _ ?_ hs
      unfold State.tick
      split
      · exact .refl _ _
      · intro x hx; cases x <;> simp_all [Part.Same]

end Sys2Proof.Machine

/-! PROOFS. The laws of the Mode Controller, of the notices and of the ports are kept by every step (O57, O56, O58). -/

namespace Sys2Proof.Machine

/-! ## Laws that a command does not reach -/

/-- The command touches none of the parts. -/
def spares (parts : List Part) (i : Instr) : Bool := parts.all fun x => !(touchesOf i).contains x

/-- What is read off parts that the command spares stays as it is. -/
theorem exec_same_of_spares {parts : List Part} {i : Instr} {s t : State} (h : exec i s = .next t)
    (spared : spares parts i = true) : ∀ x ∈ parts, x.Same s t := by
  intro x hx
  refine exec_touches i h x fun mem => ?_
  have := List.all_eq_true.mp spared x hx
  simp [mem] at this

/-! ## The Mode Controller (R145 to R147, R155) -/

/-- The law of the Mode Controller but for the bound on the corruption count outside SAFE, which a finding may reach before
its test (R155). -/
def ControlCore (c : ModeController) : Prop :=
  (c.mode = .safe ↔ c.firstCause ≠ none) ∧ (c.mode ≠ .safe → c.later = CauseSet.empty)
  ∧ c.corruption ≤ Config.corruptionCeiling ∧ 1 ≤ c.params.corruptLimit ∧ c.params.corruptLimit ≤ 15
  ∧ c.scrubPos < Config.scrubRecords

theorem controlLaw_iff_core (c : ModeController) :
    ControlLaw c ↔ ControlCore c ∧ (c.mode ≠ .safe → c.corruption < c.params.corruptLimit) := by
  unfold ControlLaw ControlCore
  constructor
  · rintro ⟨cause, outside, ceiling, low, high, scrub⟩
    exact ⟨⟨cause, fun h => (outside h).1, ceiling, low, high, scrub⟩, fun h => (outside h).2⟩
  · rintro ⟨⟨cause, later, ceiling, low, high, scrub⟩, below⟩
    exact ⟨cause, fun h => ⟨later h, below h⟩, ceiling, low, high, scrub⟩

theorem controlLaw_of_same {s t : State}
    (h : ∀ x ∈ [Part.mode, .causes, .corruption, .params, .scrubber], x.Same s t) (law : s.controlLaw) : t.controlLaw := by
  have mode := h .mode (by decide)
  have causes := h .causes (by decide)
  have corruption := h .corruption (by decide)
  have params := h .params (by decide)
  have scrub := h .scrubber (by decide)
  simp only [Part.Same] at mode causes corruption params scrub
  unfold State.controlLaw ControlLaw at *
  rw [mode, causes.1, causes.2, corruption, params, scrub.1]
  exact law

/-- The Mode Controller after a cause (R142, R145, R146). -/
theorem takeCause_control (s : State) (cause : SafeCause) (line : Option LineNo) :
    (s.takeCause cause line).control = if s.control.mode = .safe then { s.control with later := s.control.later.add cause }
      else { s.control with mode := .safe, firstCause := some cause } := by
  unfold State.takeCause
  cases m : s.control.mode with
  | safe => simp
  | init => simp
  | config => simp [changeMode_control]
  | run => simp [changeMode_control]

/-- A cause leads to SAFE, where the law asks nothing of the corruption count. -/
theorem takeCause_controlLaw (s : State) (cause : SafeCause) (line : Option LineNo) (core : ControlCore s.control) :
    (s.takeCause cause line).controlLaw := by
  obtain ⟨mode, -, ceiling, low, high, scrub⟩ := core
  refine (controlLaw_iff_core _).mpr ⟨?_, fun h => absurd (takeCause_mode s cause line) h⟩
  rw [takeCause_control]
  split
  · rename_i safe
    exact ⟨mode, fun h => absurd safe h, ceiling, low, high, scrub⟩
  · exact ⟨by simp, fun h => absurd rfl h, ceiling, low, high, scrub⟩

theorem controlLaw_initial (q : Params) (k : ResetKind) (low : 1 ≤ q.corruptLimit) (high : q.corruptLimit ≤ 15) :
    ControlLaw (ModeController.initial q k) :=
  ⟨by simp [ModeController.initial], fun _ => ⟨rfl, low⟩, Nat.zero_le _, low, high, (by decide : 0 < Config.scrubRecords)⟩

theorem consultSafeIn_controlLaw (s : State) (law : s.controlLaw) : s.consultSafeIn.controlLaw := by
  unfold State.consultSafeIn
  split
  · exact takeCause_controlLaw s _ _ ((controlLaw_iff_core _).mp law).1
  · exact law

theorem restarted_controlLaw (s : State) (k : ResetKind) (law : s.controlLaw) :
    (s.restarted s.control.params k).controlLaw := by
  obtain ⟨-, -, -, low, high, -⟩ := law
  exact controlLaw_initial _ k low high

theorem softReset_controlLaw (s : State) (law : s.controlLaw) : s.softReset.controlLaw := by
  have restarted := restarted_controlLaw s .soft law
  rw [softReset_eq]
  generalize s.restarted s.control.params .soft = u at restarted ⊢
  generalize (Vector.ofFn fun l : LineNo => _) = v
  exact consultSafeIn_controlLaw _ restarted

/-- A finding is counted up to the ceiling; where the count reaches the limit its test leads to SAFE (R154, R155). -/
theorem finding_controlLaw (s : State) (f : Finding) (law : s.controlLaw) : (s.finding f).controlLaw := by
  obtain ⟨mode, later, ceiling, low, high, scrub⟩ := ((controlLaw_iff_core _).mp law).1
  have reported : (s.reportFinding f).control = s.control := by
    unfold State.reportFinding
    split
    · rfl
    · rw [notifyAll_onlyNotices]
  have counted : ControlCore ((s.reportFinding f).countFinding).control := by
    simp only [State.countFinding, State.setControl_control, reported]
    exact ⟨mode, later, satIncAt_le _ _, low, high, scrub⟩
  have caused : ControlCore ((s.reportFinding f).countFinding.causeOfFinding f).control := by
    cases f with
    | entry i => exact counted
    | template n => exact counted
    | line l => exact ((controlLaw_iff_core _).mp (takeCause_controlLaw _ _ _ counted)).1
  show (State.testLimit _).controlLaw
  unfold State.testLimit
  split
  · exact takeCause_controlLaw _ _ _ caused
  · rename_i below
    exact (controlLaw_iff_core _).mpr ⟨caused, fun _ => by omega⟩

/-- Every write keeps the limit of the corruption count in its range and above the count (R149, R150). -/
theorem write_corruptLimit {q r : Params} {id : ParamId} {n corruption : Nat} (h : q.write id n corruption = some r) :
    r.corruptLimit = q.corruptLimit ∨ (corruption < r.corruptLimit ∧ 1 ≤ r.corruptLimit ∧ r.corruptLimit ≤ 15) := by
  cases id with
  | corruptLimit =>
    simp only [Params.write, inRange] at h
    split at h
    · split at h
      · rename_i above range
        simp only [Option.map_some, Option.some.injEq] at h
        subst h
        exact .inr ⟨above, range.1, range.2⟩
      · simp at h
    · simp at h
  | portPriority k =>
    simp only [Params.write] at h
    split at h
    · simp at h
    · simp only [Option.some.injEq] at h; subst h; exact .inl rfl
    · split at h
      · simp at h
      · simp only [Option.some.injEq] at h; subst h; exact .inl rfl
  | _ =>
    simp only [Params.write, Option.map_eq_some_iff] at h
    obtain ⟨v, -, rfl⟩ := h
    exact .inl rfl

theorem setParamRequest_control (body : List Byte) (s : State) : (setParamRequest body s).1.control = s.control
    ∨ ∃ id n q, s.control.params.write id n s.control.corruption = some q
      ∧ (setParamRequest body s).1.control = { s.control with params := q } := by
  have handed (u : State) (id : ParamId) (q : Params) : (u.handWrite id q).control = u.control := by cases id <;> rfl
  unfold setParamRequest
  split
  · exact .inl rfl
  · split
    · split
      · exact .inl rfl
      · rename_i id n _ _ _ q written
        exact .inr ⟨id, n, q, written, handed _ _ _⟩
    · exact .inl rfl

theorem setParamRequest_controlLaw (body : List Byte) (s : State) (law : s.controlLaw) :
    (setParamRequest body s).1.controlLaw := by
  unfold State.controlLaw
  obtain same | ⟨id, n, q, written, changed⟩ := setParamRequest_control body s
  · rw [same]; exact law
  · rw [changed]
    obtain ⟨cause, outside, ceiling, low, high, scrub⟩ := law
    obtain same | ⟨above, low', high'⟩ := write_corruptLimit written
    · exact ⟨cause, fun h => ⟨(outside h).1, same ▸ (outside h).2⟩, ceiling, same ▸ low, same ▸ high, scrub⟩
    · exact ⟨cause, fun h => ⟨(outside h).1, above⟩, ceiling, low', high', scrub⟩

/-- A handler's law holds after its request is served. -/
theorem serve_controlLaw {k : ReqKind} {p : Port} {f : List Byte → State → State × Reply} {s t : State}
    (h : serve k p f s = .next t) (law : s.controlLaw) (kept : ∀ body, (f body s).1.controlLaw) : t.controlLaw := by
  obtain rfl | ⟨w, -, rfl⟩ := serve_cases h
  · exact law
  · exact kept w.body

theorem startRequest_controlLaw (body : List Byte) (s : State) (law : s.controlLaw) : (startRequest body s).1.controlLaw := by
  unfold startRequest
  split
  · exact law
  · rename_i config
    split
    · exact law
    · split
      · exact law
      · obtain ⟨cause, outside, ceiling, low, high, scrub⟩ := law
        have config : s.control.mode = .config := by simpa using config
        rw [config] at cause outside
        unfold State.controlLaw
        rw [changeMode_control]
        exact ⟨by simpa using cause, fun _ => outside (by decide), ceiling, low, high, scrub⟩

theorem stopRequest_controlLaw (body : List Byte) (s : State) (law : s.controlLaw) : (stopRequest body s).1.controlLaw := by
  unfold stopRequest
  split
  · exact law
  · rename_i run
    split
    · exact law
    · obtain ⟨cause, outside, ceiling, low, high, scrub⟩ := law
      have run : s.control.mode = .run := by simpa using run
      rw [run] at cause outside
      unfold State.controlLaw
      rw [changeMode_control]
      exact ⟨by simpa using cause, fun _ => outside (by decide), ceiling, low, high, scrub⟩

theorem resumeRequest_controlLaw (body : List Byte) (s : State) (law : s.controlLaw) :
    (resumeRequest body s).1.controlLaw := by
  unfold resumeRequest
  split
  · exact law
  · split
    · exact law
    · split
      · exact law
      · obtain ⟨-, -, -, low, high, scrub⟩ := law
        unfold State.controlLaw
        rw [changeMode_control]
        exact ⟨by simp, fun _ => ⟨rfl, low⟩, Nat.zero_le _, low, high, scrub⟩

/-- Where INIT ends without a cause, the law of its first cause holds in CONFIG as in INIT. -/
theorem initEnd_controlLaw {s t : State} (h : execInitEnd s = .next t) (law : s.controlLaw) : t.controlLaw := by
  obtain rfl | ⟨-, rfl⟩ := whenRunning_cases h
  · exact law
  · split
    · rename_i init
      split
      · exact takeCause_controlLaw s _ _ ((controlLaw_iff_core _).mp law).1
      · obtain ⟨cause, outside, ceiling, low, high, scrub⟩ := law
        rw [init] at cause outside
        exact ⟨by simpa using cause, fun _ => outside (by decide), ceiling, low, high, scrub⟩
    · exact law

theorem scrubVisit_controlLaw {s t : State} (h : execScrubVisit s = .next t) (law : s.controlLaw) : t.controlLaw := by
  obtain rfl | ⟨-, rfl⟩ := whenRunning_cases h
  · exact law
  · split
    · have visited : (s.visit s.control.scrubPos).controlLaw := by
        refine controlLaw_of_same (fun x hx => visit_touches s _ x ?_) law
        revert hx; cases x <;> decide
      obtain ⟨cause, outside, ceiling, low, high, scrub⟩ := visited
      simp only [State.controlLaw, State.setControl_control, ModeController.visited]
      split
      · exact ⟨cause, outside, ceiling, low, high, ‹_›⟩
      · exact ⟨cause, outside, ceiling, low, high, (by decide : 0 < Config.scrubRecords)⟩
    · exact law

theorem exec_keeps_controlLaw (i : Instr) (s t : State) (law : s.controlLaw) (h : exec i s = .next t) : t.controlLaw := by
  have core := ((controlLaw_iff_core _).mp law).1
  cases i with
  | powerOnReset => obtain rfl := Host.Outcome.next.inj h; exact controlLaw_initial _ _ (by decide) (by decide)
  | resetnAssert => obtain rfl := Host.Outcome.next.inj h; exact controlLaw_initial _ _ (by decide) (by decide)
  | resetEnd =>
    obtain rfl | ⟨k, -, rfl⟩ := execResetEnd_cases h
    · exact law
    · exact consultSafeIn_controlLaw _ (restarted_controlLaw s _ law)
  | initEnd => exact initEnd_controlLaw h law
  | safeinAssert =>
    obtain rfl | rfl | rfl := execSafeinAssert_cases h
    · exact law
    · exact law
    · exact takeCause_controlLaw _ _ _ core
  | safeRequestOverrun =>
    obtain rfl | ⟨-, rfl⟩ := whenRunning_cases (f := fun s => _) h
    · exact law
    · split
      · exact takeCause_controlLaw s _ _ core
      · exact law
  | corruptionDecay =>
    obtain rfl | ⟨-, rfl⟩ := whenRunning_cases (f := fun s => _) h
    · exact law
    · obtain ⟨cause, outside, ceiling, low, high, scrub⟩ := law
      split
      · exact ⟨cause, outside, ceiling, low, high, scrub⟩
      · exact ⟨cause, fun m => ⟨(outside m).1, Nat.lt_of_le_of_lt (Nat.sub_le _ _) (outside m).2⟩,
          Nat.le_trans (Nat.sub_le _ _) ceiling, low, high, scrub⟩
  | corruptionFinding k =>
    change execCorruptionFinding k s = .next t at h
    obtain rfl | ⟨-, rfl⟩ := whenRunning_cases h
    · exact law
    · split
      · exact law
      · exact finding_controlLaw _ _ law
  | scrubVisit => exact scrubVisit_controlLaw h law
  | selectRelease p =>
    obtain rfl | ⟨-, rfl | rfl⟩ := execSelectRelease_cases h
    · exact law
    · exact law
    · exact softReset_controlLaw _ law
  | resetDevice =>
    obtain rfl | rfl | ⟨w, ph, -, rfl | rfl⟩ := execResetDevice_cases h
    · exact law
    · exact softReset_controlLaw _ law
    · exact law
    · exact law
  | setParam => exact serve_controlLaw h law (setParamRequest_controlLaw · s law)
  | start => exact serve_controlLaw h law (startRequest_controlLaw · s law)
  | stop => exact serve_controlLaw h law (stopRequest_controlLaw · s law)
  | resume => exact serve_controlLaw h law (resumeRequest_controlLaw · s law)
  | modeChangeTakenAtBlock b => exact controlLaw_of_same (exec_same_of_spares h (by cases b <;> rfl)) law
  | _ => exact controlLaw_of_same (exec_same_of_spares h rfl) law

/-- Settles O57, by the parts of the state that each command may touch and one lemma for each command that reaches the Mode
Controller. -/
theorem stepsKeepTheControlLaw : Obligations.StepsKeepTheControlLaw := by
  refine step_keeps (fun s t same => controlLaw_of_same fun x hx => same x ?_) exec_keeps_controlLaw
  revert hx; cases x <;> decide

end Sys2Proof.Machine

namespace Sys2Proof.Machine

/-! ## The notices (R159 to R161) -/

/-- The law of a port's notices but for the alert line. -/
def NoticeCore (x : NoticeState) : Prop :=
  x.pendingSet.Pairwise (fun a b => a.1.code < b.1.code)
  ∧ (∀ k ∈ x.pendingSet, 1 ≤ k.2 ∧ k.2 ≤ Config.pendingCeiling)
  ∧ (x.detail = none ↔ x.pendingSet = [])
  ∧ x.mask.getLsbD 0 = false

theorem NoticeLaw.core {m : Mode} {x : NoticeState} (law : NoticeLaw m x) : NoticeCore x := by
  obtain ⟨ordered, counts, detail, mask, -⟩ := law
  exact ⟨ordered, counts, detail, mask⟩

/-- The alert line judged anew shows the pending set against the mask (R161). -/
theorem judged_noticeLaw (m : Mode) (x : NoticeState) (core : NoticeCore x) : NoticeLaw m (x.judged m) := by
  obtain ⟨ordered, counts, detail, mask⟩ := core
  refine ⟨ordered, counts, detail, mask, ?_⟩
  simp [NoticeState.judged, List.any_eq_true]

/-- Outside INIT the law does not depend on the mode. -/
theorem NoticeLaw.of_mode {m k : Mode} {x : NoticeState} (law : NoticeLaw m x) (hm : m ≠ .init) (hk : k ≠ .init) :
    NoticeLaw k x := by
  obtain ⟨ordered, counts, detail, mask, alert⟩ := law
  exact ⟨ordered, counts, detail, mask, by simpa [hm, hk] using alert⟩

theorem noticeLaw_initial : NoticeLaw .init NoticeState.initial :=
  ⟨.nil, by simp [NoticeState.initial], by simp [NoticeState.initial], by decide, by simp [NoticeState.initial]⟩

theorem NoticeKind.code_injective : Function.Injective NoticeKind.code := by
  intro a b h; cases a <;> cases b <;> first | rfl | cases h

/-- A kind counted joins the pending set, and only its count changes where it is there (R159). -/
theorem mem_countKind {k : NoticeKind} {x : NoticeKind × Nat} {l : List (NoticeKind × Nat)} (h : x ∈ countKind k l) :
    x = (k, 1) ∨ x ∈ l ∨ ∃ n, (k, n) ∈ l ∧ x = (k, satIncAt Config.pendingCeiling n) := by
  induction l with
  | nil => left; simpa [countKind] using h
  | cons y rest ih =>
    obtain ⟨j, n⟩ := y
    simp only [countKind] at h
    split at h
    · rename_i same
      subst same
      obtain rfl | later := List.mem_cons.mp h
      · exact .inr (.inr ⟨n, by simp, rfl⟩)
      · exact .inr (.inl (List.mem_cons_of_mem _ later))
    · split at h
      · obtain rfl | later := List.mem_cons.mp h
        · exact .inl rfl
        · exact .inr (.inl later)
      · obtain rfl | later := List.mem_cons.mp h
        · exact .inr (.inl (List.mem_cons_self ..))
        · obtain rfl | old | ⟨m, old, rfl⟩ := ih later
          · exact .inl rfl
          · exact .inr (.inl (List.mem_cons_of_mem _ old))
          · exact .inr (.inr ⟨m, List.mem_cons_of_mem _ old, rfl⟩)

/-- The pending set stays in ascending kind code (R159). -/
theorem countKind_pairwise (k : NoticeKind) (l : List (NoticeKind × Nat))
    (h : l.Pairwise (fun a b => a.1.code < b.1.code)) : (countKind k l).Pairwise (fun a b => a.1.code < b.1.code) := by
  induction l with
  | nil => simp [countKind]
  | cons y rest ih =>
    obtain ⟨j, n⟩ := y
    obtain ⟨before, ordered⟩ := List.pairwise_cons.mp h
    simp only [countKind]
    split
    · exact List.pairwise_cons.mpr ⟨before, ordered⟩
    · rename_i differ
      split
      · rename_i lower
        refine List.pairwise_cons.mpr ⟨fun x hx => ?_, h⟩
        obtain rfl | later := List.mem_cons.mp hx
        · exact lower
        · exact Nat.lt_trans lower (before x later)
      · rename_i notLower
        refine List.pairwise_cons.mpr ⟨fun x hx => ?_, ih ordered⟩
        have above : j.code < k.code :=
          Nat.lt_of_le_of_ne (Nat.le_of_not_lt notLower) fun e => differ (NoticeKind.code_injective e)
        obtain rfl | old | ⟨m, -, rfl⟩ := mem_countKind hx
        · exact above
        · exact before x old
        · exact above

theorem countKind_ne_nil (k : NoticeKind) (l : List (NoticeKind × Nat)) : countKind k l ≠ [] := by
  cases l with
  | nil => simp [countKind]
  | cons y rest =>
    simp only [countKind]
    split
    · exact List.cons_ne_nil _ _
    · split <;> exact List.cons_ne_nil _ _

theorem detailAfter_ne_none (held : Option Notice) (n : Notice) : detailAfter held n ≠ none := by
  unfold detailAfter
  split
  · exact Option.some_ne_none _
  · split <;> exact Option.some_ne_none _

/-- A notice taken keeps the law (R159 to R161). -/
theorem take_noticeLaw (m : Mode) (x : NoticeState) (n : Notice) (core : NoticeCore x) : NoticeLaw m (x.take m n) := by
  obtain ⟨ordered, counts, -, mask⟩ := core
  refine judged_noticeLaw m _ ⟨countKind_pairwise _ _ ordered, fun k hk => ?_, ?_, mask⟩
  · obtain rfl | old | ⟨c, old, rfl⟩ := mem_countKind hk
    · exact ⟨Nat.le_refl 1, (by decide : 1 ≤ Config.pendingCeiling)⟩
    · exact counts k old
    · have := (counts _ old).1
      exact ⟨by simp only [satIncAt, Config.pendingCeiling]; omega, satIncAt_le _ _⟩
  · simp [detailAfter_ne_none, countKind_ne_nil]

theorem emptied_noticeLaw (m : Mode) (x : NoticeState) (core : NoticeCore x) : NoticeLaw m (x.emptied m) :=
  judged_noticeLaw m _ ⟨.nil, fun _ h => absurd h List.not_mem_nil, by simp, core.2.2.2⟩

theorem portReset_noticeLaw (m : Mode) (x : NoticeState) : NoticeLaw m (x.portReset m) :=
  judged_noticeLaw m _ ⟨.nil, fun _ h => absurd h List.not_mem_nil, by simp,
    (by decide : Config.defaultMask.getLsbD 0 = false)⟩

theorem noticeLaw_of_same {s t : State} (h : ∀ x ∈ [Part.mode, .notices], x.Same s t) (law : s.noticeLaw) :
    t.noticeLaw := by
  have mode := h .mode (by decide)
  have notices := h .notices (by decide)
  simp only [Part.Same] at mode notices
  intro p; rw [mode, notices]; exact law p

/-- Outside INIT a change of mode keeps the law. -/
theorem noticeLaw_of_mode {s t : State} (notices : t.notices = s.notices) (hs : s.control.mode ≠ .init)
    (ht : t.control.mode ≠ .init) (law : s.noticeLaw) : t.noticeLaw := fun p => by
  rw [notices]; exact (law p).of_mode hs ht

theorem setNotices_noticeLaw (s : State) (p : Port) (x : NoticeState) (law : s.noticeLaw)
    (hx : NoticeLaw s.control.mode x) : (s.setNotices p x).noticeLaw := fun q => by
  by_cases h : q = p
  · subst h; simpa using hx
  · simpa [PerPort.get_set_other _ _ _ _ h] using law q

theorem changeMode_noticeLaw (s : State) (new : Mode) (reason : Nat) (line : Option LineNo) (law : s.noticeLaw)
    (hs : s.control.mode ≠ .init) (hn : new ≠ .init) : (s.changeMode new reason line).noticeLaw := by
  refine noticeLaw_of_mode (changeMode_touches s new reason line .notices (by decide)) hs ?_ law
  rwa [changeMode_control]

theorem endInit_noticeLaw (s : State) (new : Mode) (law : s.noticeLaw) : (s.endInit new).noticeLaw := fun p => by
  rw [endInit_notices, PerPort.get_map, endInit_control]
  exact take_noticeLaw new _ _ (law p).core

theorem takeCause_noticeLaw (s : State) (cause : SafeCause) (line : Option LineNo) (law : s.noticeLaw) :
    (s.takeCause cause line).noticeLaw := by
  unfold State.takeCause
  split
  · exact law
  · exact endInit_noticeLaw _ _ law
  all_goals
    rename_i mode
    exact changeMode_noticeLaw _ _ _ _ law (by simp [mode]) (by decide)

theorem consultSafeIn_noticeLaw (s : State) (law : s.noticeLaw) : s.consultSafeIn.noticeLaw := by
  unfold State.consultSafeIn
  split
  · exact takeCause_noticeLaw _ _ _ law
  · exact law

theorem restarted_noticeLaw (s : State) (q : Params) (k : ResetKind) : (s.restarted q k).noticeLaw := fun p => by
  cases p <;> exact noticeLaw_initial

theorem softReset_noticeLaw (s : State) : s.softReset.noticeLaw := by
  have restarted := restarted_noticeLaw s s.control.params .soft
  rw [softReset_eq]
  generalize s.restarted s.control.params .soft = u at restarted ⊢
  generalize (Vector.ofFn fun l : LineNo => _) = v
  exact consultSafeIn_noticeLaw _ restarted

theorem finding_noticeLaw (s : State) (f : Finding) (law : s.noticeLaw) : (s.finding f).noticeLaw := by
  have reported : (s.reportFinding f).noticeLaw := by
    unfold State.reportFinding
    split
    · exact law
    · refine noticeLaw_of_same (fun x hx => notifyAll_touches s _ _ x ?_) law
      revert hx; cases x <;> decide
  have caused : ((s.reportFinding f).countFinding.causeOfFinding f).noticeLaw := by
    cases f with
    | entry i => exact reported
    | template n => exact reported
    | line l => exact takeCause_noticeLaw (s.reportFinding (.line l)).countFinding _ _ reported
  show (State.testLimit _).noticeLaw
  unfold State.testLimit
  split
  · exact takeCause_noticeLaw _ _ _ caused
  · exact caused

/-- A handler's law of the notices holds after its request is served. -/
theorem serve_noticeLaw {k : ReqKind} {p : Port} {f : List Byte → State → State × Reply} {s t : State}
    (h : serve k p f s = .next t) (law : s.noticeLaw) (kept : ∀ body, (f body s).1.noticeLaw) : t.noticeLaw := by
  obtain rfl | ⟨w, -, rfl⟩ := serve_cases h
  · exact law
  · exact kept w.body

theorem startRequest_noticeLaw (body : List Byte) (s : State) (law : s.noticeLaw) : (startRequest body s).1.noticeLaw := by
  unfold startRequest
  split
  · exact law
  · rename_i config
    split
    · exact law
    · split
      · exact law
      · exact changeMode_noticeLaw _ _ _ _ law (fun init => config (by simp [init])) (by decide)

theorem stopRequest_noticeLaw (body : List Byte) (s : State) (law : s.noticeLaw) : (stopRequest body s).1.noticeLaw := by
  unfold stopRequest
  split
  · exact law
  · rename_i run
    split
    · exact law
    · exact changeMode_noticeLaw _ _ _ _ law (fun init => run (by simp [init])) (by decide)

theorem resumeRequest_noticeLaw (body : List Byte) (s : State) (law : s.noticeLaw) :
    (resumeRequest body s).1.noticeLaw := by
  unfold resumeRequest
  split
  · exact law
  · rename_i safe
    split
    · exact law
    · split
      · exact law
      · exact changeMode_noticeLaw (s.setControl _) _ _ _ law (fun init => safe (by simp [show s.control.mode = .init from init]))
          (by decide)

theorem portResetPart_noticeLaw (s : State) (p : Port) (stage : Nat) (c : PortResetCounts) (law : s.noticeLaw) :
    (s.portResetPart p stage c).1.noticeLaw := by
  unfold State.portResetPart
  split
  · exact law
  · exact law
  · exact law
  · have shares : Touches [.line, .slotContents, .entries, .places] s (s.dropShares p) :=
      (changeLines_touches _ _ _).comp (cut_touches _ _ _)
    refine noticeLaw_of_same (fun x hx => shares x ?_) law
    revert hx; cases x <;> decide
  · exact law
  · split
    · exact setNotices_noticeLaw s p _ law (portReset_noticeLaw _ _)
    · exact law

theorem exec_keeps_noticeLaw (i : Instr) (s t : State) (law : s.noticeLaw) (h : exec i s = .next t) : t.noticeLaw := by
  cases i with
  | powerOnReset | resetnAssert =>
    obtain rfl := Host.Outcome.next.inj h
    exact restarted_noticeLaw s _ _
  | resetEnd =>
    obtain rfl | ⟨k, -, rfl⟩ := execResetEnd_cases h
    · exact law
    · exact consultSafeIn_noticeLaw _ (restarted_noticeLaw s _ _)
  | initEnd =>
    obtain rfl | ⟨-, rfl⟩ := whenRunning_cases (f := fun s => _) h
    · exact law
    · split
      · split
        · exact takeCause_noticeLaw s _ _ law
        · exact endInit_noticeLaw s _ law
      · exact law
  | safeinAssert =>
    obtain rfl | rfl | rfl := execSafeinAssert_cases h
    · exact law
    · exact law
    · exact takeCause_noticeLaw { s with pinSafeIn := true } _ _ law
  | safeRequestOverrun =>
    obtain rfl | ⟨-, rfl⟩ := whenRunning_cases (f := fun s => _) h
    · exact law
    · split
      · exact takeCause_noticeLaw s _ _ law
      · exact law
  | corruptionFinding k =>
    change execCorruptionFinding k s = .next t at h
    obtain rfl | ⟨-, rfl⟩ := whenRunning_cases h
    · exact law
    · split
      · exact law
      · exact finding_noticeLaw (s.setWires _) _ law
  | noticeTaken p n =>
    change execNoticeTaken p n s = .next t at h
    obtain rfl | ⟨-, rfl⟩ := whenRunning_cases h
    · exact law
    · simp only
      split
      · exact law
      · split
        · exact setNotices_noticeLaw (s.setWires _) p _ law (take_noticeLaw _ _ _ (law p).core)
        · exact law
  | selectRelease p =>
    obtain rfl | ⟨-, rfl | rfl⟩ := execSelectRelease_cases h
    · exact law
    · exact law
    · exact softReset_noticeLaw _
  | resetDevice =>
    obtain rfl | rfl | ⟨w, ph, -, rfl | rfl⟩ := execResetDevice_cases h
    · exact law
    · exact softReset_noticeLaw _
    · exact law
    · exact law
  | start => exact serve_noticeLaw h law (startRequest_noticeLaw · s law)
  | stop => exact serve_noticeLaw h law (stopRequest_noticeLaw · s law)
  | resume => exact serve_noticeLaw h law (resumeRequest_noticeLaw · s law)
  | readNotices p =>
    refine serve_noticeLaw h law fun body => ?_
    unfold readNoticesRequest
    split
    · exact setNotices_noticeLaw s p _ law (emptied_noticeLaw _ _ (law p).core)
    · exact law
  | setNoticeMask p =>
    refine serve_noticeLaw h law fun body => ?_
    unfold setMaskRequest parseMask
    split
    · exact law
    · rename_i mask accepted
      obtain ⟨ordered, counts, detail, -⟩ := (law p).core
      refine setNotices_noticeLaw s p _ law (judged_noticeLaw _ _ ⟨ordered, counts, detail, ?_⟩)
      split at accepted
      · rename_i body_mask
        exact Option.some.inj accepted ▸ body_mask.2
      · cases accepted
  | resetPort p =>
    obtain rfl | ⟨w, -, ⟨n, c, rfl⟩ | rfl⟩ := execResetPort_cases h
    · exact law
    · exact portResetPart_noticeLaw s p _ _ law
    · exact law
  | modeChangeTakenAtBlock b => exact noticeLaw_of_same (exec_same_of_spares h (by cases b <;> rfl)) law
  | _ => exact noticeLaw_of_same (exec_same_of_spares h rfl) law

/-- Settles O56: a change of the pending set or the mask is judged anew, and between the modes outside INIT the law does not
depend on the mode. -/
theorem stepsKeepTheNoticeLaw : Obligations.StepsKeepTheNoticeLaw := by
  refine step_keeps (fun s t same => noticeLaw_of_same fun x hx => same x ?_) exec_keeps_noticeLaw
  revert hx; cases x <;> decide

end Sys2Proof.Machine

namespace Sys2Proof.Machine

/-! ## The ports (R168 to R173) -/

theorem portLaw_of_ports {s t : State} (same : t.ports = s.ports) (law : s.portLaw) : t.portLaw := fun p => by
  rw [same]; exact law p

theorem portLaw_of_same {s t : State} (h : ∀ x ∈ [Part.ports], x.Same s t) (law : s.portLaw) : t.portLaw :=
  portLaw_of_ports (h .ports (by decide)) law

theorem setPort_portLaw (s : State) (p : Port) (r : PortRec) (law : s.portLaw) (hr : PortLaw p r) :
    (s.setPort p r).portLaw := fun q => by
  by_cases h : q = p
  · subst h; simpa using hr
  · simpa [PerPort.get_set_other _ _ _ _ h] using law q

theorem portLaw_initial (p : Port) (selected : Bool) : PortLaw p (PortRec.initial selected) := by
  simp [PortLaw, PortRec.initial]

/-- How far a request has come is nothing to the law (R171). -/
theorem phase_portLaw {p : Port} {r : PortRec} {w : Work} (ph : WorkPhase) (work : r.work = some w) (law : PortLaw p r) :
    PortLaw p { r with work := some { w with phase := ph } } := by
  obtain ⟨reply, working, open_, uncut, idleWork, refused, cut, buffer, supervisor⟩ := law
  simp only [work] at working uncut idleWork supervisor
  exact ⟨reply, fun _ => working rfl, open_, fun a b => ⟨(uncut a b).1, (uncut a b).2.1, rfl⟩, by simp, refused, cut,
    buffer, fun v hv => by cases hv; exact supervisor w rfl⟩

section
variable {p : Port} {r : PortRec} (law : PortLaw p r)
include law

/-- A port whose select is released has no transaction open and no work but cut work. -/
theorem PortLaw.of_released (released : r.selected = false) :
    r.refusing = false ∧ (r.state = .idle ∨ (r.state = .working ∧ r.cut = true)) := by
  obtain ⟨-, -, open_, uncut, -, refused, -, -, -⟩ := law
  refine ⟨by simpa [released] using refused, ?_⟩
  cases st : r.state <;> simp_all

theorem opened_portLaw (released : r.selected = false) : PortLaw p r.opened := by
  obtain ⟨unrefused, states⟩ := law.of_released released
  obtain ⟨reply, working, -, -, idleWork, -, cut, buffer, supervisor⟩ := law
  obtain idle | ⟨busy, wasCut⟩ := states
  · simp_all [PortLaw, PortRec.opened]
  · simp_all [PortLaw, PortRec.opened]

/-- A fall of the select while no transaction is taken (R167). -/
theorem refused_portLaw (released : r.selected = false) : PortLaw p { r with selected := true, refusing := true } := by
  obtain ⟨-, states⟩ := law.of_released released
  obtain ⟨reply, working, -, -, -, -, cut, buffer, supervisor⟩ := law
  obtain idle | ⟨busy, wasCut⟩ := states <;> simp_all [PortLaw]

theorem refusedClosed_portLaw (refusing : r.refusing = true) : PortLaw p r.refusedClosed := by
  obtain ⟨reply, working, open_, uncut, idleWork, -, cut, -, supervisor⟩ := law
  unfold PortRec.refusedClosed
  simp only
  split
  · rename_i done
    simp_all [PortLaw]
  · rename_i notDone
    cases st : r.state <;> simp_all [PortLaw]

theorem closed_portLaw (unrefused : r.refusing = false) : PortLaw p r.closed := by
  obtain ⟨reply, working, open_, uncut, idleWork, -, cut, -, supervisor⟩ := law
  unfold PortRec.closed
  cases st : r.state <;> simp_all [PortLaw]

theorem released_portLaw : PortLaw p r.released := by
  unfold PortRec.released
  split
  · exact refusedClosed_portLaw law ‹_›
  · rename_i unrefused
    exact closed_portLaw law (by simpa using unrefused)

/-- A frame answered at the port itself (R170). -/
theorem answered_portLaw (receiving : r.state = .receiving) (buf : List Byte) (short : buf.length ≤ Config.maxRequestBytes)
    (framing crc : BitVec 8) (b : ReplyBuffer) :
    PortLaw p { r with buffer := buf, framing := framing, crc := crc, state := .replyReady, reply := some b } := by
  obtain ⟨reply, working, open_, uncut, idleWork, refused, cut, -, supervisor⟩ := law
  simp_all [PortLaw]

theorem buffered_portLaw (buf : List Byte) (short : buf.length ≤ Config.maxRequestBytes) :
    PortLaw p { r with buffer := buf } := by
  obtain ⟨reply, working, open_, uncut, idleWork, refused, cut, -, supervisor⟩ := law
  exact ⟨reply, working, open_, uncut, idleWork, refused, cut, short, supervisor⟩

/-- A good request handed on (R170, R171). -/
theorem handed_portLaw (receiving : r.state = .receiving) (w : Work) (role : w.kind.supervisor = true → p = .A) :
    PortLaw p { r with state := .working, work := some w } := by
  obtain ⟨reply, working, open_, uncut, idleWork, refused, cut, buffer, supervisor⟩ := law
  simp_all [PortLaw]

theorem discarded_portLaw (work : r.work.isSome = true) (wasCut : r.cut = true) : PortLaw p r.discarded := by
  obtain ⟨reply, working, open_, uncut, idleWork, refused, cut, buffer, supervisor⟩ := law
  unfold PortRec.discarded
  split <;> simp_all [PortLaw]

/-- The reply of completed work made ready (R171). -/
theorem ready_portLaw (work : r.work.isSome = true) (uncutWork : r.cut = false) (b : ReplyBuffer) :
    PortLaw p { r with state := .replyReady, work := none, reply := some b } := by
  obtain ⟨reply, working, open_, uncut, idleWork, refused, cut, buffer, supervisor⟩ := law
  simp_all [PortLaw]

theorem replying_portLaw (ready : r.state = .replyReady) : PortLaw p { r with state := .replying } := by
  obtain ⟨reply, working, open_, uncut, idleWork, refused, cut, buffer, supervisor⟩ := law
  simp_all [PortLaw]

theorem clockedOut_portLaw (replying : r.state = .replying) (b : ReplyBuffer) (n : Nat) : PortLaw p (r.clockedOut b n) := by
  obtain ⟨reply, working, open_, uncut, idleWork, refused, cut, buffer, supervisor⟩ := law
  unfold PortRec.clockedOut
  split <;> simp_all [PortLaw]

end

theorem judgeFrame_portLaw (s : State) (p : Port) (r : PortRec) (frame : List Byte) (law : s.portLaw) (hr : PortLaw p r)
    (receiving : r.state = .receiving) : (s.judgeFrame p r frame).portLaw := by
  have short := hr.2.2.2.2.2.2.2.1
  unfold State.judgeFrame
  simp only
  split
  · split
    · exact setPort_portLaw s p _ law (answered_portLaw hr receiving r.buffer short r.framing r.crc _)
    · rename_i k _
      split
      · exact setPort_portLaw s p _ law (answered_portLaw hr receiving r.buffer short r.framing r.crc _)
      · rename_i permitted
        exact setPort_portLaw s p _ law (handed_portLaw hr receiving _ fun sup => by
          by_contra other; exact permitted ⟨sup, other⟩)
  · exact setPort_portLaw s p _ law (answered_portLaw hr receiving r.buffer short r.framing _ _)

theorem receive_portLaw (s : State) (p : Port) (bytes : List Byte) (law : s.portLaw)
    (receiving : (s.ports.get p).state = .receiving) : (s.receive p (s.ports.get p) bytes).portLaw := by
  unfold State.receive
  split
  · exact law
  · rename_i len rest _
    split
    · exact setPort_portLaw s p _ law
        (answered_portLaw (law p) receiving [len] (by simp [Config.maxRequestBytes]) _ (s.ports.get p).crc _)
    · rename_i valid
      have short : ((len :: rest).take len.toNat).length ≤ Config.maxRequestBytes := by
        rw [List.length_take]; omega
      have buffered := buffered_portLaw (law p) _ short
      simp only
      split
      · exact setPort_portLaw s p _ law buffered
      · exact judgeFrame_portLaw s p _ _ law buffered receiving

theorem request_work {s : State} {p : Port} {k : ReqKind} {w : Work} (h : s.request p k = some w) :
    (s.ports.get p).work = some w := by
  unfold State.request at h
  split at h
  · split at h
    · cases h; assumption
    · cases h
  · cases h

/-- A request served by a handler that leaves the port records: only the progress of the request changes there. -/
theorem serve_portLaw {k : ReqKind} {p : Port} {f : List Byte → State → State × Reply} {s t : State}
    (h : serve k p f s = .next t) (law : s.portLaw) {parts : List Part} (touches : ∀ body, Touches parts s (f body s).1)
    (spared : Part.ports ∉ parts) : t.portLaw := by
  obtain rfl | ⟨w, taken, rfl⟩ := serve_cases h
  · exact law
  · have ports : (f w.body s).1.ports = s.ports := touches w.body .ports spared
    have kept : ((f w.body s).1.markOwn p (s.wires.notices.get p).length).portLaw :=
      portLaw_of_ports ports law
    refine setPort_portLaw _ p _ kept (phase_portLaw _ ?_ (kept p))
    show ((f w.body s).1.ports.get p).work = some w
    rw [ports]; exact request_work taken

theorem portStatusRequest_ports (p : Port) (body : List Byte) (s : State) :
    (portStatusRequest p body s).1.ports = s.ports ∨ (portStatusRequest p body s).1.ports
      = s.ports.set p { s.ports.get p with framing := 0, crc := 0, busy := 0 } := by
  unfold portStatusRequest
  simp only
  split
  · exact .inr rfl
  · exact .inl rfl

theorem portStatus_portLaw {p : Port} {s t : State} (h : execPortStatus p s = .next t) (law : s.portLaw) :
    t.portLaw := by
  obtain rfl | ⟨w, taken, rfl⟩ := serve_cases h
  · exact law
  · obtain ⟨reply, working, open_, uncut, idleWork, refused, cut, buffer, supervisor⟩ := law p
    have cleared : PortLaw p { s.ports.get p with framing := 0, crc := 0, busy := 0 } :=
      ⟨reply, working, open_, uncut, idleWork, refused, cut, buffer, supervisor⟩
    have work := request_work taken
    obtain same | counts := portStatusRequest_ports p w.body s
    · have kept : ((portStatusRequest p w.body s).1.markOwn p (s.wires.notices.get p).length).portLaw :=
        portLaw_of_ports same law
      exact setPort_portLaw _ p _ kept (phase_portLaw _ (by
        show ((portStatusRequest p w.body s).1.ports.get p).work = some w
        rw [same]; exact work) (kept p))
    · have kept : ((portStatusRequest p w.body s).1.markOwn p (s.wires.notices.get p).length).portLaw :=
        portLaw_of_ports (s := s.setPort p { s.ports.get p with framing := 0, crc := 0, busy := 0 }) counts
          (setPort_portLaw s p _ law cleared)
      exact setPort_portLaw _ p _ kept (phase_portLaw _ (by
        show ((portStatusRequest p w.body s).1.ports.get p).work = some w
        rw [counts]; simpa using work) (kept p))

theorem restarted_portLaw (s : State) (q : Params) (k : ResetKind) : (s.restarted q k).portLaw := fun p => by
  cases p <;> exact portLaw_initial _ _

theorem consultSafeIn_portLaw (s : State) (law : s.portLaw) : s.consultSafeIn.portLaw := by
  refine portLaw_of_same (fun x hx => consultSafeIn_touches s x ?_) law
  revert hx; cases x <;> decide

theorem softReset_portLaw (s : State) : s.softReset.portLaw := by
  have restarted := restarted_portLaw s s.control.params .soft
  rw [softReset_eq]
  generalize s.restarted s.control.params .soft = u at restarted ⊢
  generalize (Vector.ofFn fun l : LineNo => _) = v
  exact consultSafeIn_portLaw _ restarted

theorem setPhase_portLaw {s : State} {p : Port} {w : Work} (ph : WorkPhase) (law : s.portLaw)
    (work : (s.ports.get p).work = some w) : (s.setPhase p w ph).portLaw :=
  setPort_portLaw s p _ law (phase_portLaw ph work (law p))

theorem portResetPart_ports (s : State) (p : Port) (stage : Nat) (c : PortResetCounts) :
    (s.portResetPart p stage c).1.ports = s.ports := by
  have shares : Touches [.line, .slotContents, .entries, .places] s (s.dropShares p) :=
    (changeLines_touches _ _ _).comp (cut_touches _ _ _)
  unfold State.portResetPart
  split
  · rfl
  · rfl
  · rfl
  · exact shares .ports (by decide)
  · rfl
  · split <;> rfl

theorem replyReady_portLaw {p : Port} {s t : State} (h : execReplyReady p s = .next t) (law : s.portLaw) : t.portLaw := by
  obtain rfl | ⟨-, rfl⟩ := whenRunning_cases h
  · exact law
  · split
    · exact law
    · rename_i w work
      have some_ : (s.ports.get p).work.isSome = true := by simp [work]
      split
      · exact law
      · exact law
      · split
        · exact law
        · unfold State.completeWork
          simp only
          split
          · exact setPort_portLaw s p _ law (discarded_portLaw (law p) some_ ‹_›)
          · rename_i uncut
            exact setPort_portLaw s p _ law (ready_portLaw (law p) some_ (by simpa using uncut) _)

theorem exec_keeps_portLaw (i : Instr) (s t : State) (law : s.portLaw) (h : exec i s = .next t) : t.portLaw := by
  cases i with
  | powerOnReset => obtain rfl := Host.Outcome.next.inj h; exact restarted_portLaw s Params.default .power
  | resetnAssert => obtain rfl := Host.Outcome.next.inj h; exact restarted_portLaw s Params.default .pin
  | resetEnd =>
    obtain rfl | ⟨k, -, rfl⟩ := execResetEnd_cases h
    · exact law
    · exact consultSafeIn_portLaw _ (restarted_portLaw s _ _)
  | selectFall p =>
    obtain rfl := Host.Outcome.next.inj h
    split
    · exact law
    · rename_i released
      have released : (s.ports.get p).selected = false := by simpa using released
      split
      · exact setPort_portLaw s p _ law (refused_portLaw (law p) released)
      · exact setPort_portLaw s p _ law (opened_portLaw (law p) released)
  | selectRelease p =>
    obtain rfl | ⟨-, rfl | rfl⟩ := execSelectRelease_cases h
    · exact law
    · exact setPort_portLaw s p _ law (released_portLaw (law p))
    · exact softReset_portLaw _
  | requestFrame p bytes =>
    change execRequestFrame p bytes s = .next t at h
    obtain rfl | ⟨-, rfl⟩ := whenRunning_cases h
    · exact law
    · split
      · rename_i receives
        have receiving : (s.ports.get p).state = .receiving := by
          simp only [PortRec.receives, Bool.and_eq_true, beq_iff_eq] at receives
          exact receives.2
        exact receive_portLaw s p bytes law receiving
      · exact law
  | replyReady p => exact replyReady_portLaw h law
  | replySent p n =>
    change execReplySent p n s = .next t at h
    obtain rfl | ⟨-, rfl⟩ := whenRunning_cases h
    · exact law
    · simp only
      split
      · exact law
      · split
        · exact setPort_portLaw s p _ law (clockedOut_portLaw (law p) ‹_› _ n)
        · exact law
  | replyMarkerSent p =>
    change execReplyMarkerSent p s = .next t at h
    obtain rfl | ⟨-, rfl⟩ := whenRunning_cases h
    · exact law
    · simp only
      split
      · exact setPort_portLaw s p _ law (replying_portLaw (law p) ‹_›)
      · exact law
  | readPosition p | readLines p | queryEntry p | readTableStatus p | queryTemplate p | getParam p | readHealth p =>
    exact serve_portLaw h law (reading_touches [] _ · s) (by decide)
  | presetPosition => exact serve_portLaw h law (presetPositionRequest_touches · s) (by decide)
  | leaseLines p => exact serve_portLaw h law (leaseRequest_touches p · s) (by decide)
  | releaseLines p => exact serve_portLaw h law (releaseRequest_touches p · s) (by decide)
  | revokeLines => exact serve_portLaw h law (revokeRequest_touches · s) (by decide)
  | forceLines => exact serve_portLaw h law (forceRequest_touches · s) (by decide)
  | unforceLines => exact serve_portLaw h law (unforceRequest_touches · s) (by decide)
  | clearLineFault => exact serve_portLaw h law (clearFaultRequest_touches · s) (by decide)
  | post p => exact serve_portLaw h law (postRequest_touches p · s) (by decide)
  | commit p => exact serve_portLaw h law (commitRequest_touches p · s) (by decide)
  | discardStaged p => exact serve_portLaw h law (discardRequest_touches p · s) (by decide)
  | cancelEntries p => exact serve_portLaw h law (cancelRequest_touches p · s) (by decide)
  | amendEntry p => exact serve_portLaw h law (amendRequest_touches p · s) (by decide)
  | subscribe p => exact serve_portLaw h law (subscribeRequest_touches p · s) (by decide)
  | readCaptures p => exact serve_portLaw h law (readCapturesRequest_touches p · s) (by decide)
  | defineTemplate p => exact serve_portLaw h law (defineRequest_touches p · s) (by decide)
  | deleteTemplate p => exact serve_portLaw h law (deleteRequest_touches p · s) (by decide)
  | setTemplateState p => exact serve_portLaw h law (templateStateRequest_touches p · s) (by decide)
  | verdict p => exact serve_portLaw h law (verdictRequest_touches p · s) (by decide)
  | setParam => exact serve_portLaw h law (setParamRequest_touches · s) (by decide)
  | start => exact serve_portLaw h law (startRequest_touches · s) (by decide)
  | stop => exact serve_portLaw h law (stopRequest_touches · s) (by decide)
  | resume => exact serve_portLaw h law (resumeRequest_touches · s) (by decide)
  | readNotices p => exact serve_portLaw h law (readNoticesRequest_touches p · s) (by decide)
  | setNoticeMask p => exact serve_portLaw h law (setMaskRequest_touches p · s) (by decide)
  | portStatus p => exact portStatus_portLaw h law
  | resetDevice =>
    obtain rfl | rfl | ⟨w, ph, taken, rfl | rfl⟩ := execResetDevice_cases h
    · exact law
    · exact softReset_portLaw _
    · exact setPhase_portLaw ph law (request_work taken)
    · exact setPhase_portLaw (s := s.setControl _) ph law (request_work taken)
  | resetPort p =>
    obtain rfl | ⟨w, work, ⟨n, c, rfl⟩ | rfl⟩ := execResetPort_cases h
    · exact law
    · have ports := portResetPart_ports s p n c
      have kept : (s.portResetPart p n c).1.portLaw := portLaw_of_ports ports law
      exact setPhase_portLaw _ kept (by rw [ports]; exact work)
    · exact setPhase_portLaw _ law work
  | modeChangeTakenAtBlock b => exact portLaw_of_same (exec_same_of_spares h (by cases b <;> rfl)) law
  | _ => exact portLaw_of_same (exec_same_of_spares h rfl) law

/-- Settles O58, by the states of a port: each operation on a port record keeps its law, and a served request only records how
far it has come. -/
theorem stepsKeepThePortLaw : Obligations.StepsKeepThePortLaw := by
  refine step_keeps (fun s t same => portLaw_of_same fun x hx => same x ?_) exec_keeps_portLaw
  revert hx; cases x <;> decide

end Sys2Proof.Machine

/-! PROOFS. The law of the Capture Log is kept by every step (O52). -/

namespace Sys2Proof.Machine

/-! ## Lags and sequences (R111) -/

/-- A step of N moves every lag but that of a count that moves with it. -/
theorem lag_succ (next x : Word32) (h : (next - x).toNat < 2 ^ 31) : (next + 1 - x).toNat = (next - x).toNat + 1 := by
  bv_omega

theorem sub_ofNat_lag (next : Word32) (k : Nat) (h : k < 2 ^ 32) : (next - (next - BitVec.ofNat 32 k)).toNat = k := by
  have : next - (next - BitVec.ofNat 32 k) = BitVec.ofNat 32 k := by bv_omega
  rw [this, BitVec.toNat_ofNat, Nat.mod_eq_of_lt h]

theorem lag_add (next x : Word32) (n : Nat) (h : n ≤ (next - x).toNat) :
    (next - (x + BitVec.ofNat 32 n)).toNat = (next - x).toNat - n := by
  have small : n < 2 ^ 32 := Nat.lt_of_le_of_lt h (next - x).isLt
  have : next - (x + BitVec.ofNat 32 n) = next - x - BitVec.ofNat 32 n := by bv_omega
  rw [this, BitVec.toNat_sub_of_le (by rw [BitVec.le_def, BitVec.toNat_ofNat, Nat.mod_eq_of_lt small]; exact h),
    BitVec.toNat_ofNat, Nat.mod_eq_of_lt small]

/-! ## Records with consecutive sequences -/

/-- The sequences of a list of records end just below N. -/
def Consecutive (next : Word32) : List Capture → Prop
  | [] => True
  | c :: rest => c.seq = next - BitVec.ofNat 32 (rest.length + 1) ∧ Consecutive next rest

theorem consecutive_iff (next : Word32) (rs : List Capture) : Consecutive next rs ↔
    ∀ (i : Nat) (h : i < rs.length), (rs[i]).seq = next - BitVec.ofNat 32 (rs.length - i) := by
  induction rs with
  | nil => simp [Consecutive]
  | cons c rest ih =>
    rw [Consecutive, ih]
    constructor
    · rintro ⟨first, later⟩ i h
      cases i with
      | zero => simpa using first
      | succ i =>
        have := later i (by simpa using h)
        simpa [Nat.succ_sub_succ] using this
    · intro all
      refine ⟨all 0 (by simp), fun i h => ?_⟩
      have := all (i + 1) (by simpa using h)
      simpa [Nat.succ_sub_succ] using this

theorem Consecutive.tail {next : Word32} {c : Capture} {rest : List Capture} (h : Consecutive next (c :: rest)) :
    Consecutive next rest := h.2

/-- Only the sequences count. -/
theorem Consecutive.of_seq {next : Word32} {rs qs : List Capture} (h : Consecutive next rs)
    (same : qs.map Capture.seq = rs.map Capture.seq) : Consecutive next qs := by
  induction rs generalizing qs with
  | nil => obtain rfl : qs = [] := by simpa using same
           trivial
  | cons c rest ih =>
    cases qs with
    | nil => simp at same
    | cons d more =>
      simp only [List.map_cons, List.cons.injEq] at same
      have len : more.length = rest.length := by simpa using congrArg List.length same.2
      exact ⟨by rw [same.1, len]; exact h.1, ih h.2 same.2⟩

theorem Consecutive.append {next : Word32} {rs : List Capture} {c : Capture} (h : Consecutive next rs)
    (last : c.seq = next) : Consecutive (next + 1) (rs ++ [c]) := by
  induction rs with
  | nil => exact ⟨by rw [last]; simp, trivial⟩
  | cons d rest ih =>
    refine ⟨?_, ih h.2⟩
    show d.seq = next + 1 - BitVec.ofNat 32 ((rest ++ [c]).length + 1)
    rw [h.1, List.length_append, List.length_singleton]
    have : BitVec.ofNat 32 (rest.length + 1 + 1) = BitVec.ofNat 32 (rest.length + 1) + 1 := by
      rw [BitVec.ofNat_add]; rfl
    rw [this]; bv_omega

/-! ## Waiting records and cursors (R111) -/

/-- A record waits for a port only where the port's cursor is at or below it. -/
def WaitsAboveCursor (next : Word32) (cursor : PerPort Word32) (c : Capture) : Prop :=
  ∀ p, c.outstanding.get p = true → (next - c.seq).toNat ≤ (next - cursor.get p).toNat

/-- The parts of the log that its law reads, with the records' sequences said recursively. -/
theorem logLaw_iff (g : CaptureLog) : LogLaw g ↔ g.records.length ≤ Config.logCapacity ∧ Consecutive g.next g.records
    ∧ (∀ c ∈ g.records, WaitsAboveCursor g.next g.cursor c) ∧ ∀ p, g.lag (g.cursor.get p) ≤ Config.cursorLagBound := by
  rw [consecutive_iff]; rfl

theorem pruneRecords_suffix (rs : List Capture) : pruneRecords rs <:+ rs := by
  induction rs with
  | nil => exact List.suffix_rfl
  | cons c rest ih =>
    unfold pruneRecords
    split
    · exact ih.trans (List.suffix_cons c rest)
    · exact List.suffix_rfl

theorem Consecutive.suffix {next : Word32} {rs qs : List Capture} (h : Consecutive next rs) (s : qs <:+ rs) :
    Consecutive next qs := by
  obtain ⟨pre, rfl⟩ := s
  induction pre with
  | nil => exact h
  | cons c pre ih => exact ih h.2

/-- Records that leave at the old end break nothing (R112, R113). -/
theorem LogLaw.suffix {g : CaptureLog} (law : LogLaw g) {qs : List Capture} (s : qs <:+ g.records) :
    LogLaw { g with records := qs } := by
  obtain ⟨room, seqs, waits, lags⟩ := (logLaw_iff g).mp law
  exact (logLaw_iff _).mpr ⟨Nat.le_trans s.length_le room, seqs.suffix s, fun c hc => waits c (s.subset hc), lags⟩

theorem prune_logLaw {g : CaptureLog} (law : LogLaw g) : LogLaw g.prune := law.suffix (pruneRecords_suffix _)

/-- Outstanding sets that lose ports break nothing (R112, R115, R119). -/
theorem LogLaw.mapRecords {g : CaptureLog} (law : LogLaw g) {f : Capture → Capture} (seq : ∀ c, (f c).seq = c.seq)
    (fewer : ∀ c p, (f c).outstanding.get p = true → c.outstanding.get p = true) :
    LogLaw { g with records := g.records.map f } := by
  obtain ⟨room, seqs, waits, lags⟩ := (logLaw_iff g).mp law
  refine (logLaw_iff _).mpr ⟨by simpa using room, seqs.of_seq ?_, fun d hd p hp => ?_, lags⟩
  · simp [List.map_map, Function.comp_def, seq]
  · obtain ⟨c, hc, rfl⟩ := List.mem_map.mp hd
    rw [seq]; exact waits c hc p (fewer c p hp)

theorem without_outstanding (p q : Port) (c : Capture) :
    (c.without p).outstanding.get q = (decide (q ≠ p) && c.outstanding.get q) := by
  by_cases h : q = p <;> simp [Capture.without, PerPort.get_set, h]

theorem without_fewer (p q : Port) (c : Capture) (h : (c.without p).outstanding.get q = true) :
    c.outstanding.get q = true := by
  rw [without_outstanding] at h; simp_all

/-! ## An entry (R110 to R113) -/

/-- The lag of a cursor after an entry (R111). -/
theorem cursorAtEntry_lag (g : CaptureLog) (x : Word32) (h : g.lag x ≤ Config.cursorLagBound) :
    (g.next + 1 - g.cursorAtEntry x).toNat = min (g.lag x + 1) Config.cursorLagBound := by
  unfold CaptureLog.cursorAtEntry
  split
  · have : g.next + 1 - (x + 1) = g.next - x := by bv_omega
    rw [this]
    simp only [CaptureLog.lag, Config.cursorLagBound] at *
    omega
  · simp only [CaptureLog.lag, Config.cursorLagBound] at *
    rw [lag_succ _ _ (by omega)]; omega

/-- With room for it a record enters at the new end, and the law stays (R110, R111). -/
theorem enter_logLaw {g : CaptureLog} (e : AcceptedEdge) (law : LogLaw g) (room : g.records.length < Config.logCapacity) :
    LogLaw (g.enter e) := by
  obtain ⟨-, seqs, waits, lags⟩ := (logLaw_iff g).mp law
  refine prune_logLaw ((logLaw_iff _).mpr ⟨?_, seqs.append rfl, fun c hc p hp => ?_, fun p => ?_⟩)
  · simp only [List.length_append, List.length_singleton]; omega
  · simp only [PerPort.get_map]
    rw [cursorAtEntry_lag g _ (lags p)]
    obtain old | new := List.mem_append.mp hc
    · obtain ⟨i, hi, rfl⟩ := List.mem_iff_getElem.mp old
      have seq := (consecutive_iff _ _).mp seqs i hi
      have waits := waits _ old p hp
      simp only [Config.logCapacity] at room
      have lag : (g.next - (g.records[i]).seq).toNat = g.records.length - i := by
        rw [seq, sub_ofNat_lag _ _ (by omega)]
      rw [lag_succ _ _ (by omega), lag]
      simp only [CaptureLog.lag, Config.cursorLagBound] at *
      omega
    · obtain rfl := List.mem_singleton.mp new
      have : (g.next + 1 - (g.newRecord e).seq).toNat = 1 := by
        show (g.next + 1 - g.next).toNat = 1
        bv_omega
      rw [this]; simp only [Config.cursorLagBound]; omega
  · simp only [PerPort.get_map]
    show (g.next + 1 - _).toNat ≤ _
    rw [cursorAtEntry_lag g _ (lags p)]
    exact Nat.min_le_right _ _

/-- Charging the overwrite changes nothing but lost counts in the log (R113). -/
theorem chargeLost_log (s : State) (c : Capture) (p : Port) :
    (s.chargeLost c p).log = { s.log with lost := (s.chargeLost c p).log.lost } := by
  unfold State.chargeLost
  split <;> rfl

theorem chargeAll_log (s : State) (c : Capture) (ps : List Port) :
    (ps.foldl (fun t p => t.chargeLost c p) s).log
      = { s.log with lost := (ps.foldl (fun t p => t.chargeLost c p) s).log.lost } := by
  induction ps generalizing s with
  | nil => rfl
  | cons p ps ih =>
    rw [List.foldl_cons, ih, chargeLost_log]

/-- After the overwrite there is room for a record, and the law stands (R113). -/
theorem overwrite_logLaw (s : State) (law : s.logLaw) :
    s.overwrite.logLaw ∧ s.overwrite.log.records.length < Config.logCapacity := by
  have room := law.1
  unfold State.overwrite
  split
  · rename_i none_
    exact ⟨law, by rw [none_]; decide⟩
  · rename_i c rest records
    split
    · have law' : LogLaw { s.log with records := rest } := law.suffix (records ▸ List.suffix_cons c rest)
      have short : (pruneRecords rest).length < Config.logCapacity := by
        have := (pruneRecords_suffix rest).length_le
        rw [records, List.length_cons] at room; omega
      simp only [State.logLaw, State.setLog_log]
      rw [chargeAll_log]
      exact ⟨prune_logLaw law', short⟩
    · rename_i notFull
      simp only [Bool.or_eq_true, decide_eq_true_eq, not_or, Nat.not_le] at notFull
      exact ⟨law, notFull.2⟩

theorem enterCapture_logLaw (s : State) (e : AcceptedEdge) (law : s.logLaw) : (s.enterCapture e).logLaw := by
  obtain ⟨law', room⟩ := overwrite_logLaw s law
  have entered := enter_logLaw e law' room
  unfold State.enterCapture State.handCapture
  simp only
  split <;> exact entered

/-! ## A read (R117) -/

/-- What an examination leaves: the records in order, those examined no longer waiting for the reader. -/
theorem examine_left (p : Port) (n : Nat) (rs : List Capture) :
    (examine p n rs).count ≤ rs.length
    ∧ (examine p n rs).left = (rs.take (examine p n rs).count).map (Capture.without p) ++ rs.drop (examine p n rs).count := by
  have unchanged (c : Capture) (h : ¬c.outstanding.get p = true) : c.without p = c := by
    have : c.outstanding.get p = false := by simpa using h
    simp only [Capture.without]
    rw [← this, PerPort.set_get_self]
  induction rs generalizing n with
  | nil => simp [examine]
  | cons c rest ih =>
    cases n with
    | zero => simp [examine]
    | succ n =>
      unfold examine
      split
      · obtain ⟨len, left⟩ := ih n
        refine ⟨by simpa using len, ?_⟩
        simp only [List.take_succ_cons, List.drop_succ_cons, List.map_cons, List.cons_append]
        rw [← left]
      · rename_i quiet
        obtain ⟨len, left⟩ := ih (n + 1)
        refine ⟨by simpa using len, ?_⟩
        simp only [List.take_succ_cons, List.drop_succ_cons, List.map_cons, List.cons_append, unchanged c quiet]
        rw [← left]

/-- The raised cursor lags by what is held at most (R117 step 1). -/
theorem raisedCursor_lag (g : CaptureLog) (p : Port) (room : g.records.length ≤ Config.logCapacity) :
    g.lag (g.raisedCursor p) = min g.records.length (g.lag (g.cursor.get p)) := by
  simp only [Config.logCapacity] at room
  unfold CaptureLog.raisedCursor
  split
  · have := sub_ofNat_lag g.next g.records.length (by omega)
    simp only [CaptureLog.lag] at *
    omega
  · omega

/-- A read advances the cursor past the records it has examined, which wait for its port no longer (R117). -/
theorem afterRead_logLaw {g : CaptureLog} (p : Port) (n : Nat) (law : LogLaw g) :
    LogLaw (g.afterRead p (g.examined p n)) := by
  obtain ⟨room, seqs, waits, lags⟩ := (logLaw_iff g).mp law
  obtain ⟨count, left⟩ := examine_left p n (g.records.drop (g.below p))
  have raised : (g.next - g.raisedCursor p).toNat = min g.records.length (g.next - g.cursor.get p).toNat :=
    raisedCursor_lag g p room
  have below : g.below p + (g.next - g.raisedCursor p).toNat = g.records.length := by
    have : g.below p = g.records.length - (g.next - g.raisedCursor p).toNat := rfl
    omega
  rw [List.length_drop] at count
  have examined : (g.examined p n).count ≤ (g.next - g.raisedCursor p).toNat := by
    show (examine p n _).count ≤ _; omega
  have cursor := lag_add g.next (g.raisedCursor p) (g.examined p n).count examined
  have records : g.records.take (g.below p) ++ (g.examined p n).left
      = g.records.take (g.below p) ++ (((g.records.drop (g.below p)).take (g.examined p n).count).map (Capture.without p)
        ++ (g.records.drop (g.below p)).drop (g.examined p n).count) := by
    show _ ++ (examine p n _).left = _
    rw [left]; rfl
  have seq (c : Capture) : (c.without p).seq = c.seq := rfl
  have sameSeqs : (g.records.take (g.below p) ++ (g.examined p n).left).map Capture.seq = g.records.map Capture.seq := by
    rw [records]
    simp only [List.map_append, List.map_map, Function.comp_def, seq]
    rw [← List.map_append, List.take_append_drop, ← List.map_append, List.take_append_drop]
  refine prune_logLaw ((logLaw_iff _).mpr ⟨?_, seqs.of_seq sameSeqs, fun c hc q hq => ?_, fun q => ?_⟩)
  · have := congrArg List.length sameSeqs
    simp only [List.length_map] at this
    simpa only [this] using room
  · simp only [records, List.mem_append, List.mem_map] at hc
    by_cases reader : q = p
    · subst reader
      simp only [PerPort.get_set_same]
      rw [cursor]
      obtain early | ⟨d, -, rfl⟩ | late := hc
      · obtain ⟨i, hi, rfl⟩ := List.mem_iff_getElem.mp early
        rw [List.length_take] at hi
        rw [List.getElem_take] at hq ⊢
        have held : g.records[i] ∈ g.records := List.getElem_mem _
        have lag : (g.next - (g.records[i]).seq).toNat = g.records.length - i := by
          rw [(consecutive_iff _ _).mp seqs i (by omega), sub_ofNat_lag _ _ (by simp only [Config.logCapacity] at room; omega)]
        have := waits _ held q hq
        rw [lag] at this
        omega
      · rw [without_outstanding] at hq; simp at hq
      · rw [List.drop_drop] at late
        obtain ⟨i, hi, rfl⟩ := List.mem_iff_getElem.mp late
        rw [List.length_drop] at hi
        rw [List.getElem_drop]
        rw [(consecutive_iff _ _).mp seqs _ (by omega), sub_ofNat_lag _ _ (by simp only [Config.logCapacity] at room; omega)]
        omega
    · simp only [PerPort.get_set_other _ _ _ _ reader]
      obtain early | ⟨d, hd, rfl⟩ | late := hc
      · exact waits c (List.mem_of_mem_take early) q hq
      · exact waits d (List.mem_of_mem_drop (List.mem_of_mem_take hd)) q (without_fewer p q d hq)
      · exact waits c (List.mem_of_mem_drop (List.mem_of_mem_drop late)) q hq
  · show (g.next - _).toNat ≤ _
    by_cases reader : q = p
    · subst reader
      simp only [PerPort.get_set_same]
      rw [cursor, raised]
      have : (g.next - g.cursor.get q).toNat ≤ Config.cursorLagBound := lags q
      omega
    · simp only [PerPort.get_set_other _ _ _ _ reader]
      exact lags q

theorem resetPort_logLaw {g : CaptureLog} (p : Port) (law : LogLaw g) : LogLaw (g.resetPort p) := by
  have mapped := law.mapRecords (f := Capture.without p) (fun _ => rfl) (fun c q h => without_fewer p q c h)
  obtain ⟨room, seqs, waits, lags⟩ := (logLaw_iff _).mp mapped
  refine prune_logLaw ((logLaw_iff _).mpr ⟨room, seqs, fun c hc q hq => ?_, fun q => ?_⟩)
  · by_cases own : q = p
    · subst own
      obtain ⟨d, -, rfl⟩ := List.mem_map.mp hc
      rw [without_outstanding] at hq; simp at hq
    · simpa only [PerPort.get_set_other _ _ _ _ own] using waits c hc q hq
  · by_cases own : q = p
    · subst own; simp [CaptureLog.lag]
    · simpa only [CaptureLog.lag, PerPort.get_set_other _ _ _ _ own] using lags q

/-! ## Every step -/

theorem logLaw_initial : LogLaw CaptureLog.initial :=
  (logLaw_iff _).mpr ⟨by decide, trivial, by simp [CaptureLog.initial], fun p => by cases p <;> decide⟩

theorem logLaw_of_same {s t : State} (h : ∀ x ∈ [Part.captures], x.Same s t) (law : s.logLaw) : t.logLaw := by
  have captures : t.log = { s.log with mode := t.log.mode } := h .captures (by decide)
  unfold State.logLaw
  rw [captures]; exact law

theorem restarted_logLaw (s : State) (q : Params) (k : ResetKind) : (s.restarted q k).logLaw := logLaw_initial

theorem consultSafeIn_logLaw (s : State) (law : s.logLaw) : s.consultSafeIn.logLaw := by
  refine logLaw_of_same (fun x hx => consultSafeIn_touches s x ?_) law
  revert hx; cases x <;> decide

theorem softReset_logLaw (s : State) : s.softReset.logLaw := by
  have restarted := restarted_logLaw s s.control.params .soft
  rw [softReset_eq]
  generalize s.restarted s.control.params .soft = u at restarted ⊢
  generalize (Vector.ofFn fun l : LineNo => _) = v
  exact consultSafeIn_logLaw _ restarted

/-- A handler's law of the log holds after its request is served. -/
theorem serve_logLaw {k : ReqKind} {p : Port} {f : List Byte → State → State × Reply} {s t : State}
    (h : serve k p f s = .next t) (law : s.logLaw) (kept : ∀ body, (f body s).1.logLaw) : t.logLaw := by
  obtain rfl | ⟨w, -, rfl⟩ := serve_cases h
  · exact law
  · exact kept w.body

theorem portResetPart_logLaw (s : State) (p : Port) (stage : Nat) (c : PortResetCounts) (law : s.logLaw) :
    (s.portResetPart p stage c).1.logLaw := by
  have shares : Touches [.line, .slotContents, .entries, .places] s (s.dropShares p) :=
    (changeLines_touches _ _ _).comp (cut_touches _ _ _)
  unfold State.portResetPart
  split
  · exact law
  · exact law
  · exact law
  · refine logLaw_of_same (fun x hx => shares x ?_) law
    revert hx; cases x <;> decide
  · exact resetPort_logLaw p law
  · split <;> exact law

theorem exec_keeps_logLaw (i : Instr) (s t : State) (law : s.logLaw) (h : exec i s = .next t) : t.logLaw := by
  cases i with
  | powerOnReset => obtain rfl := Host.Outcome.next.inj h; exact logLaw_initial
  | resetnAssert => obtain rfl := Host.Outcome.next.inj h; exact logLaw_initial
  | resetEnd =>
    obtain rfl | ⟨k, -, rfl⟩ := execResetEnd_cases h
    · exact law
    · exact consultSafeIn_logLaw _ (restarted_logLaw s _ _)
  | selectRelease p =>
    obtain rfl | ⟨-, rfl | rfl⟩ := execSelectRelease_cases h
    · exact law
    · exact law
    · exact softReset_logLaw _
  | resetDevice =>
    obtain rfl | rfl | ⟨w, ph, -, rfl | rfl⟩ := execResetDevice_cases h
    · exact law
    · exact softReset_logLaw _
    · exact law
    · exact law
  | captureEntry n =>
    change execCaptureEntry n s = .next t at h
    obtain rfl | ⟨-, rfl⟩ := whenRunning_cases h
    · exact law
    · split
      · exact law
      · exact enterCapture_logLaw (s.setWires _) _ law
  | subscribe p =>
    refine serve_logLaw h law fun body => ?_
    unfold subscribeRequest
    split
    · exact law
    · simp only
      have mapped := law.mapRecords (f := fun c => if Capture.droppedBy p (s.log.subscription.get p &&& ~~~‹SensorSet›) c
        then c.without p else c) (fun c => by split <;> rfl) (fun c q hq => by
          split at hq
          · exact without_fewer p q c hq
          · exact hq)
      exact prune_logLaw mapped
  | readCaptures p =>
    refine serve_logLaw h law fun body => ?_
    unfold readCapturesRequest
    split
    · exact law
    · exact afterRead_logLaw p _ law
  | resetPort p =>
    obtain rfl | ⟨w, -, ⟨n, c, rfl⟩ | rfl⟩ := execResetPort_cases h
    · exact law
    · exact portResetPart_logLaw s p _ _ law
    · exact law
  | modeChangeTakenAtBlock b => exact logLaw_of_same (exec_same_of_spares h (by cases b <;> rfl)) law
  | _ => exact logLaw_of_same (exec_same_of_spares h rfl) law

/-- Settles O52, with the records' sequences said by recursion over the list: an entry moves every lag together, a read moves
its cursor past what it examined. -/
theorem stepsKeepTheLogLaw : Obligations.StepsKeepTheLogLaw := by
  refine step_keeps (fun s t same => logLaw_of_same fun x hx => same x ?_) exec_keeps_logLaw
  revert hx; cases x <;> decide

end Sys2Proof.Machine

/-! PROOFS. Laws closed under the operations of the blocks: what a law must survive for every command between mode changes to
keep it. Line records step by step (R21), and the law of the line records (O55). -/

namespace Sys2Proof.Machine

/-! ## Steps of a line record -/

/-- A line record keeps its law, and its engine OFF. -/
def LineStep (r r' : LineRec) : Prop :=
  (LineLaw r → LineLaw r') ∧ (r.engine.isOff = true → r'.engine.isOff = true)

theorem LineStep.refl (r : LineRec) : LineStep r r := ⟨id, id⟩

theorem LineStep.trans {r q u : LineRec} (h : LineStep r q) (k : LineStep q u) : LineStep r u :=
  ⟨k.1 ∘ h.1, k.2 ∘ h.2⟩

/-- The law reads lease mode, shares and mismatch count alone. -/
theorem LineLaw.of_same {r q : LineRec} (law : LineLaw r) (mode : q.leaseMode = r.leaseMode) (shares : q.shares = r.shares)
    (mismatch : q.mismatch = r.mismatch) : LineLaw q := by
  unfold LineLaw; rw [mode, shares, mismatch]; exact law

theorem LineStep.of_engine {r q : LineRec} (mode : q.leaseMode = r.leaseMode) (shares : q.shares = r.shares)
    (mismatch : q.mismatch = r.mismatch) (engine : r.engine.isOff = true → q.engine.isOff = true) : LineStep r q :=
  ⟨fun law => law.of_same mode shares mismatch, engine⟩

theorem recode_lineStep (r q : LineRec) : LineStep q (LineRec.recode r q) := by
  unfold LineRec.recode
  split
  · exact .refl q
  · exact .of_engine rfl rfl rfl id

theorem isOff_setOff (now : Word32) (rest : Nat) (x : Engine) : (x.setOff now rest).isOff = true := by
  cases x <;> rfl

theorem map_setLapse_port (p : Port) (lapse : Bool) (hs : List Share) :
    (setLapse p lapse hs).map Share.port = hs.map Share.port := by
  unfold setLapse
  rw [List.map_map]
  refine List.map_congr_left fun h _ => ?_
  simp only [Function.comp_apply]
  split <;> rfl

theorem setLapse_length (p : Port) (lapse : Bool) (hs : List Share) : (setLapse p lapse hs).length = hs.length :=
  List.length_map _

theorem setLapse_age (p : Port) (lapse : Bool) (hs : List Share) (ages : ∀ h ∈ hs, h.age ≤ Config.ageCeiling) :
    ∀ h ∈ setLapse p lapse hs, h.age ≤ Config.ageCeiling := by
  intro h hh
  obtain ⟨g, hg, rfl⟩ := List.mem_map.mp hh
  split <;> exact ages g hg

theorem leaseBody_mode_ne_free (b : LeaseBody) : b.mode ≠ .free := by
  unfold LeaseBody.mode; split <;> simp

/-- The lapse flags rewritten, with a mode that fits the number of shares, keep the law. -/
theorem relapsed_lineLaw {r : LineRec} (law : LineLaw r) (p : Port) (lapse : Bool) (m : LeaseMode) (leased : r.shares ≠ [])
    (notFree : m ≠ .free) (alone : m = .exclusive → r.shares.length = 1) :
    LineLaw { r with leaseMode := m, shares := setLapse p lapse r.shares } := by
  obtain ⟨-, -, ports, ages, mismatch⟩ := law
  refine ⟨⟨fun h => absurd h notFree, fun h => absurd (List.map_eq_nil_iff.mp h) leased⟩, fun h => ?_, ?_,
    setLapse_age p lapse _ ages, mismatch⟩
  · rw [setLapse_length]; exact alone h
  · rw [map_setLapse_port]; exact ports

/-- What the table of R25 grants keeps the law. -/
theorem leaseLine_lineLaw {p : Port} {b : LeaseBody} {r q : LineRec} (granted : leaseLine p b r = some q)
    (law : LineLaw r) : LineLaw q := by
  obtain ⟨free, exclusive, ports, ages, mismatch⟩ := law
  have law : LineLaw r := ⟨free, exclusive, ports, ages, mismatch⟩
  have leased (h : r.leaseMode ≠ .free) : r.shares ≠ [] := fun e => h (free.mpr e)
  unfold leaseLine at granted
  split at granted
  · cases granted
    refine ⟨⟨fun h => absurd h (leaseBody_mode_ne_free b), fun h => absurd h (List.cons_ne_nil _ _)⟩, fun _ => rfl,
      List.nodup_singleton _, fun h hh => ?_, mismatch⟩
    obtain rfl := List.mem_singleton.mp hh
    exact Nat.zero_le _
  · rename_i mode
    split at granted
    · cases granted
      exact relapsed_lineLaw law p b.lapse b.mode (leased (by simp [mode])) (leaseBody_mode_ne_free b) fun _ => exclusive mode
    · cases granted
  · rename_i mode
    split at granted
    · split at granted
      · rename_i alone
        cases granted
        exact relapsed_lineLaw law p b.lapse b.mode (leased (by simp [mode])) (leaseBody_mode_ne_free b) fun _ => alone
      · split at granted
        · cases granted
        · cases granted
          have kept := relapsed_lineLaw law p b.lapse r.leaseMode (leased (by simp [mode])) (by simp [mode])
            (fun h => absurd h (by simp [mode]))
          exact kept
    · rename_i unheld
      split at granted
      · cases granted
      · cases granted
        refine ⟨⟨fun h => absurd (mode.symm.trans h) (by simp), fun h => absurd h (by simp)⟩,
          fun h => absurd (mode.symm.trans h) (by simp), ?_, fun h hh => ?_, mismatch⟩
        · rw [List.map_append, List.nodup_append]
          refine ⟨ports, List.nodup_singleton _, fun x hx y hy => ?_⟩
          obtain rfl := List.mem_singleton.mp hy
          rintro rfl
          obtain ⟨h, hh, own⟩ := List.mem_map.mp hx
          exact unheld (List.any_eq_true.mpr ⟨h, hh, by simpa using own⟩)
        · obtain old | new := List.mem_append.mp hh
          · exact ages h old
          · obtain rfl := List.mem_singleton.mp new
            exact Nat.zero_le _

theorem leaseLine_lineStep (p : Port) (b : LeaseBody) (r : LineRec) : LineStep r ((leaseLine p b r).getD r) := by
  cases granted : leaseLine p b r with
  | none => exact .refl r
  | some q =>
    refine ⟨leaseLine_lineLaw granted, fun off => ?_⟩
    have engine : q.engine = r.engine := by
      unfold leaseLine at granted
      repeat' split at granted
      all_goals first | cases granted; rfl | cases granted
    simpa [engine] using off

theorem dropShare_lineStep (p : Port) (r : LineRec) : LineStep r (r.dropShare p) := by
  refine ⟨fun law => ?_, id⟩
  obtain ⟨free, exclusive, ports, ages, mismatch⟩ := law
  unfold LineRec.dropShare
  refine ⟨?_, fun mode => ?_, ports.sublist (List.filter_sublist.map _), fun h hh => ages h (List.mem_of_mem_filter hh),
    mismatch⟩
  · simp only
    split
    · rename_i none_; simpa using none_
    · rename_i some_
      exact ⟨fun h => absurd (by rw [free.mp h]; rfl) some_, fun h => absurd h some_⟩
  · simp only at mode ⊢
    split at mode
    · cases mode
    · rename_i some_
      have one := exclusive mode
      have le := List.length_filter_le (fun h : Share => decide (h.port ≠ p)) r.shares
      have pos := List.length_pos_of_ne_nil some_
      omega

theorem unleased_lineStep (r : LineRec) : LineStep r r.unleased :=
  ⟨fun law => ⟨by simp [LineRec.unleased], by simp [LineRec.unleased], List.nodup_nil,
    fun _ h => absurd h List.not_mem_nil, law.2.2.2.2⟩, id⟩

theorem cleared_lineStep (r : LineRec) : LineStep r r.cleared :=
  ⟨fun law => ⟨by simp [LineRec.cleared], by simp [LineRec.cleared], List.nodup_nil,
    fun _ h => absurd h List.not_mem_nil, law.2.2.2.2⟩, id⟩

theorem aged_lineStep (r : LineRec) : LineStep r r.aged := by
  refine ⟨fun law => ?_, id⟩
  obtain ⟨free, exclusive, ports, -, mismatch⟩ := law
  refine ⟨by simpa [LineRec.aged] using free, by simpa [LineRec.aged] using exclusive, ?_, fun h hh => ?_, mismatch⟩
  · simpa [LineRec.aged, List.map_map, Function.comp_def] using ports
  · obtain ⟨g, -, rfl⟩ := List.mem_map.mp hh
    exact satIncAt_le _ _

theorem mismatchAfter_le {agrees : Bool} {n : Nat} : mismatchAfter agrees n ≤ Config.mismatchCeiling := by
  unfold mismatchAfter
  split
  · exact Nat.zero_le _
  · exact satIncAt_le _ _

/-- A new mismatch count within its ceiling. -/
theorem mismatch_lineStep (r : LineRec) (n : Nat) (h : n ≤ Config.mismatchCeiling) (settle : Option SettleCheck) :
    LineStep r { r with mismatch := n, settle := settle } :=
  ⟨fun ⟨free, exclusive, ports, ages, _⟩ => ⟨free, exclusive, ports, ages, h⟩, id⟩

theorem closedLine_lineStep (before after : State) (l : LineNo) : LineStep after.line[l] (closedLine before after l) := by
  unfold closedLine
  simp only
  split
  · exact .of_engine rfl rfl rfl id
  · exact .refl _

/-! ## Changes of the line records of a state -/

/-- Only line records differ, each by a step. -/
def LinesStep (s t : State) : Prop := OnlyLine s t ∧ ∀ l : LineNo, LineStep s.line[l] t.line[l]

theorem LinesStep.refl (s : State) : LinesStep s s := ⟨rfl, fun _ => .refl _⟩

theorem LinesStep.trans {s t u : State} (h : LinesStep s t) (k : LinesStep t u) : LinesStep s u :=
  ⟨OnlyLine.trans _ _ _ h.1 k.1, fun l => (h.2 l).trans (k.2 l)⟩

theorem setLine_line (s : State) (l m : LineNo) (r : LineRec) :
    (s.setLine l r).line[m] = if l = m then r else s.line[m] := by
  simp only [State.setLine_line, Fin.getElem_fin, Vector.getElem_set, Fin.ext_iff]

theorem setLine_linesStep {s : State} {l : LineNo} {r : LineRec} (h : LineStep s.line[l] r) : LinesStep s (s.setLine l r) := by
  refine ⟨rfl, fun m => ?_⟩
  rw [setLine_line]
  split
  · rename_i same; subst same; exact h
  · exact .refl _

theorem changeLine_linesStep (s : State) (l : LineNo) {f : LineRec → LineRec} (h : ∀ r, LineStep r (f r)) :
    LinesStep s (s.changeLine l f) :=
  setLine_linesStep ((h _).trans (recode_lineStep _ _))

theorem changeLines_linesStep (s : State) (x : LineSet) {f : LineRec → LineRec} (h : ∀ r, LineStep r (f r)) :
    LinesStep s (s.changeLines x f) :=
  foldl_keeps LinesStep _ LinesStep.refl (fun _ _ _ => LinesStep.trans) (fun s l => changeLine_linesStep s l h) _ _

theorem closeLines_linesStep (before s : State) : LinesStep s (closeLines before s) := by
  refine ⟨rfl, fun l => ?_⟩
  have closed : (closeLines before s).line[l] = closedLine before s l := by
    simp [closeLines]
  rw [closed]; exact closedLine_lineStep before s l

/-! ## Laws closed under the work on lines, slots, entries and templates -/

/-- Parts that none of the laws of lines, slots, entries, modes and limits reads. -/
def stillParts : List Part :=
  [.pending, .inReset, .pinA, .pinB, .pinReadback, .pinSafeIn, .now, .position, .lineTimer, .commits, .tablePos, .slotPos,
    .sensor, .captures, .places, .causes, .corruption, .scrubber, .softArmed, .notices, .ports]
  ++ [.motion, .asks, .edges, .handOffs, .boundaries, .findings, .posted, .toPosition, .freeCount]

/-- Nothing differs that those laws read: of the messages to the Line Block, the Capture Log and the slots, only the writes. -/
def Still (s t : State) : Prop :=
  Touches (stillParts ++ [.toLines, .toLog, .toSlots]) s t
  ∧ changesOf t.wires.toLines = changesOf s.wires.toLines
  ∧ changesOf t.wires.toLog = changesOf s.wires.toLog
  ∧ ∀ p, changesOf (t.wires.toSlots.get p) = changesOf (s.wires.toSlots.get p)

theorem Touches.still {parts : List Part} {s t : State} (h : Touches parts s t) (sub : parts ⊆ stillParts) : Still s t := by
  have wires := h.mono sub
  exact ⟨h.mono (List.Subset.trans sub (List.subset_append_left _ _)), by rw [wires .toLines (by decide)],
    by rw [wires .toLog (by decide)], fun p => by rw [wires .toSlots (by decide)]⟩

/-- A law that the operations on line records, slots, entries and templates keep. -/
structure WorkClosed (law : State → Prop) : Prop where
  still : ∀ s t, Still s t → law s → law t
  lines : ∀ s t, LinesStep s t → law s → law t
  cut : ∀ s p x, law s → law (s.cut p x)

/-- Folds keep what each step keeps. -/
theorem foldl_law {σ : Type} {law : State → Prop} {f : State → σ → State} (hf : ∀ s a, law s → law (f s a)) (l : List σ)
    (s : State) (h : law s) : law (l.foldl f s) :=
  foldl_keeps (fun s t => law s → law t) f (fun _ => id) (fun _ _ _ h k => k ∘ h) hf l s h

section
variable {law : State → Prop} (c : WorkClosed law)
include c

theorem WorkClosed.touched {parts : List Part} {s t : State} (h : Touches parts s t) (sub : parts ⊆ stillParts)
    (hs : law s) : law t := c.still s t (h.still sub) hs

theorem WorkClosed.cutAll (s : State) (ps : List Port) (x : LineSet) (h : law s) : law (s.cutAll ps x) :=
  foldl_law (fun s p => c.cut s p x) ps s h

theorem WorkClosed.closed (before s : State) (h : law s) : law (closeLines before s) :=
  c.lines _ _ (closeLines_linesStep before s) h

theorem WorkClosed.told (s : State) (src : NoticeSource) (p : Port) (n : Notice) (h : law s) : law (s.notify src p n) :=
  c.touched (notify_touches _ _ _ _) (by decide) h

theorem WorkClosed.verifyLine (s : State) (l : LineNo) (h : law s) : law (s.verifyLine l) := by
  unfold State.verifyLine
  split
  · exact h
  · refine c.touched (handFinding_touches _ _) (by decide) (c.closed _ _ (c.cutAll _ _ _ ?_))
    exact c.lines _ _ (setLine_linesStep (cleared_lineStep _)) h

theorem WorkClosed.consult (s : State) (x : LineSet) (h : law s) : law (s.consult x) := foldl_law c.verifyLine _ s h

theorem WorkClosed.leaseRequest (p : Port) (body : List Byte) (s : State) (h : law s) : law (leaseRequest p body s).1 := by
  unfold Machine.leaseRequest
  split
  · split
    · exact h
    · split
      · exact h
      · exact c.lines _ _ (changeLines_linesStep s _ (leaseLine_lineStep p _)) h
  · exact h

theorem WorkClosed.releaseRequest (p : Port) (body : List Byte) (s : State) (h : law s) :
    law (releaseRequest p body s).1 := by
  unfold Machine.releaseRequest
  split
  · split
    · exact h
    · split
      · exact h
      · exact c.cut _ _ _ (c.lines _ _ (changeLines_linesStep s _ (dropShare_lineStep p)) h)
  · exact h

theorem WorkClosed.revoke (s : State) (x : LineSet) (h : law s) : law (s.revoke x) := by
  refine foldl_law (fun t p ht => ?_) Port.all _ (c.lines _ _ (changeLines_linesStep s x unleased_lineStep) h)
  unfold State.revokePort
  split
  · exact ht
  · exact c.told _ _ _ _ (c.cut _ _ _ ht)

theorem WorkClosed.revokeRequest (body : List Byte) (s : State) (h : law s) : law (revokeRequest body s).1 := by
  unfold Machine.revokeRequest
  split
  · split
    · exact h
    · exact c.revoke _ _ h
  · exact h

theorem WorkClosed.forceLines (s : State) (x : LineSet) (f : Force) (h : law s) : law (s.forceLines x f) :=
  c.closed _ _ (c.lines _ _ (changeLines_linesStep s x fun _ => .of_engine rfl rfl rfl id) h)

theorem WorkClosed.forceRequest (body : List Byte) (s : State) (h : law s) : law (forceRequest body s).1 := by
  unfold Machine.forceRequest
  split
  · split
    · exact h
    · exact c.forceLines _ _ _ h
  · exact h

theorem WorkClosed.unforceRequest (body : List Byte) (s : State) (h : law s) : law (unforceRequest body s).1 := by
  unfold Machine.unforceRequest
  split
  · split
    · exact h
    · exact c.forceLines _ _ _ h
  · exact h

theorem WorkClosed.clearFaultRequest (body : List Byte) (s : State) (h : law s) : law (clearFaultRequest body s).1 := by
  have step (r : LineRec) : LineStep r { r with fault := .ok, mismatch := 0 } :=
    (mismatch_lineStep r 0 (Nat.zero_le _) r.settle).trans (.of_engine rfl rfl rfl id)
  unfold Machine.clearFaultRequest
  split
  · split
    · exact h
    · exact c.closed _ _ (c.lines _ _ (changeLines_linesStep s _ step) h)
  · exact h

theorem WorkClosed.boundary (s : State) (h : law s) : law s.boundary := by
  have aged : LinesStep s { s with line := s.line.map LineRec.aged } := by
    refine ⟨rfl, fun l => ?_⟩
    have : ({ s with line := s.line.map LineRec.aged } : State).line[l] = (s.line[l]).aged := by simp
    rw [this]; exact aged_lineStep _
  have tested (t : State) (x : LineNo × Share) (ht : law t) : law (t.testLapse x) := by
    unfold State.testLapse
    split
    · exact c.told _ _ _ _ (c.cut _ _ _ (c.lines _ _ (changeLine_linesStep t _ (dropShare_lineStep _)) ht))
    · exact ht
  have timed (u : State) : Touches [.lineTimer, .boundaries] u
      ((u.setLineBlock { u.lineBlock with historyStart := u.now }).setWires
        { u.wires with boundaries := u.wires.boundaries + 1 }) := by
    intro x hx; cases x <;> simp_all [Part.Same]
  exact c.touched (timed _) (by decide) (foldl_law tested _ _ (c.lines _ _ aged h))

theorem WorkClosed.failLine (s : State) (l : LineNo) (h : law s) : law (s.failLine l) := by
  have step (r : LineRec) : LineStep r { r with fault := .failed, engine := r.engine.setOff s.now r.rest } :=
    .of_engine rfl rfl rfl fun _ => isOff_setOff _ _ _
  exact foldl_law (fun t p => c.told t _ p _) _ _ (c.cutAll _ _ _ (c.lines _ _ (changeLine_linesStep s l step) h))

theorem WorkClosed.completeSettle (s : State) (l : LineNo) (rb : Bool) (h : law s) : law (s.completeSettle l rb) := by
  have pin (u : State) (v : BitVec 32) : Touches [.pinReadback] u { u with pinReadback := v } := by
    intro x hx; cases x <;> simp_all [Part.Same]
  unfold State.completeSettle
  refine c.touched (pin _ _) (by decide) (c.closed _ _ ?_)
  have checked := c.lines _ _ (setLine_linesStep (s := s) (l := l)
    (mismatch_lineStep s.line[l] (mismatchAfter (rb == s.driven l) s.line[l].mismatch) mismatchAfter_le none)) h
  split
  · exact c.failLine _ _ checked
  · exact checked

/-- A handler's law holds after its request is served. -/
theorem WorkClosed.served {k : ReqKind} {p : Port} {f : List Byte → State → State × Reply} {s t : State}
    (h : serve k p f s = .next t) (hs : law s) (kept : ∀ body, law (f body s).1) : law t := by
  obtain rfl | ⟨w, -, rfl⟩ := serve_cases h
  · exact hs
  · exact c.touched ((markOwn_touches _ _ _).comp (setPhase_touches _ _ _ _)) (by decide) (kept w.body)

end

end Sys2Proof.Machine

/-! PROOFS. Steps, resets, mode changes and causes: what a mode change hands on, what a cause and the end of INIT do, and
the state a reset leaves (O1 to O10). -/

namespace Sys2Proof.Machine

/-! ## Every command is taken (O1, O3) -/

theorem whenRunning_next (f : State → State) (s : State) : ∃ t, whenRunning f s = .next t := ⟨_, rfl⟩

theorem serve_next (k : ReqKind) (p : Port) (f : List Byte → State → State × Reply) (s : State) :
    ∃ t, serve k p f s = .next t := by
  unfold serve
  split
  · exact ⟨s, rfl⟩
  · exact ⟨_, rfl⟩

theorem execResetEnd_next (s : State) : ∃ t, execResetEnd s = .next t := by
  unfold execResetEnd
  split
  · exact ⟨s, rfl⟩
  · exact ⟨_, rfl⟩

theorem execSafeinAssert_next (s : State) : ∃ t, execSafeinAssert s = .next t := by
  unfold execSafeinAssert
  split
  · exact ⟨s, rfl⟩
  · exact ⟨_, rfl⟩

theorem execSelectRelease_next (p : Port) (s : State) : ∃ t, execSelectRelease p s = .next t := by
  unfold execSelectRelease
  dsimp only
  split
  · exact ⟨_, rfl⟩
  · exact ⟨s, rfl⟩

theorem execResetDevice_next (s : State) : ∃ t, execResetDevice s = .next t := by
  unfold execResetDevice
  split
  · exact ⟨s, rfl⟩
  · split
    · exact ⟨_, rfl⟩
    · split
      · exact ⟨_, rfl⟩
      · exact ⟨_, rfl⟩

/-- Every command is taken. -/
theorem exec_next (c : Instr) (s : State) : ∃ t, exec c s = .next t := by
  cases c
  case resetEnd => exact execResetEnd_next s
  case safeinAssert => exact execSafeinAssert_next s
  case selectRelease p => exact execSelectRelease_next p s
  case resetDevice => exact execResetDevice_next s
  case powerOnReset | resetnAssert | safeinDeassert => exact ⟨_, rfl⟩
  case motionInputChange | stepInputRise | sensorRawChange | selectFall => exact ⟨_, rfl⟩
  case readPosition | presetPosition | leaseLines | releaseLines | revokeLines | forceLines | unforceLines | readLines =>
    exact serve_next _ _ _ s
  case clearLineFault | post | commit | discardStaged | cancelEntries | amendEntry | queryEntry | readTableStatus =>
    exact serve_next _ _ _ s
  case subscribe | readCaptures | defineTemplate | deleteTemplate | setTemplateState | verdict | queryTemplate =>
    exact serve_next _ _ _ s
  case setParam | getParam | start | stop | resume | readHealth | readNotices | setNoticeMask | portStatus =>
    exact serve_next _ _ _ s
  all_goals
    simp only [exec, execInitEnd, execSafeRequestOverrun, execInternalRateExpiry, execStallTimerExpiry,
      execSpeedWindowExpiry, execStepAtTimetable, execStepAtSlots, execPresetAtBlock, execSensorFilterExpiry,
      execCaptureEntry, execCaptureHandOff, execHistoryPeriodBoundary, execCorruptionDecay, execSettleExpiry,
      execPulseEnd, execRestEnd, execRestGuardEnd, execScrubVisit, execCorruptionFinding, execTimetableEmptying,
      execSlotsEmptying, execTemplatesSuspension, execEnginesOff, execWriteMotionSource, execWriteInternalRate,
      execWriteStallTime, execWriteSpeedWindow, execWriteCommitLead, execWriteHistoryPeriod, execWriteRest,
      execWriteReadback, execWriteSensorFilter, execNoticeTaken, execRequestFrame, execReplyReady, execReplySent,
      execResetPort, execModeChangeTakenAtBlock, execReplyMarkerSent]
    exact whenRunning_next _ s

theorem step_next (s : State) : ∃ t, step s = .next t := by
  unfold step
  split
  · exact exec_next _ _
  · unfold idle
    split
    · exact exec_next _ _
    · exact ⟨_, rfl⟩

/-- While a reset is in force no request is taken. -/
theorem serve_inReset (k : ReqKind) (p : Port) (f : List Byte → State → State × Reply) (s : State) (r : ResetKind)
    (h : s.inReset = some r) : serve k p f s = .next s := by
  simp [serve, State.request, h]

/-- Settles O1: the step reads the front of the queue. -/
theorem stepTakesTheFrontCommand : Obligations.StepTakesTheFrontCommand := by
  unfold Obligations.StepTakesTheFrontCommand
  exact fun _ _ _ => rfl

/-- While a reset is in force a command other than pins, selects and resets leaves the state as it is. -/
theorem exec_inReset (c : Instr) (s : State) (k : ResetKind) (h : s.inReset = some k)
    (noPower : c ≠ .powerOnReset) (noPin : c ≠ .resetnAssert) (noEnd : c ≠ .resetEnd)
    (noAssert : c ≠ .safeinAssert) (noDeassert : c ≠ .safeinDeassert) (noMotion : ∀ a b, c ≠ .motionInputChange a b)
    (noRise : ∀ b, c ≠ .stepInputRise b) (noRaw : ∀ n v, c ≠ .sensorRawChange n v) (noFall : ∀ p, c ≠ .selectFall p)
    (noRelease : ∀ p, c ≠ .selectRelease p) : exec c s = .next s := by
  cases c
  case powerOnReset => exact absurd rfl noPower
  case resetnAssert => exact absurd rfl noPin
  case resetEnd => exact absurd rfl noEnd
  case safeinAssert => exact absurd rfl noAssert
  case safeinDeassert => exact absurd rfl noDeassert
  case motionInputChange a b => exact absurd rfl (noMotion a b)
  case stepInputRise b => exact absurd rfl (noRise b)
  case sensorRawChange n v => exact absurd rfl (noRaw n v)
  case selectFall p => exact absurd rfl (noFall p)
  case selectRelease p => exact absurd rfl (noRelease p)
  case resetDevice => simp [exec, execResetDevice, State.request, h]
  case readPosition | presetPosition | leaseLines | releaseLines | revokeLines | forceLines | unforceLines | readLines =>
    exact serve_inReset _ _ _ s k h
  case clearLineFault | post | commit | discardStaged | cancelEntries | amendEntry | queryEntry | readTableStatus =>
    exact serve_inReset _ _ _ s k h
  case subscribe | readCaptures | defineTemplate | deleteTemplate | setTemplateState | verdict | queryTemplate =>
    exact serve_inReset _ _ _ s k h
  case setParam | getParam | start | stop | resume | readHealth | readNotices | setNoticeMask | portStatus =>
    exact serve_inReset _ _ _ s k h
  all_goals
    simp only [exec, execInitEnd, execSafeRequestOverrun, execInternalRateExpiry, execStallTimerExpiry,
      execSpeedWindowExpiry, execStepAtTimetable, execStepAtSlots, execPresetAtBlock, execSensorFilterExpiry,
      execCaptureEntry, execCaptureHandOff, execHistoryPeriodBoundary, execCorruptionDecay, execSettleExpiry,
      execPulseEnd, execRestEnd, execRestGuardEnd, execScrubVisit, execCorruptionFinding, execTimetableEmptying,
      execSlotsEmptying, execTemplatesSuspension, execEnginesOff, execWriteMotionSource, execWriteInternalRate,
      execWriteStallTime, execWriteSpeedWindow, execWriteCommitLead, execWriteHistoryPeriod, execWriteRest,
      execWriteReadback, execWriteSensorFilter, execNoticeTaken, execRequestFrame, execReplyReady, execReplySent,
      execResetPort, execModeChangeTakenAtBlock, execReplyMarkerSent]
    exact whenRunning_inReset _ s k h

/-- In a reset a release of a select in a refused transaction frees the port. -/
theorem selectRelease_inReset (s : State) (k : ResetKind) (h : s.inReset = some k) (p : Port)
    (selected : (s.ports.get p).selected = true) (refusing : (s.ports.get p).refusing = true)
    (idle : (s.ports.get p).state = .idle) : exec (.selectRelease p) s = .next { s with
      ports := s.ports.set p { s.ports.get p with selected := false, refusing := false, buffer := [] } } := by
  simp [exec, execSelectRelease, selected, refusing, h, PortRec.refusedClosed, idle, State.setPort]

/-- Settles O3: every handler answers with a next state, and in a reset only pins, selects and resets act. -/
theorem everyCommandIsTakenAndResetsHoldTheBlocks : Obligations.EveryCommandIsTakenAndResetsHoldTheBlocks := by
  unfold Obligations.EveryCommandIsTakenAndResetsHoldTheBlocks
  refine ⟨exec_next, step_next, fun s k h => ⟨fun a b => ?_, fun b => ?_, fun n v => ?_, ?_, rfl, fun p free => ?_,
    fun p => selectRelease_inReset s k h p, fun c => exec_inReset c s k h⟩⟩
  · simp [exec, execMotionInputChange, State.motionPins, h]
  · simp [exec, execStepInputRise, State.motionPins, h]
  · simp [exec, execSensorRawChange, State.setSensor, h]
  · cases pin : s.pinSafeIn with
    | true =>
      have same : ({ s with pinSafeIn := true } : State) = s := by rw [← pin]
      rw [same]
      simp [exec, execSafeinAssert, pin]
    | false => simp [exec, execSafeinAssert, pin, h]
  · simp [exec, execSelectFall, free, State.portsClosed, h, State.setPort]

/-! ## The part's clock (O2) -/

theorem dueIf_eq_none_iff (c : Bool) (i : Instr) : dueIf c i = none ↔ c = false := by
  cases c <;> simp [dueIf]

theorem timerDue_eq_false_iff (now start : Word32) (n : Nat) : timerDue now start n = false ↔ (now - start).toNat < n := by
  rw [timerDue, elapsed, decide_eq_false_iff_not, not_le]

theorem timerRunDue_eq_false (now : Word32) (start : Option Word32) (n : Nat) (h : timerRunDue now start n = false)
    (t : Word32) (runs : start = some t) : (now - t).toNat < n := by
  subst runs
  exact (timerDue_eq_false_iff now t n).mp h

theorem settleDue_eq_false (now : Word32) (r : LineRec) (h : r.settleDue now = false) (c : SettleCheck)
    (runs : r.settle = some c) : (now - c.start).toNat < c.duration := by
  unfold LineRec.settleDue at h
  rw [runs] at h
  exact (timerDue_eq_false_iff now c.start c.duration).mp h

theorem filterDue_eq_false (now : Word32) (x : Sensor) (h : x.filterDue now = false) (c : PendingChange)
    (runs : x.pend = some c) : (now - c.start).toNat < x.filter := by
  unfold Sensor.filterDue at h
  rw [runs] at h
  exact (timerDue_eq_false_iff now c.start x.filter).mp h

/-- With nothing due on a line none of its timers has expired. -/
theorem dueOnLine_eq_none (s : State) (l : LineNo) (h : dueOnLine s l = none) :
    (s.line[l]).engine.pulseDue s.now = false ∧ (s.line[l]).engine.restDue s.now = false
    ∧ (s.line[l]).engine.guardDue s.now = false ∧ (s.line[l]).settleDue s.now = false := by
  simpa [dueOnLine, dueIf_eq_none_iff] using h

/-- With nothing due at a port its reply limit is not reached. -/
theorem dueAtPort_eq_none (s : State) (p : Port) (h : dueAtPort s p = none) (w : Work)
    (works : (s.ports.get p).work = some w) : (s.now - w.since).toNat < 40 := by
  unfold dueAtPort at h
  rw [works] at h
  exact (timerDue_eq_false_iff _ _ _).mp ((dueIf_eq_none_iff _ _).mp h)

/-- With no event due nothing of the blocks, the lines, the sensors and the ports is due. -/
theorem dueEvent_eq_none (s : State) (running : s.inReset = none) (h : dueEvent s = none) :
    dueBlockTimer s = none ∧ (∀ l, dueOnLine s l = none) ∧ (∀ k, dueOnSensor s k = none) ∧ ∀ p, dueAtPort s p = none := by
  unfold dueEvent at h
  rw [running] at h
  simp only [Option.isSome_none, Bool.false_eq_true, if_false, Option.or_eq_none_iff, List.findSome?_eq_none_iff] at h
  obtain ⟨-, -, timers, lines, sensors, ports⟩ := h
  exact ⟨timers, fun l => lines l (mem_allLines l), fun k => sensors k (List.mem_finRange k), fun p => ports p (Port.mem_all p)⟩

/-- Settles O2: a microsecond passes only where the chain of due events ends in none, each link of which is a timer. -/
theorem timePassesOnlyWhenNothingIsDue : Obligations.TimePassesOnlyWhenNothingIsDue := by
  unfold Obligations.TimePassesOnlyWhenNothingIsDue
  intro s queue
  have waits : step s = idle s := by unfold step; rw [queue]
  rw [waits]
  refine ⟨fun k held => ?_, fun c _ due => ?_, fun running due => ?_⟩
  · simp [idle, dueEvent, State.tick, held]
  · simp [idle, due]
  obtain ⟨timers, lines, sensors, ports⟩ := dueEvent_eq_none s running due
  simp only [dueBlockTimer, Option.or_eq_none_iff, dueIf_eq_none_iff] at timers
  obtain ⟨rate, stall, window, history, visit⟩ := timers
  refine ⟨by simp [idle, due, State.tick, running], fun t => timerRunDue_eq_false _ _ _ stall t,
    fun t => timerRunDue_eq_false _ _ _ rate t, (timerDue_eq_false_iff _ _ _).mp window,
    (timerDue_eq_false_iff _ _ _).mp history, (timerDue_eq_false_iff _ _ _).mp visit, ?_, ?_, ?_, ?_, ?_,
    fun p w => dueAtPort_eq_none s p (ports p) w⟩
  · intro l c
    obtain ⟨-, -, -, settle⟩ := dueOnLine_eq_none s l (lines l)
    exact settleDue_eq_false _ _ settle c
  · intro l e f engine
    obtain ⟨pulse, -⟩ := dueOnLine_eq_none s l (lines l)
    rw [engine] at pulse
    exact ne_of_beq_false pulse
  · intro l f e q engine
    obtain ⟨-, rest, -⟩ := dueOnLine_eq_none s l (lines l)
    rw [engine] at rest
    exact ne_of_beq_false rest
  · intro l g engine
    obtain ⟨-, -, guard, -⟩ := dueOnLine_eq_none s l (lines l)
    rw [engine] at guard
    exact ne_of_beq_false guard
  · intro k c
    exact filterDue_eq_false _ _ ((dueIf_eq_none_iff _ _).mp (sensors k)) c

end Sys2Proof.Machine

/-! PROOFS. What a mode change hands on, what a SAFE cause and the end of INIT do, and what the requests and commands of the
Mode Controller come to (O8, O9, O10). -/

namespace Sys2Proof.Machine

/-! ## A mode change handed on -/

/-- One copy of a notice stands behind those on their way to each port. -/
theorem notifyAll_eq (s : State) (src : NoticeSource) (n : Notice) : s.notifyAll src n = { s with
    wires := { s.wires with notices := s.wires.notices.map fun q => q ++ [{ source := src, own := false, notice := n }] } } := by
  have posted : (s.notifyAll src n).wires.notices
      = s.wires.notices.map fun q => q ++ [{ source := src, own := false, notice := n }] :=
    PerPort.ext_get _ _ fun p => by rw [notifyAll_notices, PerPort.get_map]
  rw [notifyAll_onlyNotices s src n, posted]

/-- A mode change at the Mode Controller: its mode, the notices and what is handed on. -/
theorem changeMode_eq (s : State) (new : Mode) (reason : Nat) (line : Option LineNo) : s.changeMode new reason line =
    ({ s with
        control := { s.control with mode := new }
        wires := { s.wires with notices := s.wires.notices.map fun q => q ++
          [{ source := .modeController, own := false, notice := modeNotice s.control.mode new reason line }] } }
      : State).handChange s.control.mode new := by
  change (State.notifyAll _ _ _).handChange _ _ = _
  rw [notifyAll_eq]
  rfl

theorem handChange_handedOn (s : State) (old new : Mode) :
    ChangeHandedOn s (s.handChange old new) old new (!ModeChange.teardown { old := old, new := new, ready := true }) :=
  ⟨rfl, fun p => by simp [State.handChange], rfl, rfl, rfl⟩

theorem handChange_otherWiresKept (s : State) (old new : Mode) : OtherWiresKept s (s.handChange old new) :=
  ⟨rfl, rfl, rfl, rfl, rfl, rfl, rfl⟩

theorem handChange_notices (s : State) (old new : Mode) : (s.handChange old new).wires.notices = s.wires.notices := rfl

section
variable (s : State) (new : Mode) (reason : Nat) (line : Option LineNo)

/-- Every port is told of a mode change (R148). -/
theorem changeMode_told (p : Port) :
    ToldModeChange s (s.changeMode new reason line) p false s.control.mode new reason line := by
  unfold ToldModeChange
  rw [changeMode_eq, handChange_notices, PerPort.get_map]
  rfl

theorem changeMode_handedOn : ChangeHandedOn s (s.changeMode new reason line) s.control.mode new
    (!ModeChange.teardown { old := s.control.mode, new := new, ready := true }) := by
  rw [changeMode_eq]
  exact handChange_handedOn _ _ _

theorem changeMode_otherWiresKept : OtherWiresKept s (s.changeMode new reason line) := by
  rw [changeMode_eq]
  exact ⟨rfl, rfl, rfl, rfl, rfl, rfl, rfl⟩

theorem changeMode_overrunAsks : (s.changeMode new reason line).wires.overrunAsks = s.wires.overrunAsks := by
  rw [changeMode_eq]
  rfl

theorem changeMode_alerts : (s.changeMode new reason line).notices = s.notices := by
  rw [changeMode_eq]
  rfl

end

/-! ## The end of INIT (R142, R158) -/

theorem countKind_modeChanged (l : List (NoticeKind × Nat)) : countKind .modeChanged l = withModeChanged l := by
  rcases l with _ | ⟨⟨k, n⟩, rest⟩
  · rfl
  · cases k <;> rfl

/-- MODE_CHANGED has the highest priority, so that it becomes the detail. -/
theorem detailAfter_modeChanged (held : Option Notice) (n : Notice) (kind : n.kind = .modeChanged) :
    detailAfter held n = some n := by
  rcases held with _ | h
  · rfl
  · have : h.kind.priority ≤ n.kind.priority := by rw [kind]; cases h.kind <;> decide
    simp [detailAfter, this]

theorem judged_alert_iff (m : Mode) (x : NoticeState) :
    (x.judged m).alert = true ↔ m ≠ .init ∧ ∃ k ∈ x.pendingSet, x.mask.getLsbD k.1.code = true := by
  simp [NoticeState.judged, inMask]

/-- The end of INIT hands the change on, and every port has received its MODE_CHANGED. -/
theorem endInit_leavesInit (s : State) (new : Mode) (starting : s.control.mode = .init) (ends : new ≠ .init) :
    LeavesInit s (s.endInit new) new s.control.firstCause := by
  refine ⟨rfl, fun p => ⟨?_, ?_⟩, rfl, ?_, ⟨rfl, rfl, rfl, rfl, rfl, rfl, rfl⟩⟩
  · rw [endInit_notices, PerPort.get_map, NoticeState.take, NoticeState.judged]
    have detail := detailAfter_modeChanged (s.notices.get p).detail
      (modeNotice s.control.mode new s.control.resetKind.reason none) rfl
    rw [detail]
    simp only [modeNotice, starting, countKind_modeChanged, Notice.bare]
  · rw [endInit_notices, PerPort.get_map, NoticeState.take, judged_alert_iff]
    exact and_iff_right ends
  · have ready : (!ModeChange.teardown { old := s.control.mode, new := new, ready := true }) = decide (new ≠ .safe) := by
      simp [ModeChange.teardown, starting]
    rw [← ready, ← starting]
    exact ⟨rfl, fun p => by simp [State.endInit, State.handChange], rfl, rfl, rfl⟩

/-! ## SAFE causes (R142, R145, R146) -/

theorem takeCause_safe (s : State) (cause : SafeCause) (line : Option LineNo) (safe : s.control.mode = .safe) :
    s.takeCause cause line = s.setControl { s.control with later := s.control.later.add cause } := by
  simp [State.takeCause, safe]

theorem takeCause_init (s : State) (cause : SafeCause) (line : Option LineNo) (starting : s.control.mode = .init) :
    s.takeCause cause line = (s.setControl { s.control with firstCause := some cause }).endInit .safe := by
  simp [State.takeCause, starting]

theorem takeCause_open (s : State) (cause : SafeCause) (line : Option LineNo)
    (opened : s.control.mode = .config ∨ s.control.mode = .run) : s.takeCause cause line
      = (s.setControl { s.control with firstCause := some cause }).changeMode .safe cause.reason line := by
  rcases opened with h | h <;> simp [State.takeCause, h]

/-- A change of the Mode Controller first makes no difference to the reset. -/
theorem leavesInit_of_firstCause (s t : State) (cause : SafeCause) (new : Mode) :
    LeavesInit (s.setControl { s.control with firstCause := some cause }) t new (some cause) →
      LeavesInit s t new (some cause) := id

theorem takeCause_leavesInit (s : State) (cause : SafeCause) (line : Option LineNo) (starting : s.control.mode = .init) :
    LeavesInit s (s.takeCause cause line) .safe (some cause) := by
  rw [takeCause_init s cause line starting]
  exact leavesInit_of_firstCause s _ cause .safe (endInit_leavesInit _ .safe starting (by decide))

theorem takeCause_entersSafe (s : State) (cause : SafeCause) (line : Option LineNo)
    (opened : s.control.mode = .config ∨ s.control.mode = .run) : EntersSafe s (s.takeCause cause line) cause line := by
  rw [takeCause_open s cause line opened]
  exact ⟨changeMode_control _ _ _ _, fun p => changeMode_told (s.setControl { s.control with firstCause := some cause }) .safe
    cause.reason line p, changeMode_handedOn (s.setControl { s.control with firstCause := some cause }) .safe cause.reason line,
    changeMode_otherWiresKept (s.setControl { s.control with firstCause := some cause }) .safe cause.reason line⟩

/-- A SAFE cause acts by the mode it meets. -/
theorem takeCause_causeTaken (s : State) (cause : SafeCause) (line : Option LineNo) :
    CauseTaken s (s.takeCause cause line) cause line := by
  refine ⟨takeCause_frame s cause line, fun safe => ?_, takeCause_leavesInit s cause line, fun opened => ?_⟩
  · rw [takeCause_safe s cause line safe]
    exact ⟨⟨rfl, rfl, rfl, rfl, rfl, rfl, rfl, ⟨rfl, rfl, rfl, rfl, rfl, rfl, rfl⟩⟩, rfl⟩
  · refine ⟨takeCause_entersSafe s cause line opened, ?_⟩
    rw [takeCause_open s cause line opened, changeMode_alerts]
    rfl

theorem takeCause_overrunAsks (s : State) (cause : SafeCause) (line : Option LineNo) :
    (s.takeCause cause line).wires.overrunAsks = s.wires.overrunAsks := by
  unfold State.takeCause
  split
  · rfl
  · rfl
  all_goals rw [changeMode_overrunAsks]; rfl

/-! ## The commands (O8, O9) -/

theorem exec_initEnd (s : State) (running : s.inReset = none) : exec .initEnd s = .next (if s.control.mode = .init then
    (if s.pinSafeIn then s.takeCause .safeIn none else s.endInit .config) else s) := whenRunning_running _ s running

/-- Settles O8: outside INIT nothing, in it the end of INIT or the cause SAFE_IN. -/
theorem initEndsInConfigOrSafe : Obligations.InitEndsInConfigOrSafe := by
  unfold Obligations.InitEndsInConfigOrSafe
  intro s running
  rw [exec_initEnd s running]
  refine ⟨fun other => by rw [if_neg other], fun starting => ?_⟩
  rw [if_pos starting]
  by_cases pin : s.pinSafeIn = true
  · rw [if_pos pin]
    exact ⟨_, rfl, takeCause_frame s .safeIn none, takeCause_overrunAsks s .safeIn none,
      fun low => by simp [pin] at low, fun _ => takeCause_leavesInit s .safeIn none starting⟩
  · rw [if_neg pin]
    exact ⟨_, rfl, endInit_frame s .config, rfl,
      fun _ => endInit_leavesInit s .config starting (by decide), fun high => absurd high pin⟩

theorem settleAsk_first (n : Nat) (pre post : List (Option Nat)) (taken : none ∉ pre) :
    settleAsk n (pre ++ none :: post) = pre ++ some n :: post := by
  induction pre with
  | nil => rfl
  | cons o pre ih =>
    rcases o with _ | k
    · exact absurd (List.mem_cons_self ..) taken
    · simp only [List.cons_append, settleAsk, ih fun h => taken (List.mem_cons_of_mem _ h)]

theorem any_isNone_iff (asks : List (Option Nat)) : asks.any Option.isNone = true ↔ none ∈ asks := by
  simp [List.any_eq_true, Option.isNone_iff_eq_none]

/-- The SAFE requests on their way play no part in what a cause does. -/
theorem CauseTaken.setAsks {s t : State} {cause : SafeCause} {line : Option LineNo} (h : CauseTaken s t cause line)
    (asks : List (Option Nat)) : CauseTaken s (t.setWires { t.wires with overrunAsks := asks }) cause line := by
  obtain ⟨frame, safe, starting, opened⟩ := h
  refine ⟨?_, safe, starting, opened⟩
  rw [frame]
  rfl

theorem exec_safeRequestOverrun (s : State) (running : s.inReset = none) : exec .safeRequestOverrun s = .next
    (if s.wires.overrunAsks.any Option.isNone then (s.takeCause .overrun none).setWires { (s.takeCause .overrun none).wires with
      overrunAsks := settleAsk (changesWaiting (s.takeCause .overrun none).wires.toTimetable)
        (s.takeCause .overrun none).wires.overrunAsks } else s) := whenRunning_running _ s running

/-- Settles O9: the rise of SAFEIN and the oldest SAFE request on its way are causes taken, anything else does nothing. -/
theorem safeCausesAreTaken : Obligations.SafeCausesAreTaken := by
  unfold Obligations.SafeCausesAreTaken
  refine fun s => ⟨rfl, fun high => by simp [exec, execSafeinAssert, high], fun low running => ?_, fun running none_asks => ?_,
    fun pre post running asks taken => ?_⟩
  · refine ⟨({ s with pinSafeIn := true } : State).takeCause .safeIn none, ?_, ?_, takeCause_overrunAsks _ _ _,
      takeCause_causeTaken _ _ _⟩
    · simp [exec, execSafeinAssert, low, running]
    · rw [takeCause_frame]
  · rw [exec_safeRequestOverrun s running, if_neg (by rwa [any_isNone_iff])]
  · rw [exec_safeRequestOverrun s running, if_pos (by rw [any_isNone_iff, asks]; simp)]
    refine ⟨_, rfl, (takeCause_causeTaken s .overrun none).setAsks _, ?_⟩
    simp only [State.setWires_wires, takeCause_overrunAsks, asks, settleAsk_first _ _ _ taken]

/-! ## START, STOP and RESUME (O10) -/

/-- The reply of port A's request that its handler has answered, the notices that it posted for A marked as its own. -/
def State.answered (s t : State) (w : Work) : State :=
  ((t.markOwn .A (s.wires.notices.get .A).length).setPhase .A w (.done .ok []))

theorem answered_told (s : State) (w : Work) (c : ModeController) (new : Mode) (reason : Nat) (p : Port) :
    ToldModeChange s (s.answered ((s.setControl c).changeMode new reason none) w) p (p == .A) c.mode new reason none := by
  have told := changeMode_told (s.setControl c) new reason none p
  unfold ToldModeChange at told ⊢
  have marked := markOwn_notices _ .A p _ _ (s.wires.notices.get .A).length told (fun h => by rw [h]; rfl)
  refine marked.trans ?_
  cases p <;> rfl

/-- A mode change asked for by port A: what `ModeRequestAccepted` says, whatever the request does to the causes first. -/
theorem answered_accepted (s : State) (w : Work) (c : ModeController) (new : Mode) (reason : Nat) (atOnce : Bool)
    (mode : c.mode = s.control.mode)
    (ready : (!ModeChange.teardown { old := s.control.mode, new := new, ready := true }) = atOnce) :
    ModeRequestAccepted s (s.answered ((s.setControl c).changeMode new reason none) w) w new reason atOnce
    ∧ (s.answered ((s.setControl c).changeMode new reason none) w).control = { c with mode := new } := by
  have told := answered_told s w c new reason
  have handed := changeMode_handedOn (s.setControl c) new reason none
  have others := changeMode_otherWiresKept (s.setControl c) new reason none
  have asks := changeMode_overrunAsks (s.setControl c) new reason none
  have control := changeMode_control (s.setControl c) new reason none
  have frame := changeMode_frame (s.setControl c) new reason none
  have alerts := changeMode_alerts (s.setControl c) new reason none
  have modeOf : (s.setControl c).control.mode = s.control.mode := mode
  rw [mode] at told
  rw [modeOf, ready] at handed
  refine ⟨⟨?_, told, handed, others, asks⟩, control⟩
  unfold OnlyControl at frame
  rw [alerts] at frame
  unfold State.answered State.markOwn State.setPhase State.answer State.setPort State.setWires
  rw [frame]
  rfl

theorem exec_start (s : State) : exec .start s = serve .start .A startRequest s := rfl
theorem exec_stop (s : State) : exec .stop s = serve .stop .A stopRequest s := rfl
theorem exec_resume (s : State) : exec .resume s = serve .resume .A resumeRequest s := rfl

theorem ranks_any_isNone_iff (q : Params) :
    q.portPriority.toList.any Option.isNone = true ↔ ∃ r : Fin 4, q.portPriority[r] = none := by
  simp only [List.any_eq_true, Option.isNone_iff_eq_none, Vector.mem_toList_iff, exists_eq_right, Vector.mem_iff_getElem]
  constructor
  · rintro ⟨i, hi, e⟩
    exact ⟨⟨i, hi⟩, e⟩
  · rintro ⟨r, e⟩
    exact ⟨r.val, r.isLt, e⟩

theorem startRequest_starts (body : List Byte) (s : State) (mode : s.control.mode = .config) (bare : body = [])
    (ranked : ∀ r : Fin 4, s.control.params.portPriority[r] ≠ none) :
    startRequest body s = (s.changeMode .run startReason none, Reply.ok []) := by
  have all : ¬ s.control.params.portPriority.toList.any Option.isNone = true := by
    rw [ranks_any_isNone_iff]
    exact fun ⟨r, h⟩ => ranked r h
  unfold startRequest
  rw [if_neg (not_not_intro mode), if_neg (not_not_intro bare), if_neg all]

theorem startRequest_badField (body : List Byte) (s : State) (mode : s.control.mode = .config)
    (bad : body ≠ [] ∨ ∃ r : Fin 4, s.control.params.portPriority[r] = none) :
    startRequest body s = (s, Reply.refuse .badField) := by
  unfold startRequest
  rw [if_neg (not_not_intro mode)]
  by_cases body_ne : body ≠ []
  · rw [if_pos body_ne]
  · rw [if_neg body_ne, if_pos ((ranks_any_isNone_iff _).mpr (bad.resolve_left body_ne))]

/-- Settles O10: each request by its checks in their order, an accepted one by the mode change it makes. -/
theorem supervisorChangesTheMode : Obligations.SupervisorChangesTheMode := by
  unfold Obligations.SupervisorChangesTheMode
  refine fun s w => ⟨fun waits => ?_, fun waits => ?_, fun waits => ?_⟩
  · rw [exec_start]
    refine ⟨fun other => serve_kept waits _ (.refuse .wrongMode) (by simp [startRequest, other]),
      fun mode bad => serve_kept waits _ (.refuse .badField) (startRequest_badField _ s mode bad), fun mode bare ranked => ?_⟩
    have accepted := answered_accepted s w s.control .run startReason true rfl (by rw [mode]; rfl)
    refine ⟨_, ?_, accepted⟩
    rw [serve_waits waits, startRequest_starts _ s mode bare ranked]
    rfl
  · rw [exec_stop]
    refine ⟨fun other => serve_kept waits _ (.refuse .wrongMode) (by simp [stopRequest, other]),
      fun mode bad => serve_kept waits _ (.refuse .badField) (by simp [stopRequest, mode, bad]), fun mode bare => ?_⟩
    have accepted := answered_accepted s w s.control .config stopReason false rfl (by rw [mode]; rfl)
    refine ⟨_, ?_, accepted⟩
    rw [serve_waits waits, stopRequest, if_neg (not_not_intro mode), if_neg (not_not_intro bare)]
    rfl
  · rw [exec_resume]
    refine ⟨fun other => serve_kept waits _ (.refuse .wrongMode) (by simp [resumeRequest, other]),
      fun mode bad => serve_kept waits _ (.refuse .badField) (by simp [resumeRequest, mode, bad]),
      fun mode bare high => serve_kept waits _ (.refuse .safeHold) (by simp [resumeRequest, mode, bare, high]),
      fun mode bare low => ?_⟩
    have accepted := answered_accepted s w { s.control with firstCause := none, later := CauseSet.empty, corruption := 0 }
      .config resumeReason true rfl (by rw [mode]; rfl)
    refine ⟨_, ?_, accepted⟩
    rw [serve_waits waits, resumeRequest, if_neg (not_not_intro mode), if_neg (not_not_intro bare), if_neg (by simp [low])]
    rfl

end Sys2Proof.Machine

/-! PROOFS. The state that a reset leaves: its reset values, the laws in it, and the hard and the soft reset (O4 to O7). -/

namespace Sys2Proof.Machine

/-! ## The reset values (R1, R22, R69, R73, R88, R105, R120, R122, R140, R158, R167) -/

section
variable (pend : List Instr) (a b : Bool) (readback : BitVec 32) (safeIn : Bool) (sens : Vector Bool 8)
  (selected : PerPort Bool) (q : Params) (kind : ResetKind) (free : Nat)

theorem afterReset_position : PositionReset (State.afterReset pend a b readback safeIn sens selected q kind free) :=
  ⟨rfl, rfl, rfl, rfl, rfl, rfl, rfl, rfl, rfl, rfl, rfl, rfl, rfl, rfl, rfl, rfl, rfl⟩

theorem afterReset_lines : LinesReset (State.afterReset pend a b readback safeIn sens selected q kind free) :=
  ⟨fun l => by simp [State.afterReset, LineRec.initial, LineRec.covered, ModeController.initial], rfl⟩

theorem afterReset_work : WorkReset (State.afterReset pend a b readback safeIn sens selected q kind free) :=
  ⟨rfl, fun i => by simp [State.afterReset, Timetable.initial], rfl, fun p => by simp [State.afterReset, Timetable.initial],
    rfl, rfl, rfl, rfl, fun p => by simp [State.afterReset, Slots.initial, ModeController.initial],
    fun n => by simp [State.afterReset, TemplateTable.initial], rfl⟩

theorem afterReset_captures : CapturesReset (State.afterReset pend a b readback safeIn sens selected q kind free) :=
  ⟨fun k => by simp [State.afterReset, Sensor.initial, ModeController.initial], rfl, rfl, rfl, rfl,
    fun p => by simp [State.afterReset, CaptureLog.initial]⟩

theorem afterReset_control : ControlReset (State.afterReset pend a b readback safeIn sens selected q kind free) :=
  ⟨rfl, rfl, rfl, rfl, rfl, rfl, rfl, rfl⟩

theorem afterReset_portRecords : PortRecordsReset (State.afterReset pend a b readback safeIn sens selected q kind free) :=
  fun p => by simp [State.afterReset, PortRec.initial]

theorem afterReset_ports : PortsReset (State.afterReset pend a b readback safeIn sens selected q kind free) :=
  ⟨fun p => by simp [State.afterReset, NoticeState.initial, Config.defaultMask],
    afterReset_portRecords pend a b readback safeIn sens selected q kind free, rfl⟩

/-- A reset leaves every block at its reset values. -/
theorem afterReset_atResetValues : AtResetValues (State.afterReset pend a b readback safeIn sens selected q kind free) :=
  ⟨rfl, afterReset_position .., afterReset_lines .., afterReset_work .., afterReset_captures .., afterReset_control ..,
    afterReset_ports ..⟩

theorem afterReset_engine (l : LineNo) :
    ((State.afterReset pend a b readback safeIn sens selected q kind free).line[l]).engine = .off none := by
  simp [State.afterReset, LineRec.initial]

end

/-- Settles O4: the reset state is the state after a reset with the default parameters. -/
theorem resetStateHoldsTheResetValues : Obligations.ResetStateHoldsTheResetValues := by
  unfold Obligations.ResetStateHoldsTheResetValues
  have engines : ∀ l : LineNo, (State.reset.line[l]).engine = .off none := afterReset_engine _ _ _ _ _ _ _ _ _ _
  have forces : ∀ l : LineNo, (State.reset.line[l]).force = .none := fun l => by
    simp [State.reset, State.afterReset, LineRec.initial]
  refine ⟨afterReset_atResetValues .., rfl, rfl, ⟨rfl, rfl, rfl, rfl⟩, fun l => ⟨engines l, ?_⟩, rfl, rfl,
    ⟨rfl, rfl, rfl, rfl, rfl, rfl, rfl, rfl, rfl, rfl⟩, fun l => ?_, fun p => ?_, fun r => ?_, fun k => ?_⟩
  · unfold State.out State.driven LineRec.driven
    rw [engines l, forces l]
    simp [Engine.level]
  · simp [State.reset, State.afterReset, ModeController.initial, Params.default, Params.value, Policy.code, flagNat]
  · simp [State.reset, State.afterReset, ModeController.initial, Params.default, Params.value]
  · revert r
    decide
  · simp [State.reset, State.afterReset, ModeController.initial, Params.default, Params.value, EdgeSelect.code]

/-! ## The laws at reset (O5) -/

theorem reset_logLaw : State.reset.logLaw := by
  refine ⟨by decide, fun i h => absurd h (Nat.not_lt_zero i), fun c h => absurd h List.not_mem_nil, fun p => ?_⟩
  cases p <;> decide

theorem reset_tableLaw : State.reset.tableLaw :=
  ⟨by decide, List.nodup_nil, fun e h => absurd h List.not_mem_nil, fun p => by cases p <;> rfl⟩

theorem reset_slots (p : Port) : State.reset.slots.get p = Slots.initial 64 := by
  cases p <;> rfl

theorem initial_slotsLaw (lead : Nat) : SlotsLaw (Slots.initial lead) := by
  have empty : ∀ i : Fin 4, (Slots.initial lead).slot[i] = none := fun i => by simp [Slots.initial]
  refine ⟨List.nodup_nil, fun i => ?_, fun i j x y occupied => ?_⟩
  · rw [empty i]
    simp [Slots.initial]
  · rw [empty i] at occupied
    exact absurd occupied (by simp)

theorem reset_slotsLaw : State.reset.slotsLaw := fun p => by
  rw [reset_slots p]
  exact initial_slotsLaw 64

theorem initial_lineLaw (rest : Nat) (readback : Bool) : LineLaw (LineRec.initial rest readback) := by
  simp [LineLaw, LineRec.initial]

theorem reset_lineLaw : State.reset.lineLaw := fun l => by
  have record : State.reset.line[l] = LineRec.initial Params.default.rest[l] Params.default.readback[l] := by
    simp [State.reset, State.afterReset]
  rw [record]
  exact initial_lineLaw _ _

theorem initial_noticeLaw : NoticeLaw .init NoticeState.initial :=
  ⟨List.Pairwise.nil, fun k h => absurd h List.not_mem_nil, by simp [NoticeState.initial], rfl, by
    simp [NoticeState.initial]⟩

theorem reset_noticeLaw : State.reset.noticeLaw := fun p => by
  have record : State.reset.notices.get p = NoticeState.initial := by cases p <;> rfl
  rw [record]
  exact initial_noticeLaw

theorem reset_controlLaw : State.reset.controlLaw :=
  ⟨by decide, fun _ => ⟨rfl, by decide⟩, by decide, by decide, by decide, by decide⟩

theorem initial_portLaw (p : Port) : PortLaw p (PortRec.initial false) := by
  simp [PortLaw, PortRec.initial]

theorem reset_portLaw : State.reset.portLaw := fun p => by
  have record : State.reset.ports.get p = PortRec.initial false := by cases p <;> rfl
  rw [record]
  exact initial_portLaw p

theorem inStep_nil : InStep [] [] :=
  ⟨.inl List.suffix_rfl, fun i h => absurd h (Nat.not_lt_zero i), fun i h => absurd h (Nat.not_lt_zero i),
    fun i h => absurd h (Nat.not_lt_zero i), fun i h => absurd h (Nat.not_lt_zero i)⟩

theorem reset_modeLaw : ModeLaw State.reset := by
  refine ⟨rfl, rfl, fun p => ?_, rfl, rfl, inStep_nil, fun _ => rfl, fun p _ i => ?_, fun _ l => ?_⟩
  · cases p <;> rfl
  · rw [reset_slots p]
    simp [Slots.initial]
  · simp [State.reset, State.afterReset, LineRec.initial, Engine.isOff]

theorem default_distinct : Params.default.limits.distinct := by
  unfold TableLimits.distinct
  decide

theorem reset_limitsLaw : State.reset.limitsLaw :=
  ⟨⟨rfl, fun h => absurd h (by decide)⟩, fun _ _ h => absurd h (List.cons_ne_nil _ _).symm, default_distinct,
    default_distinct, fun p => by cases p <;> exact Nat.zero_le _, fun x h => absurd h List.not_mem_nil⟩

/-- Settles O5: one law after the other, in a state with nothing in it. -/
theorem lawsHoldAtReset : Obligations.LawsHoldAtReset := by
  unfold Obligations.LawsHoldAtReset
  exact ⟨reset_logLaw, reset_tableLaw, reset_slotsLaw, reset_lineLaw, reset_noticeLaw, reset_controlLaw, reset_portLaw,
    reset_modeLaw, reset_limitsLaw⟩

/-! ## The end of a reset (R140, R142) -/

theorem restarted_pinsKept (s : State) (q : Params) (kind : ResetKind) : PinsKept s (s.restarted q kind) :=
  ⟨rfl, rfl, rfl, rfl, rfl, fun k => by simp [State.restarted, State.afterReset, Sensor.initial],
    fun p => by simp [State.restarted, State.afterReset, PortRec.initial]⟩

theorem restarted_atResetValues (s : State) (q : Params) (kind : ResetKind) : AtResetValues (s.restarted q kind) :=
  afterReset_atResetValues ..

/-- A port's notices at their reset values. -/
theorem notices_initial {u : State} (h : PortsReset u) (p : Port) : u.notices.get p = NoticeState.initial := by
  obtain ⟨pending, detail, mask, alert⟩ := h.1 p
  rcases x : u.notices.get p with ⟨a, b, c, d⟩
  rw [x] at pending detail mask alert
  dsimp only at pending detail mask alert
  rw [pending, detail, mask, alert]
  rfl

/-- The MODE_CHANGED that ends INIT in SAFE, taken by a port that holds none. -/
theorem take_initial (kind : ResetKind) : NoticeState.initial.take .safe (modeNotice .init .safe kind.reason none) = {
    pendingSet := [(.modeChanged, 1)]
    detail := some { Notice.bare .modeChanged with modes := some (.init, .safe), reason := some kind.reason }
    mask := 0x3FFE#16, alert := true } := by
  have asserted : (decide (Mode.safe ≠ .init) && [(NoticeKind.modeChanged, 1)].any fun k => inMask Config.defaultMask k.1) = true := by
    decide
  unfold NoticeState.take NoticeState.judged
  simp only [NoticeState.initial, modeNotice, Notice.bare, countKind, detailAfter, asserted]
  rfl

/-- At the reset values the cause SAFE_IN ends INIT in SAFE. -/
theorem endInit_safeAtResetEnd (u : State) (kind : ResetKind) (reset : AtResetValues u) (same : u.control.resetKind = kind) :
    SafeAtResetEnd ((u.setControl { u.control with firstCause := some .safeIn }).endInit .safe) kind := by
  obtain ⟨now, position, lines, work, captures, control, ports⟩ := reset
  obtain ⟨mode, first, later, corruption, scrubPos, rounds, visit, armed⟩ := control
  refine ⟨now, position, lines, work, captures, ports.2.1, rfl, rfl,
    ⟨rfl, rfl, later, corruption, scrubPos, rounds, visit, armed⟩, rfl, fun p => ?_, ?_⟩
  · rw [endInit_notices, PerPort.get_map, State.setControl_notices, notices_initial ports p, State.setControl_control]
    dsimp only
    rw [mode, same]
    exact take_initial kind
  · have wires : u.wires = Wires.empty := ports.2.2
    unfold State.endInit State.handChange
    simp only [State.setControl_control, State.setControl_wires, State.setWires_wires, mode, wires]
    rfl

theorem consultSafeIn_low (u : State) (low : u.pinSafeIn = false) : u.consultSafeIn = u := by
  rw [State.consultSafeIn, low]
  rfl

theorem consultSafeIn_high (u : State) (high : u.pinSafeIn = true) (starting : u.control.mode = .init) : u.consultSafeIn =
    (u.setControl { u.control with firstCause := some .safeIn }).endInit .safe := by
  rw [State.consultSafeIn, high]
  exact takeCause_init _ _ _ starting

theorem consultSafeIn_line (u : State) : u.consultSafeIn.line = u.line :=
  consultSafeIn_touches u .line (by decide)

/-- At its end a reset keeps pins and parameters and leaves the reset values, or SAFE where SAFEIN is high. -/
theorem consultSafeIn_resetEnded (s u : State) (kind : ResetKind) (reset : AtResetValues u) (running : u.inReset = none)
    (kept : PinsKept s u) (params : u.control.params = s.control.params) (same : u.control.resetKind = kind)
    (free : u.freeCount = s.freeCount) : ResetEnded s u.consultSafeIn kind := by
  have pin : u.pinSafeIn = s.pinSafeIn := kept.2.2.2.2.1
  cases level : u.pinSafeIn with
  | false =>
    rw [consultSafeIn_low u level]
    exact ⟨running, kept, params, same, free, fun _ => reset, fun high => absurd (pin.trans high) (by simp [level])⟩
  | true =>
    rw [consultSafeIn_high u level reset.2.2.2.2.2.1.1]
    exact ⟨running, kept, params, same, free, fun low => absurd (pin.trans low) (by simp [level]),
      fun _ => endInit_safeAtResetEnd u kind reset same⟩

/-! ## Hard resets (O6) -/

theorem restarted_engine (s : State) (q : Params) (kind : ResetKind) (l : LineNo) :
    ((s.restarted q kind).line[l]).engine = .off none := afterReset_engine ..

theorem startReset_held (s : State) (kind : ResetKind) : HeldInReset s (s.startReset kind) kind := by
  refine ⟨rfl, restarted_atResetValues s Params.default kind, rfl, rfl, restarted_pinsKept s Params.default kind, rfl,
    fun l => ⟨restarted_engine s Params.default kind l, rfl⟩, rfl, fun p => ?_⟩
  cases p <;> rfl

/-- Settles O6: a hard reset restarts every block, and its end consults SAFEIN. -/
theorem hardResetsClearThePart : Obligations.HardResetsClearThePart := by
  unfold Obligations.HardResetsClearThePart
  refine fun s => ⟨⟨_, rfl, startReset_held s .power⟩, ⟨_, rfl, startReset_held s .pin⟩, fun running => ?_, fun k held => ?_⟩
  · simp [exec, execResetEnd, running]
  · refine ⟨(s.restarted s.control.params k).consultSafeIn, by simp [exec, execResetEnd, held],
      consultSafeIn_resetEnded s _ k (restarted_atResetValues s _ k) rfl (restarted_pinsKept s _ k) rfl rfl rfl, fun l => ?_⟩
    rw [consultSafeIn_line]
    exact restarted_engine s _ k l

/-! ## The soft reset (O7) -/

/-- Other line records in place of those of the state. -/
def State.withLines (s : State) (v : Vector LineRec 32) : State := { s with line := v }

theorem withLines_atResetValues {u : State} {v : Vector LineRec 32} (reset : AtResetValues u)
    (records : LinesReset (u.withLines v)) : AtResetValues (u.withLines v) := by
  obtain ⟨now, position, -, work, captures, control, ports⟩ := reset
  exact ⟨now, position, records, work, captures, control, ports⟩

theorem withLines_pinsKept {s u : State} (v : Vector LineRec 32) (kept : PinsKept s u) : PinsKept s (u.withLines v) := kept

/-- The line records that a soft reset leaves: at their reset values, with the guards of engines that were at work. -/
def State.softLines (s : State) : Vector LineRec 32 := Vector.ofFn fun l =>
  { (s.restarted s.control.params .soft).line[l] with
    engine := (s.line[l]).engine.afterSoftReset s.control.params.rest[l] }

theorem softReset_consults (s : State) :
    s.softReset = ((s.restarted s.control.params .soft).withLines s.softLines).consultSafeIn := softReset_eq s

theorem softLines_get (s : State) (l : LineNo) : s.softLines[l] = { (s.restarted s.control.params .soft).line[l] with
    engine := (s.line[l]).engine.afterSoftReset s.control.params.rest[l] } := by
  simp [State.softLines]

theorem guardFrom_zero (rest : Nat) :
    guardFrom 0 rest = if rest = 0 then none else some { fall := 0, endAt := micros rest } := by
  simp [guardFrom, micros]

theorem afterSoftReset_off (rest : Nat) (e : Engine) : ∃ g, e.afterSoftReset rest = .off g := by
  rcases e with (_ | g) | _ | _ | _ <;> exact ⟨_, rfl⟩

theorem afterSoftReset_guard (rest : Nat) (e : Engine) (busy : e ≠ .off none) :
    e.afterSoftReset rest = .off (guardFrom 0 rest) := by
  rw [guardFrom_zero]
  rcases e with (_ | g) | _ | _ | _
  · exact absurd rfl busy
  all_goals rfl

/-- Line records at their reset values but for guards are at their reset values. -/
theorem withLines_linesReset {u : State} {v : Vector LineRec 32} (reset : LinesReset u)
    (guards : ∀ l : LineNo, ∃ g, v[l] = { u.line[l] with engine := .off g }) : LinesReset (u.withLines v) := by
  obtain ⟨records, block⟩ := reset
  refine ⟨fun l => ?_, block⟩
  obtain ⟨mode, shares, force, fault, mismatch, history, count, settle, code, -, rest, readback⟩ := records l
  obtain ⟨g, record⟩ := guards l
  have line : (u.withLines v).line[l] = { u.line[l] with engine := .off g } := record
  rw [line]
  exact ⟨mode, shares, force, fault, mismatch, history, count, settle, code, ⟨g, rfl⟩, rest, readback⟩

theorem softLines_reset (s : State) : LinesReset ((s.restarted s.control.params .soft).withLines s.softLines) := by
  obtain ⟨-, -, lines, -⟩ := restarted_atResetValues s s.control.params .soft
  refine withLines_linesReset lines fun l => ?_
  obtain ⟨g, off⟩ := afterSoftReset_off s.control.params.rest[l] (s.line[l]).engine
  exact ⟨g, by rw [softLines_get, off]⟩

/-- A soft reset ends as it has started, with the parameters and the guards it leaves. -/
theorem softReset_softlyReset (s : State) : SoftlyReset s s.softReset := by
  have line : ∀ l : LineNo, s.softReset.line[l] = s.softLines[l] := fun l => by
    rw [softReset_consults, consultSafeIn_line]
    rfl
  refine ⟨?_, fun l off => ?_, fun l busy => ?_⟩
  · rw [softReset_consults]
    exact consultSafeIn_resetEnded s _ .soft
      (withLines_atResetValues (restarted_atResetValues s s.control.params .soft) (softLines_reset s)) rfl
      (withLines_pinsKept _ (restarted_pinsKept s s.control.params .soft)) rfl rfl rfl
  · rw [line, softLines_get, off]
    rfl
  · rw [line, softLines_get]
    exact afterSoftReset_guard _ _ busy

/-- Of a port a soft reset reads the level of its select alone. -/
theorem softReset_setPort (s : State) (p : Port) (x y : PortRec) (same : x.selected = y.selected) :
    (s.setPort p x).softReset = (s.setPort p y).softReset := by
  have pins : (s.ports.set p x).map PortRec.selected = (s.ports.set p y).map PortRec.selected :=
    PerPort.ext_get _ _ fun q => by
      rw [PerPort.get_map, PerPort.get_map, PerPort.get_set, PerPort.get_set]
      split
      · exact same
      · rfl
  have restarted : (s.setPort p x).restarted s.control.params .soft = (s.setPort p y).restarted s.control.params .soft := by
    unfold State.restarted State.setPort
    rw [pins]
  have lines : (s.setPort p x).softLines = (s.setPort p y).softLines := by
    have unfolded : ∀ z, (s.setPort p z).softLines = Vector.ofFn fun l =>
        { ((s.setPort p z).restarted s.control.params .soft).line[l] with
          engine := (s.line[l]).engine.afterSoftReset s.control.params.rest[l] } := fun _ => rfl
    rw [unfolded, unfolded, restarted]
  have consults : ∀ z, (s.setPort p z).softReset = (((s.setPort p z).restarted s.control.params .soft).withLines
      (s.setPort p z).softLines).consultSafeIn := fun z => softReset_consults (s.setPort p z)
  rw [consults, consults, restarted, lines]

theorem released_selected (r : PortRec) : r.released.selected = false := by
  unfold PortRec.released PortRec.refusedClosed PortRec.closed
  split
  · dsimp only
    split <;> rfl
  · dsimp only
    split <;> rfl

/-- Settles O7: the request waits for the release, after a cut it resets at once, and the release resets. -/
theorem resetDeviceWaitsForTheRelease : Obligations.ResetDeviceWaitsForTheRelease := by
  unfold Obligations.ResetDeviceWaitsForTheRelease
  refine fun s => ⟨fun w waits bad => ?_, fun w waits bare whole => ?_, fun w waits bare cut => ?_,
    fun selected armed running => ?_⟩
  · simp [exec, execResetDevice, request_of_waits waits, bad, State.setPhase, State.answer]
  · simp [exec, execResetDevice, request_of_waits waits, bare, whole, State.setPhase, State.answer, State.setControl]
  · refine ⟨s.softReset, ?_, softReset_softlyReset s⟩
    simp [exec, execResetDevice, request_of_waits waits, bare, cut]
  · refine ⟨(s.setPort .A { s.ports.get .A with selected := false }).softReset, ?_, softReset_softlyReset _⟩
    have released := softReset_setPort s .A (s.ports.get .A).released { s.ports.get .A with selected := false }
      (released_selected _)
    rw [← released]
    simp [exec, execSelectRelease, selected, armed, running, PortRec.released]

end Sys2Proof.Machine

/-! PROOFS. Mode changes taken at the blocks and the writes taken there: the close of an event at the Line Block, the limits of
the Timetable, the oldest write of a parameter (O11, O12, O13, O16). -/

namespace Sys2Proof.Machine

/-! ## The close of an event at the Line Block (R36, R99) -/

theorem settleMode_iff (m : Mode) : settleMode m = true ↔ m = .config ∨ m = .run := by cases m <;> simp [settleMode]

/-- A pending settle check makes no difference to the driven level. -/
theorem closedLine_driven (m : Mode) (before after : State) (l : LineNo) :
    LineRec.driven m (closedLine before after l) = LineRec.driven m after.line[l] := by
  unfold closedLine
  dsimp only
  split <;> rfl

theorem closeLines_get (before after : State) (l : LineNo) : (closeLines before after).line[l] = closedLine before after l := by
  simp [closeLines]

theorem closeLines_driven (before after : State) (l : LineNo) : (closeLines before after).driven l = after.driven l := by
  unfold State.driven
  rw [closeLines_get]
  exact closedLine_driven _ _ _ _

/-- At its close an event changes the settle check alone, by the rule of R36. -/
theorem closeLines_line (before after : State) (l : LineNo) (now : after.now = before.now)
    (params : after.control.params = before.control.params) (readback : (after.line[l]).readback = (before.line[l]).readback) :
    (closeLines before after).line[l]
      = { after.line[l] with settle := settleAfter before (closeLines before after) l (after.line[l]).settle } := by
  have same : (before.driven l ≠ after.driven l ∧ (after.line[l]).readback = true ∧ settleMode after.lineBlock.mode = true)
      ↔ (before.driven l ≠ (closeLines before after).driven l ∧ (before.line[l]).readback = true
        ∧ ((closeLines before after).lineBlock.mode = .config ∨ (closeLines before after).lineBlock.mode = .run)) := by
    rw [closeLines_driven, readback, settleMode_iff]
    rfl
  rw [closeLines_get]
  unfold closedLine settleAfter
  by_cases starts : before.driven l ≠ after.driven l ∧ (after.line[l]).readback = true ∧ settleMode after.lineBlock.mode = true
  · rw [if_pos (same.mp starts), ← now, ← params]
    exact if_pos starts
  · rw [if_neg fun h => starts (same.mpr h)]
    exact if_neg starts

/-! ## The Timetable's limits (R149, log 41) -/

theorem takeLimits_fields (s : State) : s.takeLimits = { s with
    table := { s.table with limits := s.takeLimits.table.limits }
    wires := { s.wires with toTimetable := s.takeLimits.wires.toTimetable } } := rfl

/-- The writes of the limits at the front are taken, the last of them in force. -/
theorem takeLimits_limitsTaken (s t : State) (same : t.table.limits = s.table.limits) :
    LimitsTaken s t.takeLimits t.wires.toTimetable := by
  intro vs tail queue last
  have lead := leadingLimits_writes vs t.table.limits tail last
  rw [← queue] at lead
  unfold State.takeLimits
  dsimp only
  rw [lead, same]
  exact ⟨rfl, rfl⟩

/-! ## Teardowns (O11) -/

theorem teardown_iff (c : ModeChange) : c.teardown = true ↔ c.new = .safe ∨ (c.old = .run ∧ c.new = .config) := by
  simp [ModeChange.teardown]

/-- What a port that owned live entries is told as the Timetable is emptied (R67). -/
def abandonTold (live : List Entry) (p : Port) : List PostedNotice :=
  if ownedBy live p = 0 then [] else [{ source := .timetable, own := false, notice :=
    { Notice.bare .entryAbandoned with count := some (ownedBy live p) } }]

theorem abandon_frame (s : State) (p : Port) : OnlyNotices s (s.abandon p) := by
  unfold State.abandon
  split
  · rfl
  · rfl

theorem abandon_notices (s : State) (p q : Port) : (s.abandon p).wires.notices.get q
    = s.wires.notices.get q ++ if q = p then abandonTold s.table.live p else [] := by
  unfold State.abandon abandonTold
  split
  · simp
  · rw [notify_notices]
    split
    · next same => rw [same]
    · rw [List.append_nil]

theorem abandon_table (s : State) (p : Port) : (s.abandon p).table = s.table := by rw [abandon_frame s p]

/-- An emptied Timetable: nothing lives, and every owner has been told. -/
theorem emptyTable_eq (s : State) : ∃ v : PerPort (List PostedNotice),
    s.emptyTable = { s with
      table := { s.table with live := [], liveCount := PerPort.const 0 }, wires := { s.wires with notices := v } }
    ∧ ∀ p, v.get p = s.wires.notices.get p ++ abandonTold s.table.live p := by
  have told : OnlyNotices s (Port.all.foldl State.abandon s) := foldl_keeps OnlyNotices State.abandon (fun _ => rfl)
    (fun s t u h k => by unfold OnlyNotices at *; rw [k, h]) abandon_frame _ _
  refine ⟨(Port.all.foldl State.abandon s).wires.notices, ?_, fun p => ?_⟩
  · unfold State.emptyTable OnlyNotices at *
    dsimp only
    generalize Port.all.foldl State.abandon s = t at told ⊢
    generalize t.wires.notices = v at told ⊢
    rw [told]
    rfl
  · simp only [Port.all, List.foldl_cons, List.foldl_nil, abandon_notices, abandon_table]
    cases p <;> simp

/-- The first change that is not ready becomes ready. -/
theorem releaseChange_first (pre post : List BlockMessage) (d : ModeChange) (waits : d.ready = false)
    (ready : ∀ x, .change x ∈ pre → x.ready = true) :
    releaseChange (pre ++ .change d :: post) = pre ++ .change { d with ready := true } :: post := by
  induction pre with
  | nil => simp [releaseChange, waits]
  | cons m pre ih =>
    have rest := ih fun x h => ready x (List.mem_cons_of_mem _ h)
    cases m with
    | change x => simp [releaseChange, ready x (List.mem_cons_self ..), rest]
    | write w => simp [releaseChange, rest]

/-- The Timetable in a mode taken from the Mode Controller. -/
def State.inTableMode (s : State) (m : Mode) : State := s.setTable { s.table with mode := m }

/-- The Timetable with a teardown taken, its writes of the limits not yet. -/
def State.tornDown (s : State) (c : ModeChange) (rest : List BlockMessage) : State :=
  (s.setWires { s.wires with
    toTimetable := rest, toLines := releaseChange s.wires.toLines, overrunAsks := countAsks s.wires.overrunAsks }).emptyTable.inTableMode
      c.new

theorem exec_timetableEmptying (s : State) (c : ModeChange) (rest : List BlockMessage) (running : s.inReset = none)
    (queue : s.wires.toTimetable = .change c :: rest) (torn : c.teardown = true) :
    exec .timetableEmptying s = .next (s.tornDown c rest).takeLimits := by
  simp only [exec, execTimetableEmptying, whenRunning_running _ s running, queue,
    takeChange_head ModeChange.teardown c rest torn]
  have taken : ∀ t : State, (Host.Outcome.next (t.setTable { t.table with mode := c.new }).takeLimits : Result)
      = .next (t.inTableMode c.new).takeLimits := fun _ => rfl
  exact taken _

theorem tornDown_eq (s : State) (c : ModeChange) (rest : List BlockMessage) : ∃ v : PerPort (List PostedNotice),
    s.tornDown c rest = { s with
      table := { s.table with live := [], liveCount := PerPort.const 0, mode := c.new }
      wires := { s.wires with
        toTimetable := rest, toLines := releaseChange s.wires.toLines, overrunAsks := countAsks s.wires.overrunAsks
        notices := v } }
    ∧ ∀ p, v.get p = s.wires.notices.get p ++ abandonTold s.table.live p := by
  obtain ⟨v, emptied, told⟩ := emptyTable_eq (s.setWires { s.wires with
    toTimetable := rest, toLines := releaseChange s.wires.toLines, overrunAsks := countAsks s.wires.overrunAsks })
  refine ⟨v, ?_, told⟩
  unfold State.tornDown
  rw [emptied]
  rfl

theorem templatesSuspension_place (s : State) (n : TemplateNo) :
    (s.templates.place.map fun o => o.map Template.suspended)[n] = (s.templates.place[n]).map fun x =>
      { fields := { x.fields with active := false }, code := { x.fields with active := false } } := by
  simp only [Fin.getElem_fin, Vector.getElem_map]
  rfl

/-- Settles O11: the change at the front of each block's messages is a teardown and is taken there. -/
theorem teardownsEmptyTheTimetableAndTheSlots : Obligations.TeardownsEmptyTheTimetableAndTheSlots := by
  unfold Obligations.TeardownsEmptyTheTimetableAndTheSlots
  refine fun s c rest running => ⟨fun queue torn => ?_, fun p queue torn => ?_, fun queue safe => ?_⟩
  · obtain ⟨v, torn_eq, told⟩ := tornDown_eq s c rest
    have taken := takeLimits_limitsTaken s (s.tornDown c rest) (by rw [torn_eq])
    have queued : (s.tornDown c rest).wires.toTimetable = rest := by rw [torn_eq]
    have frame := takeLimits_fields (s.tornDown c rest)
    have step := exec_timetableEmptying s c rest running queue ((teardown_iff c).mpr torn)
    rw [queued] at taken
    generalize (s.tornDown c rest).takeLimits = t at taken frame step
    rw [torn_eq] at frame
    refine ⟨t, step, ?_, taken, fun p => ?_, fun pre d post lines waits ready => ?_⟩
    · rw [frame]
      rfl
    · rw [frame]
      exact told p
    · rw [frame]
      dsimp only
      rw [lines, releaseChange_first pre post d waits ready]
  · simp only [exec, execSlotsEmptying, whenRunning_running _ s running, queue,
      takeChange_head ModeChange.teardown c rest ((teardown_iff c).mpr torn)]
    rfl
  · let t : State := { s with
      wires := { s.wires with toTemplates := rest }
      templates := { place := s.templates.place.map fun o => o.map Template.suspended, mode := .safe } }
    refine ⟨t, ?_, rfl, fun n => templatesSuspension_place s n⟩
    simp only [exec, execTemplatesSuspension, whenRunning_running _ s running, queue,
      takeChange_head (fun c => decide (c.new = .safe)) c rest (decide_eq_true safe), safe]
    rfl

/-! ## Every engine OFF (O12) -/

theorem setOff_setOff (now : Word32) (rest : Nat) (e : Engine) : SetOff now rest e (e.setOff now rest) := by
  cases e <;> rfl

theorem setOff_level (now : Word32) (rest : Nat) (e : Engine) : (e.setOff now rest).level = false := by
  cases e <;> rfl

/-- The line record as STOP or SAFE entry leaves it. -/
def LineRec.tornDown (new : Mode) (now : Word32) (r : LineRec) : LineRec :=
  if new = .safe then r.safed now else r.stopped now

/-- The Line Block with a teardown taken, its driven levels not yet judged. -/
def State.enginesStopped (s : State) (c : ModeChange) (rest : List BlockMessage) : State := { s with
  wires := { s.wires with toLines := rest }, lineBlock := { s.lineBlock with mode := c.new }
  line := s.line.map (LineRec.tornDown c.new s.now) }

theorem exec_enginesOff (s : State) (c : ModeChange) (rest : List BlockMessage) (running : s.inReset = none)
    (queue : s.wires.toLines = .change c :: rest) (ready : c.ready = true) (torn : c.teardown = true) :
    exec .enginesOff s = .next (closeLines s (s.enginesStopped c rest)) := by
  have taken := takeChange_head (fun c => c.teardown && c.ready) c rest (by simp [torn, ready])
  simp only [exec, execEnginesOff, whenRunning_running _ s running, queue, taken]
  have records : s.line.map (if c.new = .safe then LineRec.safed s.now else LineRec.stopped s.now)
      = s.line.map (LineRec.tornDown c.new s.now) := by
    congr 1
    funext r
    unfold LineRec.tornDown
    split <;> rfl
  unfold State.enginesStopped
  rw [← records]
  rfl

theorem enginesStopped_get (s : State) (c : ModeChange) (rest : List BlockMessage) (l : LineNo) :
    (s.enginesStopped c rest).line[l] = (s.line[l]).tornDown c.new s.now := by
  simp [State.enginesStopped]

theorem tornDown_readback (new : Mode) (now : Word32) (r : LineRec) : (r.tornDown new now).readback = r.readback := by
  unfold LineRec.tornDown
  split <;> rfl

theorem tornDown_engine (new : Mode) (now : Word32) (r : LineRec) :
    (r.tornDown new now).engine = r.engine.setOff now r.rest := by
  unfold LineRec.tornDown
  split <;> rfl

/-- Settles O12: the teardown is taken with every record as R97 and R42 leave it, and the event closes. -/
theorem teardownsSetEveryEngineOff : Obligations.TeardownsSetEveryEngineOff := by
  unfold Obligations.TeardownsSetEveryEngineOff
  intro s c rest running queue ready torn
  have closed : ∀ l : LineNo, (closeLines s (s.enginesStopped c rest)).line[l] = _ := fun l =>
    closeLines_line s (s.enginesStopped c rest) l rfl rfl (by rw [enginesStopped_get, tornDown_readback])
  refine ⟨_, exec_enginesOff s c rest running queue ready ((teardown_iff c).mpr torn), rfl, fun l => ?_, fun stop l => ?_,
    fun safe l => ?_⟩
  · rw [closed, enginesStopped_get]
    dsimp only
    rw [tornDown_engine]
    exact setOff_setOff _ _ _
  · rw [closed, enginesStopped_get, LineRec.tornDown, if_neg (by simp [stop])]
    rfl
  · have silent : (closeLines s (s.enginesStopped c rest)).driven l = false := by
      rw [closeLines_driven]
      unfold State.driven LineRec.driven
      exact if_pos safe
    have unsettled : ∀ k, settleAfter s (closeLines s (s.enginesStopped c rest)) l k = k := fun k => by
      unfold settleAfter
      have mode : (closeLines s (s.enginesStopped c rest)).lineBlock.mode = .safe := safe
      rw [mode, if_neg]
      rintro ⟨-, -, h⟩
      rcases h with h | h <;> cases h
    refine ⟨silent, ?_⟩
    rw [closed, enginesStopped_get, LineRec.tornDown, if_pos safe, unsettled]
    rfl

/-! ## Other mode changes (O13) -/

theorem presetWaits_iff (q : List MotionEvent) : presetWaits q = true ↔ ∃ v, .preset v ∈ q := by
  induction q with
  | nil => simp [presetWaits]
  | cons e q ih =>
    have unfolded : presetWaits (e :: q) = ((match e with | .preset _ => true | .step _ _ _ => false) || presetWaits q) := rfl
    rw [unfolded, Bool.or_eq_true, ih]
    cases e <;> simp

/-- The Timetable may take a change into RUN exactly as `RunMayBeTaken` says, behind the Line Block. -/
theorem mayRun_iff (s : State) : s.timetableMayRun = true ↔
    RunMayBeTaken s ∧ changesWaiting s.wires.toLines < changesWaiting s.wires.toTimetable := by
  rw [timetableMayRun_iff, stepHeld_iff]
  unfold RunMayBeTaken StepWaits
  have presets : presetWaits s.wires.timetableMotion = false ↔ ∀ v, .preset v ∉ s.wires.timetableMotion := by
    rw [← Bool.not_eq_true, presetWaits_iff, not_exists]
  rw [presets]

theorem teardown_eq_false {c : ModeChange} (noSafe : c.new ≠ .safe) (noStop : ¬(c.old = .run ∧ c.new = .config)) :
    c.teardown = false := by
  rw [← Bool.not_eq_true, teardown_iff]
  exact fun h => h.elim noSafe noStop

/-- What a block makes of a change other than those of the teardowns. -/
def State.changeAt (s : State) : ChangeBlock → State
  | .timetable => s.changeAtTimetable
  | .slots p => s.changeAtSlots p
  | .templates => s.changeAtTemplates
  | .log => s.changeAtLog
  | .lines => s.changeAtLines

theorem exec_changeTaken (s : State) (b : ChangeBlock) (running : s.inReset = none) :
    exec (.modeChangeTakenAtBlock b) s = .next (s.changeAt b) := by
  simp only [exec, execModeChangeTakenAtBlock, whenRunning_running _ s running]
  cases b <;> rfl

/-- A change that does not meet the test stays. -/
theorem takeChange_waits (test : ModeChange → Bool) (c : ModeChange) (post : List BlockMessage) (h : test c = false) :
    takeChange test (.change c :: post) = none := by
  simp [takeChange, h]

/-- Settles O13: the change at the front of each block's messages, taken or, into RUN, left to wait. -/
theorem otherModeChangesAreTakenAtEachBlock : Obligations.OtherModeChangesAreTakenAtEachBlock := by
  unfold Obligations.OtherModeChangesAreTakenAtEachBlock
  refine fun s c rest running => ⟨fun queue noSafe noStop mayRun => ?_, fun queue run waits => ?_,
    fun p queue run preset => ?_, fun p queue noSafe noStop mayRun => ?_, fun queue noSafe => ?_, fun queue => ?_,
    fun queue noSafe noStop => ?_⟩
  · have test : (!c.teardown && (decide (c.new ≠ .run) || s.timetableMayRun)) = true := by
      rw [teardown_eq_false noSafe noStop]
      by_cases run : c.new = .run
      · simp [(mayRun_iff s).mpr (mayRun run)]
      · simp [run]
    let t : State := (s.setWires { s.wires with toTimetable := rest, overrunAsks := countAsks s.wires.overrunAsks }).setTable
      { s.table with mode := c.new }
    refine ⟨t.takeLimits, ?_, rfl, takeLimits_limitsTaken s t rfl⟩
    rw [exec_changeTaken s _ running]
    simp only [State.changeAt, State.changeAtTimetable, queue, takeChange_head (fun c =>
      !c.teardown && (decide (c.new ≠ .run) || s.timetableMayRun))
      c rest test]
    rfl
  · have test : (!c.teardown && (decide (c.new ≠ .run) || s.timetableMayRun)) = false := by
      have shut : s.timetableMayRun = false := by
        rw [← Bool.not_eq_true, mayRun_iff]
        rintro ⟨may, ahead⟩
        exact waits.elim (fun h => h may) (fun h => absurd ahead (Nat.not_lt.mpr h))
      simp [run, shut]
    rw [exec_changeTaken s _ running]
    simp only [State.changeAt, State.changeAtTimetable, queue, takeChange_waits (fun c =>
      !c.teardown && (decide (c.new ≠ .run) || s.timetableMayRun))
      c rest test]
  · have test : (!c.teardown && (decide (c.new ≠ .run) || !presetWaits (s.wires.slotsMotion.get p))) = false := by
      simp [run, (presetWaits_iff _).mpr preset]
    rw [exec_changeTaken s _ running]
    simp only [State.changeAt, State.changeAtSlots, queue, takeChange_waits (fun c => !c.teardown && (decide (c.new ≠ .run)
      || !presetWaits (s.wires.slotsMotion.get p))) c rest test]
  · have test : (!c.teardown && (decide (c.new ≠ .run) || !presetWaits (s.wires.slotsMotion.get p))) = true := by
      rw [teardown_eq_false noSafe noStop]
      by_cases run : c.new = .run
      · have none_waits : presetWaits (s.wires.slotsMotion.get p) = false := by
          rw [← Bool.not_eq_true, presetWaits_iff, not_exists]
          exact mayRun run
        simp [none_waits]
      · simp [run]
    rw [exec_changeTaken s _ running]
    simp only [State.changeAt, State.changeAtSlots, queue, takeChange_head (fun c => !c.teardown && (decide (c.new ≠ .run)
      || !presetWaits (s.wires.slotsMotion.get p))) c rest test]
    rfl
  · rw [exec_changeTaken s _ running]
    simp only [State.changeAt, State.changeAtTemplates, queue, takeChange_head (fun c => decide (c.new ≠ .safe)) c rest
      (decide_eq_true noSafe)]
    rfl
  · rw [exec_changeTaken s _ running]
    simp only [State.changeAt, State.changeAtLog, queue, takeChange_head (fun _ => true) c rest rfl]
    rfl
  · let t : State := (s.setWires { s.wires with toLines := rest }).setLineBlock { s.lineBlock with mode := c.new }
    refine ⟨closeLines s t, ?_, rfl, fun l => closeLines_line s t l rfl rfl rfl⟩
    rw [exec_changeTaken s _ running]
    simp only [State.changeAt, State.changeAtLines, queue, takeChange_head (fun c => !c.teardown) c rest
      (by simp [teardown_eq_false noSafe noStop])]
    rfl

end Sys2Proof.Machine

/-! PROOFS. The writes taken at the blocks, the timers and inputs of the Position Unit, presets and steps (O15, O16, O17). -/

namespace Sys2Proof.Machine

/-! ## The oldest write of a parameter (log 4, log 32) -/

/-- The write that a block takes is the oldest of its parameter. -/
theorem takeWrite_oldest {α : Type} {w : α → ParamWrite} {f : ParamWrite → Option α} (accepts : ∀ x v, f x = some v ↔ x = w v)
    {v : α} {q r : List BlockMessage} (h : OldestWrite w v q r) : takeWrite f q = some (v, r) := by
  obtain ⟨pre, post, queue, rest, oldest⟩ := h
  refine (takeWrite_iff f v q r).mpr ⟨pre, w v, post, queue, rest, (accepts _ _).mpr rfl, fun x mem => ?_⟩
  cases accepted : f x with
  | none => rfl
  | some u =>
    rw [(accepts x u).mp accepted] at mem
    exact absurd mem (oldest u)

theorem takeWrite_noOldest {α : Type} {w : α → ParamWrite} {f : ParamWrite → Option α} (accepts : ∀ x v, f x = some v ↔ x = w v)
    {q : List BlockMessage} (h : ∀ v r, ¬OldestWrite w v q r) : takeWrite f q = none := by
  cases taken : takeWrite f q with
  | none => rfl
  | some u =>
    obtain ⟨pre, x, post, queue, rest, accepted, oldest⟩ := (takeWrite_iff f u.1 q u.2).mp taken
    refine absurd ⟨pre, post, ?_, rest, fun y mem => ?_⟩ (h u.1 u.2)
    · rw [queue, (accepts x u.1).mp accepted]
    · have := oldest _ mem
      rw [(accepts _ y).mpr rfl] at this
      exact absurd this (by simp)

/-! ## The stall timer (R13, R15) -/

theorem afterStall_eq (m : MotionState) : m.afterStall = if m = .overrun then .overrun else .stalled := by
  cases m <;> rfl

theorem motionReason_afterStall (m : MotionState) : (motionReason m m.afterStall).toList.map (fun r => motionPosted r.code)
    = if m = .forward ∨ m = .reverse then [motionPosted 0] else [] := by
  cases m <;> rfl

theorem stallExpiry_taken (s : State) : StallTaken s s.stallExpiry := by
  refine ⟨?_, fun p => ?_⟩
  · have frame := notifyMotion_onlyNotices (s.setPosition { s.position with
      motion := s.position.motion.afterStall, stallStart := none }) (motionReason s.position.motion s.position.motion.afterStall)
    unfold OnlyNotices at frame
    change s.stallExpiry = _ at frame
    rw [frame, afterStall_eq]
    rfl
  · have posted := notifyMotion_notices (s.setPosition { s.position with
      motion := s.position.motion.afterStall, stallStart := none })
      (motionReason s.position.motion s.position.motion.afterStall) p
    rw [motionReason_afterStall] at posted
    exact posted

theorem stallDue_of_elapsed (s : State) (t : Word32) (start : s.position.stallStart = some t) :
    s.stallDue = decide (s.position.stallTime * 1000 ≤ (s.now - t).toNat) := by
  unfold State.stallDue timerRunDue
  rw [start]
  rfl

theorem stallDue_of_stopped (s : State) (stopped : s.position.stallStart = none) : s.stallDue = false := by
  unfold State.stallDue timerRunDue
  rw [stopped]

/-! ## Writes (O16) -/

/-- An engine's guard after a write of REST, by its state (R96, log 32). -/
theorem retimed_cases (now : Word32) (v : Nat) (e : Engine) :
    ((∀ g, e ≠ .off (some g)) → (∀ f rt q, e ≠ .resting f rt q) → e.retimed now v = e)
    ∧ (∀ g, e = .off (some g) → (now - g.fall).toNat < v →
        e.retimed now v = .off (some { g with endAt := g.fall + BitVec.ofNat 32 v }))
    ∧ (∀ g, e = .off (some g) → v ≤ (now - g.fall).toNat → e.retimed now v = .off none)
    ∧ (∀ f rt q, e = .resting f rt q → (now - f).toNat < v →
        e.retimed now v = .resting f (f + BitVec.ofNat 32 v) q)
    ∧ (∀ f rt q, e = .resting f rt q → v ≤ (now - f).toNat → e.retimed now v = .resting f now q) := by
  refine ⟨fun unguarded rests => ?_, fun g h early => ?_, fun g h late => ?_, fun f rt q h early => ?_, fun f rt q h late => ?_⟩
  · rcases e with (_ | g) | _ | _ | ⟨f, rt, q⟩
    · rfl
    · exact absurd rfl (unguarded g)
    · rfl
    · rfl
    · exact absurd rfl (rests f rt q)
  · rw [h]
    exact if_neg (Nat.not_le.mpr early)
  · rw [h]
    exact if_pos late
  · rw [h]
    exact congrArg (Engine.resting f · q) (if_neg (Nat.not_le.mpr early))
  · rw [h]
    exact congrArg (Engine.resting f · q) (if_pos late)

/-- A write of STALL_TIME, whose expiry may already be due. -/
theorem writeStallTime_taken (r : State) (v : Nat) (time : r.position.stallTime = v) :
    ((∀ t0, r.position.stallStart = some t0 → (r.now - t0).toNat < v * 1000) → (if r.stallDue then r.stallExpiry else r) = r)
    ∧ (∀ t0, r.position.stallStart = some t0 → v * 1000 ≤ (r.now - t0).toNat →
        StallTaken r (if r.stallDue then r.stallExpiry else r)) := by
  refine ⟨fun early => ?_, fun t0 start late => ?_⟩
  · cases start : r.position.stallStart with
    | none => rw [stallDue_of_stopped r start]; rfl
    | some t0 =>
      rw [stallDue_of_elapsed r t0 start, time, decide_eq_false (Nat.not_le.mpr (early t0 start))]
      rfl
  · rw [stallDue_of_elapsed r t0 start, time, decide_eq_true late]
    exact stallExpiry_taken r

/-- Settles O16: each command takes the oldest write of its parameter, or nothing. -/
theorem parameterWritesAreTakenAtTheirBlocks : Obligations.ParameterWritesAreTakenAtTheirBlocks := by
  unfold Obligations.ParameterWritesAreTakenAtTheirBlocks
  intro s running
  refine ⟨fun v q old => ?_, fun no => ?_, fun v q old => ?_, fun no => ?_, fun v q old => ?_, fun no => ?_, fun v q old => ?_,
    fun no => ?_, fun v q old => ?_, fun no => ?_, fun l v q old => ?_, fun l no => ?_, fun l v q old => ?_, fun l no => ?_⟩
  · simp only [exec, execWriteMotionSource, whenRunning_running _ s running]
    rw [takeWrite_oldest (h := old)]
    · rfl
    · intro x v; cases x <;> simp
  · simp only [exec, execWriteMotionSource, whenRunning_running _ s running]
    rw [takeWrite_noOldest (h := no)]
    intro x v; cases x <;> simp
  · simp only [exec, execWriteInternalRate, whenRunning_running _ s running]
    rw [takeWrite_oldest (h := old)]
    · rfl
    · intro x v; cases x <;> simp
  · simp only [exec, execWriteInternalRate, whenRunning_running _ s running]
    rw [takeWrite_noOldest (h := no)]
    intro x v; cases x <;> simp
  · let r : State := { s with position := { s.position with stallTime := v }, wires := { s.wires with toPosition := q } }
    refine ⟨r, if r.stallDue then r.stallExpiry else r, ?_, rfl, writeStallTime_taken r v rfl⟩
    simp only [exec, execWriteStallTime, whenRunning_running _ s running]
    rw [takeWrite_oldest (h := old)]
    · rfl
    · intro x v; cases x <;> simp
  · simp only [exec, execWriteStallTime, whenRunning_running _ s running]
    rw [takeWrite_noOldest (h := no)]
    intro x v; cases x <;> simp
  · simp only [exec, execWriteSpeedWindow, whenRunning_running _ s running]
    rw [takeWrite_oldest (h := old)]
    · rfl
    · intro x v; cases x <;> simp
  · simp only [exec, execWriteSpeedWindow, whenRunning_running _ s running]
    rw [takeWrite_noOldest (h := no)]
    intro x v; cases x <;> simp
  · simp only [exec, execWriteHistoryPeriod, whenRunning_running _ s running]
    rw [takeWrite_oldest (h := old)]
    · rfl
    · intro x v; cases x <;> simp
  · simp only [exec, execWriteHistoryPeriod, whenRunning_running _ s running]
    rw [takeWrite_noOldest (h := no)]
    intro x v; cases x <;> simp
  · refine ⟨(s.line[l]).engine.retimed s.now v, ?_, retimed_cases s.now v (s.line[l]).engine⟩
    simp only [exec, execWriteRest, whenRunning_running _ s running]
    rw [takeWrite_oldest (h := old)]
    · rfl
    · intro x v; cases x <;> simp
  · simp only [exec, execWriteRest, whenRunning_running _ s running]
    rw [takeWrite_noOldest (h := no)]
    intro x v; cases x <;> simp
  · simp only [exec, execWriteReadback, whenRunning_running _ s running]
    rw [takeWrite_oldest (h := old)]
    · rfl
    · intro x v; cases x <;> simp
  · simp only [exec, execWriteReadback, whenRunning_running _ s running]
    rw [takeWrite_noOldest (h := no)]
    intro x v; cases x <;> simp

/-! ## Inputs and timers of the Position Unit (O15) -/

/-- New levels of MOTA and MOTB, not yet observed. -/
def State.onPins (s : State) (a b : Bool) : State := { s with pinA := a, pinB := b }

theorem exec_motionInputChange (s : State) (a b : Bool) (running : s.inReset = none) :
    exec (.motionInputChange a b) s = .next ((s.onPins a b).decode a b) := by
  simp [exec, execMotionInputChange, State.motionPins, State.onPins, running]

theorem decode_stepDir (s : State) (a b : Bool) (source : s.position.source = .stepDir) : s.decode a b =
    if a && !s.position.refA then (s.setPosition { s.position with refA := a, refB := b }).stepEvent b
    else s.setPosition { s.position with refA := a, refB := b } := by
  unfold State.decode
  rw [source]

theorem decode_internal (s : State) (a b : Bool) (source : s.position.source = .internal) : s.decode a b = s := by
  unfold State.decode
  rw [source]

theorem timerRunDue_some (now t : Word32) (start : Option Word32) (n : Nat) (runs : start = some t) :
    timerRunDue now start n = decide (n ≤ (now - t).toNat) := by
  rw [runs]
  rfl

/-- A timer that is stopped or still runs is not due. -/
theorem timerRunDue_false (now : Word32) (start : Option Word32) (n : Nat)
    (waits : start = none ∨ ∃ t, start = some t ∧ (now - t).toNat < n) : timerRunDue now start n = false := by
  rcases waits with stopped | ⟨t, runs, early⟩
  · rw [stopped]
    rfl
  · rw [timerRunDue_some now t start n runs, decide_eq_false (Nat.not_le.mpr early)]

theorem clampSpeed_eq (z : Int) : clampSpeed z = if 32767 < z then 32767 else if z < -32767 then -32767 else z := by
  unfold clampSpeed speedLimit
  split
  · omega
  · split <;> omega

theorem exec_internalRateExpiry (s : State) (running : s.inReset = none) : exec .internalRateExpiry s = .next
    (if timerRunDue s.now s.position.rateStart s.position.rate then
      (s.setPosition { s.position with rateStart := some s.now }).stepEvent true else s) := whenRunning_running _ s running

theorem exec_stallTimerExpiry (s : State) (running : s.inReset = none) :
    exec .stallTimerExpiry s = .next (if s.stallDue then s.stallExpiry else s) := by
  simp only [exec, execStallTimerExpiry, whenRunning_running _ s running]

theorem exec_speedWindowExpiry (s : State) (running : s.inReset = none) : exec .speedWindowExpiry s = .next
    (if timerDue s.now s.position.windowStart (s.position.window * Config.usPerMs) then
      s.setPosition { s.position with speed := clampSpeed s.position.acc, acc := 0, windowStart := s.now } else s) := by
  simp only [exec, execSpeedWindowExpiry, whenRunning_running _ s running]

/-- Settles O15: the decoder by the source, and each timer by whether it is due. -/
theorem stepInputsAndTimersOfThePositionUnit : Obligations.StepInputsAndTimersOfThePositionUnit := by
  unfold Obligations.StepInputsAndTimersOfThePositionUnit
  refine fun s a b running => ⟨rfl, fun source level => ?_, fun source low rises => ?_, fun source => ?_, fun t0 runs late => ?_,
    fun waits => ?_, fun t0 runs late => ?_, fun waits => ?_, fun late => ?_, fun early => ?_⟩
  · have steps : (a && !s.position.refA) = false := by
      rcases level with h | h <;> simp [h]
    rw [exec_motionInputChange s a b running, decode_stepDir (s.onPins a b) a b source]
    have unchanged : (a && !(s.onPins a b).position.refA) = false := steps
    rw [unchanged]
    rfl
  · have taken : exec (.motionInputChange a b) s = .next
        (({ s with pinA := a, pinB := b, position := { s.position with refA := a, refB := b } } : State).stepEvent b) := by
      rw [exec_motionInputChange s a b running, decode_stepDir (s.onPins a b) a b source]
      have steps : (a && !(s.onPins a b).position.refA) = true := by
        have still : (s.onPins a b).position.refA = false := low
        rw [still, rises]
        rfl
      rw [steps]
      rfl
    refine ⟨_, taken, ?_, stepEvent_stepTaken _ _⟩
    rw [← taken, rises]
    rfl
  · rw [exec_motionInputChange s a b running, decode_internal (s.onPins a b) a b source]
    rfl
  · rw [exec_internalRateExpiry s running, timerRunDue_some _ t0 _ _ runs, decide_eq_true late]
    exact ⟨_, rfl, stepEvent_stepTaken _ _⟩
  · rw [exec_internalRateExpiry s running, timerRunDue_false _ _ _ waits]
    rfl
  · rw [exec_stallTimerExpiry s running, stallDue_of_elapsed s t0 runs, decide_eq_true late]
    exact ⟨_, rfl, stallExpiry_taken s⟩
  · have due : s.stallDue = false := timerRunDue_false _ _ _ waits
    rw [exec_stallTimerExpiry s running, due]
    rfl
  · have due : timerDue s.now s.position.windowStart (s.position.window * Config.usPerMs) = true := decide_eq_true late
    rw [exec_speedWindowExpiry s running, due, clampSpeed_eq]
    rfl
  · have waits : timerDue s.now s.position.windowStart (s.position.window * Config.usPerMs) = false :=
      (timerDue_eq_false_iff _ _ _).mpr early
    rw [exec_speedWindowExpiry s running, waits]
    rfl

/-! ## Presets and steps (O17) -/

theorem exec_presetPosition (s : State) : exec .presetPosition s = serve .presetPosition .A presetPositionRequest s := rfl

theorem stepHeld_eq_false {s : State} (ready : ¬StepWaits s) : s.stepHeld = false := by
  rw [← Bool.not_eq_true, stepHeld_iff]
  exact ready

theorem asksAfterStep_eq (s : State) :
    s.asksAfterStep = if s.table.askedSafe then s.wires.overrunAsks.drop 1 else s.wires.overrunAsks := by
  unfold State.asksAfterStep
  rw [List.drop_one]

theorem SteppedTo_eq (s : State) (pos : Word32) (asks : Bool) (rest : List MotionEvent) : SteppedTo s pos asks rest =
    { s with
      table := { s.table with pos := pos, askedSafe := asks }
      wires := { s.wires with timetableMotion := rest, overrunAsks := s.asksAfterStep } } := by
  rw [asksAfterStep_eq]
  rfl

/-- The step at the front is taken: P moves there, and a forward step acts. -/
theorem exec_stepAtTimetable (s : State) (forward : Bool) (pos : Word32) (asks : Bool) (rest : List MotionEvent)
    (ready : StepReady s forward pos asks rest) : exec .stepAtTimetable s = .next
      (if forward then (SteppedTo s pos asks rest).forwardStep pos else SteppedTo s pos asks rest) := by
  obtain ⟨running, front, waits⟩ := ready
  simp only [exec, execStepAtTimetable, whenRunning_running _ s running, front, stepHeld_eq_false waits, SteppedTo_eq]
  rfl

theorem exec_stepAtTimetable_waits (s : State) (running : s.inReset = none) (waits : StepWaits s) :
    exec .stepAtTimetable s = .next s := by
  have held := (stepHeld_iff s).mpr waits
  obtain ⟨⟨d, v, asks, rest, front⟩, -⟩ := waits
  simp only [exec, execStepAtTimetable, whenRunning_running _ s running, front, held]
  rfl

/-- What a block makes of the preset that waits for it. -/
def State.presetAt (s : State) : MotionBlock → State
  | .timetable => s.presetAtTimetable
  | .slots p => s.presetAtSlots p

theorem exec_presetAtBlock (s : State) (m : MotionBlock) (running : s.inReset = none) :
    exec (.presetAtBlock m) s = .next (s.presetAt m) := by
  simp only [exec, execPresetAtBlock, whenRunning_running _ s running]
  cases m <;> rfl

/-- PRESET_POSITION taken (R20). -/
theorem presetPositionRequest_taken (s : State) (b0 b1 b2 b3 : Byte) (mode : s.control.mode = .config) :
    presetPositionRequest [b0, b1, b2, b3] s = ((s.setPosition { s.position with
        p := (b0 ++ b1) ++ (b2 ++ b3), hw := (b0 ++ b1) ++ (b2 ++ b3), frame := s.position.frame + 1 }).handMotion
          (.preset ((b0 ++ b1) ++ (b2 ++ b3))), Reply.ok [b0, b1, b2, b3, s.position.frame + 1]) := by
  have bytes : be32 ((b0 ++ b1) ++ (b2 ++ b3)) = [b0, b1, b2, b3] := be32_append b0 b1 b2 b3
  have value : word32At [b0, b1, b2, b3] 0 = (b0 ++ b1) ++ (b2 ++ b3) := rfl
  simp only [presetPositionRequest, mode, ne_eq, not_true_eq_false, if_false, List.length_cons, List.length_nil, value, bytes,
    List.cons_append, List.nil_append]

/-- Settles O17: the request by its checks, and a preset or a backward step by the block that takes it. -/
theorem presetsAndBackwardStepsMoveOnlyThePosition : Obligations.PresetsAndBackwardStepsMoveOnlyThePosition := by
  unfold Obligations.PresetsAndBackwardStepsMoveOnlyThePosition
  refine fun s => ⟨fun w waits => ?_, fun v rest running front => ⟨fun other => ?_, fun run => ?_⟩,
    fun p v rest running front => ⟨fun other => ?_, fun run => ?_⟩, fun p v asks rest running front => ?_,
    fun v asks rest ready => exec_stepAtTimetable s false v asks rest ready, exec_stepAtTimetable_waits s⟩
  · rw [exec_presetPosition]
    refine ⟨fun other => serve_kept waits _ (.refuse .wrongMode) (by simp [presetPositionRequest, other]),
      fun mode short => serve_kept waits _ (.refuse .badField) (by simp [presetPositionRequest, mode, short]),
      fun b0 b1 b2 b3 mode body => ?_⟩
    have taken := presetPositionRequest_taken s b0 b1 b2 b3 mode
    rw [← body] at taken
    exact serve_unnoticed waits presetPositionRequest _ _ taken rfl
  · rw [exec_presetAtBlock s _ running]
    simp only [State.presetAt, State.presetAtTimetable, front, other, if_false]
    rfl
  · rw [exec_presetAtBlock s _ running]
    simp only [State.presetAt, State.presetAtTimetable, front, run, if_true]
  · rw [exec_presetAtBlock s _ running]
    simp only [State.presetAt, State.presetAtSlots, front, other, if_false]
    rfl
  · rw [exec_presetAtBlock s _ running]
    simp only [State.presetAt, State.presetAtSlots, front, run, if_true]
  · simp only [exec, execStepAtSlots, whenRunning_running _ s running, front]
    rfl

end Sys2Proof.Machine

/-! PROOFS. What a cut takes out of every record and what it counts (O30). -/

namespace Sys2Proof.Machine

/-! ## Counting places -/

theorem toList_eq_map {α : Type} {n : Nat} (v : Vector α n) : v.toList = (List.finRange n).map fun i => v[i] := by
  refine List.ext_getElem (by simp) fun i h k => ?_
  simp

theorem length_filter_filterMap {α β : Type} (g : α → Option β) (f : β → Bool) (l : List α) :
    (((l.map g).filterMap id).filter f).length = (l.filter fun a => (g a).any f).length := by
  induction l with
  | nil => rfl
  | cons a l ih =>
    cases h : g a with
    | none => simpa [h] using ih
    | some b => cases fb : f b <;> simpa [h, fb] using ih

/-- The occupied places whose content meets a test. -/
theorem occupied_filter_length {α : Type} {n : Nat} (v : Vector (Option α) n) (f : α → Bool) :
    ((v.toList.filterMap id).filter f).length = ((List.finRange n).filter fun i => (v[i]).any f).length := by
  rw [toList_eq_map, length_filter_filterMap]

theorem length_filterMap_add {α β : Type} (f : α → Option β) (l : List α) :
    (l.filterMap f).length + (l.filter fun a => (f a).isNone).length = l.length := by
  induction l with
  | nil => rfl
  | cons a l ih => cases h : f a <;> simp [h] <;> omega

/-! ## A record after a cut -/

/-- A line set after a cut of `x`, as R26 says it. -/
theorem cutSet_eq (x lines : LineSet) : cutSet x lines =
    if lines &&& x = 0 then some lines else if lines &&& ~~~x = 0 then none else some (lines &&& ~~~x) := rfl

theorem map_cutSet {α : Type} (x lines : LineSet) (f : LineSet → α) : (cutSet x lines).map f =
    if lines &&& x = 0 then some (f lines) else if lines &&& ~~~x = 0 then none else some (f (lines &&& ~~~x)) := by
  rw [cutSet_eq]
  split
  · rfl
  · split <;> rfl

theorem cutSlot_some (x : LineSet) (c : SlotContent) : cutSlot x (some c) =
    if c.lines &&& x = 0 then some c else if c.lines &&& ~~~x = 0 then none
    else some { c with lines := c.lines &&& ~~~x } :=
  map_cutSet x c.lines fun ls => ({ c with lines := ls } : SlotContent)

theorem cutSlot_eq (x : LineSet) (o : Option SlotContent) : cutSlot x o = o.bind fun c =>
    if c.lines &&& x = 0 then some c else if c.lines &&& ~~~x = 0 then none
    else some { c with lines := c.lines &&& ~~~x } := by
  cases o with
  | none => rfl
  | some c => exact cutSlot_some x c

theorem cutEntry_eq (p : Port) (x : LineSet) (e : Entry) : cutEntry p x e =
    if e.fields.owner ≠ p ∨ e.fields.lines &&& x = 0 then some e else if e.fields.lines &&& ~~~x = 0 then none
    else some { e with fields := { e.fields with lines := e.fields.lines &&& ~~~x }
                       code := { e.fields with lines := e.fields.lines &&& ~~~x } } := by
  unfold cutEntry
  split
  · rfl
  · next named =>
    rw [map_cutSet, if_neg fun h => named (.inr h)]
    rfl

theorem cutPlace_some (p : Port) (x : LineSet) (m : Template) : cutPlace p x (some m) =
    if m.fields.owner ≠ p ∨ m.fields.lines &&& x = 0 then some m else if m.fields.lines &&& ~~~x = 0 then none
    else some { fields := { m.fields with lines := m.fields.lines &&& ~~~x }
                code := { m.fields with lines := m.fields.lines &&& ~~~x } } := by
  unfold cutPlace
  rw [Option.bind_some]
  split
  · rfl
  · next named =>
    rw [map_cutSet, if_neg fun h => named (.inr h)]
    rfl

theorem cut_slot (b : Slots) (x : LineSet) (i : Fin 4) : (Slots.cut x b).slot[i] = cutSlot x b.slot[i] := by
  simp [Slots.cut]

theorem cut_place (s : State) (p : Port) (x : LineSet) (n : TemplateNo) :
    (s.cut p x).templates.place[n] = cutPlace p x s.templates.place[n] := by
  simp [State.cut]

/-- A slot that a cut leaves occupied keeps every field but its lines. -/
theorem cutSlot_fields {x : LineSet} {o : Option SlotContent} {d : SlotContent} (h : cutSlot x o = some d) :
    ∃ c, o = some c ∧ d = { c with lines := d.lines } := by
  cases o with
  | none => simp [cutSlot] at h
  | some c =>
    rw [cutSlot_some] at h
    refine ⟨c, rfl, ?_⟩
    split at h
    · cases h; rfl
    · split at h
      · cases h
      · cases h; rfl

theorem SlotsLaw.cut {b : Slots} (law : SlotsLaw b) (x : LineSet) : SlotsLaw (Slots.cut x b) := by
  obtain ⟨nodup, ages, keys⟩ := law
  refine ⟨nodup.filter _, fun i => ?_, fun i j c d hi hj free_c free_d same => ?_⟩
  · have member : i ∈ (Slots.cut x b).age ↔ i ∈ b.age ∧ ((Slots.cut x b).slot[i]).isSome = true := List.mem_filter
    rw [member, ages i]
    refine and_iff_right_of_imp fun occupied => ?_
    obtain ⟨d, content⟩ := Option.isSome_iff_exists.mp occupied
    rw [cut_slot] at content
    obtain ⟨c, before, -⟩ := cutSlot_fields content
    rw [before]
    rfl
  · rw [cut_slot] at hi hj
    obtain ⟨c', before_c, fields_c⟩ := cutSlot_fields hi
    obtain ⟨d', before_d, fields_d⟩ := cutSlot_fields hj
    rw [fields_c] at free_c same
    rw [fields_d] at free_d same
    exact keys i j c' d' before_c before_d free_c free_d same

/-! ## The counts -/

theorem cutSlot_isNone (x : LineSet) (c : SlotContent) :
    (cutSlot x (some c)).isNone = (decide (c.lines &&& x ≠ 0) && (cutSet x c.lines).isNone) := by
  rw [cutSlot_some, cutSet_eq]
  by_cases none_named : c.lines &&& x = 0
  · rw [if_pos none_named, if_pos none_named]
    simp
  · rw [if_neg none_named, if_neg none_named, decide_eq_true none_named]
    by_cases all_cut : c.lines &&& ~~~x = 0
    · rw [if_pos all_cut, if_pos all_cut]
      rfl
    · rw [if_neg all_cut, if_neg all_cut]
      rfl

theorem cutPlace_isNone (p : Port) (x : LineSet) (m : Template) : (cutPlace p x (some m)).isNone
    = (m.fields.owner == p && (decide (m.fields.lines &&& x ≠ 0) && (cutSet x m.fields.lines).isNone)) := by
  rw [cutPlace_some, cutSet_eq]
  by_cases own : m.fields.owner = p
  · rw [beq_iff_eq.mpr own, Bool.true_and]
    by_cases none_named : m.fields.lines &&& x = 0
    · rw [if_pos (.inr none_named), if_pos none_named]
      simp
    · rw [if_neg fun h => h.elim (· own) none_named, if_neg none_named, decide_eq_true none_named]
      by_cases all_cut : m.fields.lines &&& ~~~x = 0
      · rw [if_pos all_cut, if_pos all_cut]
        rfl
      · rw [if_neg all_cut, if_neg all_cut]
        rfl
  · simp [own]

/-- What leaves in a cut is what the port owns and is left with no line. -/
theorem cutEntry_gone (p : Port) (x : LineSet) (e : Entry) : (cutEntry p x e).isNone
    = (e.fields.owner == p && (decide (e.fields.lines &&& x ≠ 0) && (cutSet x e.fields.lines).isNone)) := by
  by_cases own : e.fields.owner = p
  · rw [cutEntry_isNone p x e own]
    simp [own]
  · rw [cutEntry_eq, if_pos (.inl own)]
    simp [own]

section
variable (s : State) (p : Port) (x : LineSet)

theorem cutCounts_slotsNamed : (cutCounts s p x).slotsNamed = ((List.finRange 4).filter fun i =>
    ((s.slots.get p).slot[i]).any fun k => decide (k.lines &&& x ≠ 0)).length :=
  occupied_filter_length _ _

theorem cutCounts_slotsEmptied : (cutCounts s p x).slotsEmptied = ((List.finRange 4).filter fun i =>
    ((s.slots.get p).slot[i]).isSome && (((s.cut p x).slots.get p).slot[i]).isNone).length := by
  refine (occupied_filter_length _ _).trans ?_
  congr 2
  funext i
  have after : (s.cut p x).slots.get p = Slots.cut x (s.slots.get p) := PerPort.get_set_same ..
  rw [after, cut_slot]
  cases (s.slots.get p).slot[i] with
  | none => rfl
  | some c => exact (cutSlot_isNone x c).symm

theorem cutCounts_entriesNamed : (cutCounts s p x).entriesNamed
    = (s.table.live.filter fun e => e.fields.owner == p && decide (e.fields.lines &&& x ≠ 0)).length := by
  have both : (cutCounts s p x).entriesNamed
      = ((s.table.live.filter fun e => e.fields.owner == p).filter fun e => decide (e.fields.lines &&& x ≠ 0)).length := rfl
  rw [both, List.filter_filter]
  congr 2
  funext e
  exact Bool.and_comm _ _

theorem cutCounts_entriesRemoved :
    (cutCounts s p x).entriesRemoved = s.table.live.length - (s.cut p x).table.live.length := by
  have both : (cutCounts s p x).entriesRemoved = ((s.table.live.filter fun e => e.fields.owner == p).filter fun e =>
    decide (e.fields.lines &&& x ≠ 0) && (cutSet x e.fields.lines).isNone).length := rfl
  have gone : (s.table.live.filter fun e => (cutEntry p x e).isNone).length = (cutCounts s p x).entriesRemoved := by
    rw [both, List.filter_filter]
    congr 2
    funext e
    rw [cutEntry_gone, Bool.and_comm]
  have all : (s.cut p x).table.live.length + (s.table.live.filter fun e => (cutEntry p x e).isNone).length
      = s.table.live.length := length_filterMap_add (cutEntry p x) s.table.live
  omega

/-- The templates of the port that meet a test. -/
theorem ownTemplates_length (f : Template → Bool) :
    (((s.templates.place.toList.filterMap id).filter fun m => m.fields.owner == p).filter f).length
      = ((List.finRange 32).filter fun n => (s.templates.place[n]).any fun m => m.fields.owner == p && f m).length := by
  rw [List.filter_filter, occupied_filter_length]
  congr 3
  funext n
  congr 1
  funext m
  exact Bool.and_comm _ _

theorem cutCounts_templatesNamed : (cutCounts s p x).templatesNamed = ((List.finRange 32).filter fun n =>
    (s.templates.place[n]).any fun m => m.fields.owner == p && decide (m.fields.lines &&& x ≠ 0)).length :=
  ownTemplates_length s p _

theorem cutCounts_templatesDeleted : (cutCounts s p x).templatesDeleted = ((List.finRange 32).filter fun n =>
    (s.templates.place[n]).isSome && ((s.cut p x).templates.place[n]).isNone).length := by
  refine (ownTemplates_length s p _).trans ?_
  congr 2
  funext n
  rw [cut_place]
  cases s.templates.place[n] with
  | none => rfl
  | some m => exact (cutPlace_isNone p x m).symm

end

/-- Settles O30: each kind of record by its cut, and the counts by what is named and what goes. -/
theorem cutTakesTheLinesOutOfEveryRecord : Obligations.CutTakesTheLinesOutOfEveryRecord := by
  unfold Obligations.CutTakesTheLinesOutOfEveryRecord
  intro s p x
  have own : (s.cut p x).slots.get p = Slots.cut x (s.slots.get p) := PerPort.get_set_same ..
  refine ⟨rfl, fun q other => PerPort.get_set_other _ _ _ _ other, fun i => ?_, ?_, fun law => ?_, ?_, fun law => ?_,
    fun n => ?_, cutCounts_slotsNamed s p x, cutCounts_slotsEmptied s p x, cutCounts_entriesNamed s p x,
    cutCounts_entriesRemoved s p x, cutCounts_templatesNamed s p x, cutCounts_templatesDeleted s p x⟩
  · rw [own, cut_slot, cutSlot_eq]
  · rw [own]
    rfl
  · rw [own]
    exact law.cut x
  · exact congrArg (List.filterMap · s.table.live) (funext fun e => cutEntry_eq p x e)
  · obtain ⟨-, -, -, counted⟩ := law
    exact cut_liveCounted s p x counted
  · rw [cut_place]
    cases s.templates.place[n] with
    | none => rfl
    | some m => exact cutPlace_some p x m

end Sys2Proof.Machine

/-! PROOFS. The expiries of the pulse engines (O21). -/

namespace Sys2Proof.Machine

/-! ## The close of an event that changed one line -/

/-- A line whose record and mode an event leaves keeps its settle check. -/
theorem closedLine_kept {before after : State} {l : LineNo} (mode : after.lineBlock.mode = before.lineBlock.mode)
    (same : after.line[l] = before.line[l]) : closedLine before after l = after.line[l] := by
  unfold closedLine
  refine if_neg fun starts => starts.1 ?_
  unfold State.driven
  rw [mode, same]

theorem get_of_set {v w : Vector LineRec 32} {l : LineNo} {r : LineRec} (h : v = w.set l r) : v[l] = r := by simp [h]

/-- The records at the close of an event that changed, of them, that of line `l` alone. -/
theorem closeLines_record {s u : State} {l : LineNo} {r : LineRec} (lines : u.line = s.line.set l r)
    (mode : u.lineBlock.mode = s.lineBlock.mode) (now : u.now = s.now) (params : u.control.params = s.control.params)
    (readback : r.readback = (s.line[l]).readback) :
    (closeLines s u).line = s.line.set l { r with settle := settleAfter s (closeLines s u) l r.settle } := by
  have own : u.line[l] = r := by simp [lines]
  have closed := closeLines_line s u l now params (by rw [own, readback])
  rw [own] at closed
  refine Vector.ext fun i h => ?_
  by_cases same : l.val = i
  · subst same
    exact closed.trans (by simp)
  · have kept : u.line[(⟨i, h⟩ : LineNo)] = s.line[(⟨i, h⟩ : LineNo)] := by simp [lines, same]
    have close : (closeLines s u).line[(⟨i, h⟩ : LineNo)] = _ :=
      (closeLines_get s u ⟨i, h⟩).trans (closedLine_kept mode kept)
    rw [kept] at close
    exact close.trans (by simp [same])

/-- The close of an event that changed the record of line `l` alone. -/
theorem closeLines_setLine (s : State) (l : LineNo) (r : LineRec) (readback : r.readback = (s.line[l]).readback) :
    closeLines s (s.setLine l r) = { s with
      line := s.line.set l { r with settle := settleAfter s (closeLines s (s.setLine l r)) l r.settle } } := by
  have lines := closeLines_record (u := s.setLine l r) rfl rfl rfl rfl readback
  generalize settleAfter s (closeLines s (s.setLine l r)) l r.settle = k at lines ⊢
  rw [← lines]
  rfl

/-! ## Which expiry is due -/

theorem pulseDue_iff (now : Word32) (e : Engine) : e.pulseDue now = true ↔ ∃ f, e = .onPulse now f := by
  cases e <;> simp [Engine.pulseDue]

theorem restDue_iff (now : Word32) (e : Engine) : e.restDue now = true ↔ ∃ f q, e = .resting f now q := by
  cases e <;> simp [Engine.restDue]

theorem guardDue_iff (now : Word32) (e : Engine) :
    e.guardDue now = true ↔ ∃ f, e = .off (some { fall := f, endAt := now }) := by
  match e with
  | .off (some ⟨f, t⟩) => simp [Engine.guardDue]
  | .off none => simp [Engine.guardDue]
  | .onLatched => simp [Engine.guardDue]
  | .onPulse _ _ => simp [Engine.guardDue]
  | .resting _ _ _ => simp [Engine.guardDue]

section
variable {s : State} (l : LineNo) (running : s.inReset = none)
include running

theorem exec_pulseEnd (due : (s.line[l]).engine.pulseDue s.now = true) : exec (.pulseEnd l) s = .next
    (closeLines s (s.setLine l { s.line[l] with
      engine := (s.line[l]).engine.atPulseEnd s.now (s.line[l]).rest })) := by
  simp only [exec, execPulseEnd, whenRunning_running _ s running, if_pos due]
  rfl

theorem exec_restEnd (due : (s.line[l]).engine.restDue s.now = true) : exec (.restEnd l) s = .next
    (closeLines s (s.setLine l { s.line[l] with engine := (s.line[l]).engine.atRestEnd s.now })) := by
  simp only [exec, execRestEnd, whenRunning_running _ s running, if_pos due]
  rfl

theorem exec_pulseEnd_notDue (quiet : ∀ f, (s.line[l]).engine ≠ .onPulse s.now f) : exec (.pulseEnd l) s = .next s := by
  have idle : ¬ (s.line[l]).engine.pulseDue s.now = true := fun h =>
    let ⟨f, due⟩ := (pulseDue_iff _ _).mp h
    quiet f due
  simp only [exec, execPulseEnd, whenRunning_running _ s running, if_neg idle]

theorem exec_restEnd_notDue (quiet : ∀ f q, (s.line[l]).engine ≠ .resting f s.now q) : exec (.restEnd l) s = .next s := by
  have idle : ¬ (s.line[l]).engine.restDue s.now = true := fun h =>
    let ⟨f, q, due⟩ := (restDue_iff _ _).mp h
    quiet f q due
  simp only [exec, execRestEnd, whenRunning_running _ s running, if_neg idle]

theorem exec_restGuardEnd (due : (s.line[l]).engine.guardDue s.now = true) : exec (.restGuardEnd l) s = .next
    (s.setLine l { s.line[l] with engine := (s.line[l]).engine.dropGuard }) := by
  simp only [exec, execRestGuardEnd, whenRunning_running _ s running, if_pos due]
  rfl

theorem exec_restGuardEnd_notDue (quiet : ∀ f, (s.line[l]).engine ≠ .off (some { fall := f, endAt := s.now })) :
    exec (.restGuardEnd l) s = .next s := by
  have idle : ¬ (s.line[l]).engine.guardDue s.now = true := fun h =>
    let ⟨f, due⟩ := (guardDue_iff _ _).mp h
    quiet f due
  simp only [exec, execRestGuardEnd, whenRunning_running _ s running, if_neg idle]

end

/-- Settles O21: each expiry by the engine before it. -/
theorem engineExpiriesFollowTheRules : Obligations.EngineExpiriesFollowTheRules := by
  unfold Obligations.EngineExpiriesFollowTheRules
  intro s l running
  have pulse : ∀ f, (s.line[l]).engine = .onPulse s.now f → (s.line[l]).engine.pulseDue s.now = true :=
    fun f h => (pulseDue_iff _ _).mpr ⟨f, h⟩
  have rested : ∀ f q, (s.line[l]).engine = .resting f s.now q → (s.line[l]).engine.restDue s.now = true :=
    fun f q h => (restDue_iff _ _).mpr ⟨f, q, h⟩
  have pulseEnds : ∀ f, (s.line[l]).engine = .onPulse s.now f → ∃ t, exec (.pulseEnd l) s = .next t ∧ t = { s with
      line := s.line.set l { s.line[l] with
        engine := (Engine.onPulse s.now f).atPulseEnd s.now (s.line[l]).rest
        settle := settleAfter s t l (s.line[l]).settle } } := fun f h =>
    ⟨_, exec_pulseEnd l running (pulse f h), h ▸ closeLines_setLine s l { s.line[l] with
      engine := (s.line[l]).engine.atPulseEnd s.now (s.line[l]).rest } rfl⟩
  have restEnds : ∀ f q, (s.line[l]).engine = .resting f s.now q → ∃ t, exec (.restEnd l) s = .next t ∧ t = { s with
      line := s.line.set l { s.line[l] with
        engine := (Engine.resting f s.now q).atRestEnd s.now
        settle := settleAfter s t l (s.line[l]).settle } } := fun f q h =>
    ⟨_, exec_restEnd l running (rested f q h), h ▸ closeLines_setLine s l { s.line[l] with
      engine := (s.line[l]).engine.atRestEnd s.now } rfl⟩
  refine ⟨pulseEnds true, pulseEnds false, fun f => restEnds f .none, fun f => restEnds f .latch,
    fun f w => restEnds f (.pulse w), fun f h => ?_, exec_pulseEnd_notDue l running, exec_restEnd_notDue l running,
    exec_restGuardEnd_notDue l running⟩
  rw [exec_restGuardEnd l running ((guardDue_iff _ _).mpr ⟨f, h⟩), h]
  rfl

end Sys2Proof.Machine

/-! PROOFS. Forces and cleared faults (O33). -/

namespace Sys2Proof.Machine

/-! ## FORCE_LINES bodies -/

theorem parseForce_fields (x : LineSet) (v : Byte) (hx : x ≠ 0) (hv : v.toNat ≤ 1) :
    parseForce (be32 x ++ [v]) = some (x, decide (v.toNat = 1)) := by
  have level : natAt (be32 x ++ [v]) 4 = v.toNat := rfl
  simp only [parseForce, word32At_be32, level]
  exact if_pos ⟨rfl, hx, hv⟩

theorem parseForce_malformed (b : List Byte)
    (h : ∀ (x : LineSet) (v : Byte), b = be32 x ++ [v] → x = 0 ∨ 2 ≤ v.toNat) : parseForce b = none := by
  unfold parseForce
  rw [if_neg]
  rintro ⟨len, nonempty, level⟩
  obtain ⟨c, d, e, f, front⟩ := List.length_eq_four.mp (show (b.take 4).length = 4 by simp [len])
  obtain ⟨v, rear⟩ := List.length_eq_one_iff.mp (show (b.drop 4).length = 1 by simp [len])
  obtain rfl : b = [c, d, e, f, v] := by rw [← List.take_append_drop 4 b, front, rear]; rfl
  have level : v.toNat ≤ 1 := level
  rcases h _ v (by rw [be32_append]; rfl) with empty | big
  · exact nonempty empty
  · omega

/-! ## The lines of a set changed and the event closed -/

theorem recode_readback (before after : LineRec) : (LineRec.recode before after).readback = after.readback := by
  unfold LineRec.recode
  split <;> rfl

theorem recode_settle (before after : LineRec) : (LineRec.recode before after).settle = after.settle := by
  unfold LineRec.recode
  split <;> rfl

/-- The lines of a set with `f` in place of their records, at the close of the event. -/
theorem closeLines_changeLines (s : State) (x : LineSet) (f : LineRec → LineRec)
    (readback : ∀ r, (f r).readback = r.readback) (settle : ∀ r, (f r).settle = r.settle) (l : LineNo) :
    (closeLines s (s.changeLines x f)).line[l] = if hasLine x l then
      { LineRec.recode s.line[l] (f s.line[l]) with
        settle := settleAfter s (closeLines s (s.changeLines x f)) l (s.line[l]).settle }
      else s.line[l] := by
  have frame := changeLines_eq s x f
  have record := changeLines_line s x f l
  by_cases named : hasLine x l = true
  · rw [if_pos named] at record ⊢
    have levels : ((s.changeLines x f).line[l]).readback = (s.line[l]).readback := by
      rw [record, recode_readback, readback]
    rw [closeLines_line s (s.changeLines x f) l (by rw [frame]) (by rw [frame]) levels, record, recode_settle, settle]
  · rw [if_neg named] at record ⊢
    rw [closeLines_get, closedLine_kept (by rw [frame]) record, record]

theorem closeLines_notices (before after : State) : (closeLines before after).wires.notices = after.wires.notices := rfl

/-- A request of port A that changes the lines of a set and closes the event. -/
theorem serve_changeLines {s : State} {k : ReqKind} {w : Work} (waits : RequestWaits s .A k w)
    (handler : List Byte → State → State × Reply) (x : LineSet) (f : LineRec → LineRec)
    (taken : handler w.body s = (closeLines s (s.changeLines x f), Reply.ok []))
    (readback : ∀ r, (f r).readback = r.readback) (settle : ∀ r, (f r).settle = r.settle) :
    ∃ t : State, serve k .A handler s = .next (t.answer .A w .ok []) ∧ t = { s with line := t.line }
      ∧ ∀ l : LineNo, t.line[l] = if hasLine x l then
          { LineRec.recode s.line[l] (f s.line[l]) with settle := settleAfter s t l (s.line[l]).settle }
        else s.line[l] :=
  ⟨closeLines s (s.changeLines x f),
    serve_unnoticed waits handler _ _ taken ((closeLines_notices _ _).trans (changeLines_notices s x f)),
    OnlyLine.trans _ _ _ (changeLines_frame s x f) (closeLines_frame s _),
    closeLines_changeLines s x f readback settle⟩

/-- Settles O33: the checks of each request in their order, then its change of the lines of the set. -/
theorem forcesAndClearedFaults : Obligations.ForcesAndClearedFaults := by
  unfold Obligations.ForcesAndClearedFaults
  intro s w open_ takes
  have shut (h : ¬open_) : leaseMode s.lineBlock.mode = false :=
    Bool.eq_false_iff.mpr fun taken => h ((leaseMode_iff _).mp taken)
  have taken (h : open_) : leaseMode s.lineBlock.mode = true := (leaseMode_iff _).mpr h
  have parsed (x : LineSet) (body : w.body = be32 x) (nonempty : x ≠ 0) : parseLines w.body = some x :=
    body ▸ parseLines_be32 x nonempty
  refine ⟨fun waits => ?force, fun waits => ?unforce, fun waits => ?clear⟩
  case force =>
    have forced (x : LineSet) (v : Byte) (h : v.toNat ≤ 1) (nonempty : x ≠ 0) (body : w.body = be32 x ++ [v]) :
        parseForce w.body = some (x, decide (v.toNat = 1)) := body ▸ parseForce_fields x v nonempty h
    refine ⟨fun h => serve_kept waits _ (.refuse .wrongMode) (by simp [forceRequest, shut h]),
      fun h malformed => serve_kept waits _ (.refuse .badField)
        (by simp [forceRequest, taken h, parseForce_malformed _ malformed]), fun x h nonempty body => ?_,
      fun x h nonempty body => ?_⟩
    · refine serve_changeLines waits forceRequest x (fun r => { r with force := .forcedOn }) ?_ (fun _ => rfl) fun _ => rfl
      simp only [forceRequest, taken h, forced x 1 (by decide) nonempty body, if_true]
      rfl
    · refine serve_changeLines waits forceRequest x (fun r => { r with force := .forcedOff }) ?_ (fun _ => rfl) fun _ => rfl
      simp only [forceRequest, taken h, forced x 0 (by decide) nonempty body, if_true]
      rfl
  case unforce =>
    refine ⟨fun h => serve_kept waits _ (.refuse .wrongMode) (by simp [unforceRequest, shut h]),
      fun h malformed => serve_kept waits _ (.refuse .badField)
        (by simp [unforceRequest, taken h, parseLines_malformed _ malformed]), fun x h nonempty body => ?_⟩
    refine serve_changeLines waits unforceRequest x (fun r => { r with force := .none }) ?_ (fun _ => rfl) fun _ => rfl
    simp only [unforceRequest, taken h, parsed x body nonempty, if_true]
    rfl
  case clear =>
    refine ⟨fun h => serve_kept waits _ (.refuse .wrongMode) (by simp [clearFaultRequest, shut h]),
      fun h malformed => serve_kept waits _ (.refuse .badField)
        (by simp [clearFaultRequest, taken h, parseLines_malformed _ malformed]), fun x h nonempty body => ?_⟩
    refine serve_changeLines waits clearFaultRequest x (fun r => { r with fault := .ok, mismatch := 0 }) ?_ (fun _ => rfl)
      fun _ => rfl
    simp only [clearFaultRequest, taken h, parsed x body nonempty, if_true]

end Sys2Proof.Machine

/-! PROOFS. The expiry of a settle check, and the failure of a line (O35). -/

namespace Sys2Proof.Machine

/-! ## Cuts beside line records -/

theorem cutAll_eq (s : State) (ps : List Port) (x : LineSet) : s.cutAll ps x = { s with
    slots := (s.cutAll ps x).slots, table := (s.cutAll ps x).table, templates := (s.cutAll ps x).templates } :=
  foldl_keeps (fun s t : State => t = { s with slots := t.slots, table := t.table, templates := t.templates })
    (fun t p => t.cut p x) (fun _ => rfl) (fun _ _ _ h k => by rw [k, h]) (fun _ _ => rfl) ps s

/-- A cut and a change of a line record do not meet. -/
theorem cutAll_setLine (s : State) (l : LineNo) (r : LineRec) (ps : List Port) (x : LineSet) :
    (s.setLine l r).cutAll ps x = (s.cutAll ps x).setLine l r :=
  List.foldl_hom (fun t : State => t.setLine l r) (g₁ := fun t p => t.cut p x) (g₂ := fun t p => t.cut p x) fun _ _ => rfl

/-! ## The failure of a line (R39) -/

/-- The record of a line that has failed. -/
def LineRec.failedAt (now : Word32) (r : LineRec) : LineRec :=
  { r with fault := .failed, engine := r.engine.setOff now r.rest, code := { r.covered with fault := .failed } }

theorem recode_failed (now : Word32) (r : LineRec) (sound : r.fault = .ok) :
    LineRec.recode r { r with fault := .failed, engine := r.engine.setOff now r.rest } = r.failedAt now := by
  refine if_neg fun same => ?_
  have fault : FaultState.failed = r.fault := congrArg LineCode.fault same
  rw [sound] at fault
  cases fault

/-- Each port of a list without repetition is told once. -/
theorem notifyEach_eq (src : NoticeSource) (n : Notice) (ps : List Port) (nodup : ps.Nodup) (s : State) :
    ∃ v : PerPort (List PostedNotice),
      ps.foldl (fun t p => t.notify src p n) s = { s with wires := { s.wires with notices := v } }
      ∧ ∀ q, v.get q = s.wires.notices.get q ++ if q ∈ ps then [{ source := src, own := false, notice := n }] else [] := by
  induction ps generalizing s with
  | nil => exact ⟨s.wires.notices, rfl, fun q => by simp⟩
  | cons p ps ih =>
    obtain ⟨absent, distinct⟩ := List.nodup_cons.mp nodup
    obtain ⟨v, rest, told⟩ := ih distinct (s.notify src p n)
    refine ⟨v, rest, fun q => ?_⟩
    rw [told, notify_notices]
    by_cases same : q = p
    · subst same
      simp [absent]
    · simp [same]

theorem mem_failureAudience (r : LineRec) (q : Port) : q ∈ r.failureAudience ↔ q = .A ∨ r.heldBy q = true := by
  simp [LineRec.failureAudience, Port.mem_all q, or_comm]

/-- A line that fails: its record, its cut for every holder, and what the holders and port A are told. -/
theorem failLine_eq (s : State) (l : LineNo) (sound : (s.line[l]).fault = .ok) : ∃ v : PerPort (List PostedNotice),
    s.failLine l = { s with
      line := s.line.set l ((s.line[l]).failedAt s.now)
      slots := (s.cutAll ((s.line[l]).shares.map Share.port) (singleLine l)).slots
      table := (s.cutAll ((s.line[l]).shares.map Share.port) (singleLine l)).table
      templates := (s.cutAll ((s.line[l]).shares.map Share.port) (singleLine l)).templates
      wires := { s.wires with notices := v } }
    ∧ ∀ p, v.get p = s.wires.notices.get p ++ if p = .A ∨ (s.line[l]).heldBy p = true then
        [{ source := .lineBlock, own := false, notice := { Notice.bare .lineFailed with line := some l } }] else [] := by
  have record : s.changeLine l (fun r => { r with fault := .failed, engine := r.engine.setOff s.now r.rest })
      = s.setLine l ((s.line[l]).failedAt s.now) := congrArg (s.setLine l) (recode_failed s.now _ sound)
  have failed : s.failLine l = (s.line[l]).failureAudience.foldl
      (fun t p => t.notify .lineBlock p { Notice.bare .lineFailed with line := some l })
      ((s.cutAll ((s.line[l]).shares.map Share.port) (singleLine l)).setLine l ((s.line[l]).failedAt s.now)) := by
    unfold State.failLine
    dsimp only
    rw [record, cutAll_setLine]
  have cuts := cutAll_eq s ((s.line[l]).shares.map Share.port) (singleLine l)
  obtain ⟨v, told, each⟩ := notifyEach_eq .lineBlock { Notice.bare .lineFailed with line := some l }
    (s.line[l]).failureAudience (Port.all_nodup.filter _)
    ((s.cutAll ((s.line[l]).shares.map Share.port) (singleLine l)).setLine l ((s.line[l]).failedAt s.now))
  refine ⟨v, ?_, fun p => (each p).trans ?_⟩
  · rw [failed, told]
    generalize s.cutAll ((s.line[l]).shares.map Share.port) (singleLine l) = u at cuts ⊢
    rw [cuts]
    rfl
  · simp only [State.setLine_wires, cutAll_wires, mem_failureAudience]

/-! ## The level that a check reads -/

/-- The readback levels after a check of line `l` has read the level `rb`. -/
def readbackRead (x : LineSet) (l : LineNo) (rb : Bool) : LineSet :=
  if rb then x ||| singleLine l else x &&& ~~~singleLine l

theorem hasLine_readbackRead (x : LineSet) (l k : LineNo) (rb : Bool) :
    hasLine (readbackRead x l rb) k = if k = l then rb else hasLine x k := by
  have without : x &&& ~~~singleLine l = lineDiff x (singleLine l) := rfl
  unfold readbackRead
  by_cases own : k = l
  · subst own
    cases rb <;> simp [without, hasLine_or, hasLine_lineDiff, hasLine_singleLine]
  · cases rb <;> simp [without, hasLine_or, hasLine_lineDiff, hasLine_singleLine, own, Ne.symm own]

theorem settleDue_iff (now : Word32) (r : LineRec) :
    r.settleDue now = true ↔ ∃ c, r.settle = some c ∧ c.duration ≤ (now - c.start).toNat := by
  unfold LineRec.settleDue
  cases r.settle with
  | none => simp
  | some c =>
    simp only [Option.some.injEq, exists_eq_left']
    exact decide_eq_true_iff

/-- The mismatch count after a check that read `rb` on line `l`. -/
def State.mismatchRead (s : State) (l : LineNo) (rb : Bool) : Nat :=
  if rb = s.driven l then 0 else min ((s.line[l]).mismatch + 1) 15

theorem mismatchAfter_eq (s : State) (l : LineNo) (rb : Bool) :
    mismatchAfter (rb == s.driven l) (s.line[l]).mismatch = s.mismatchRead l rb := by
  unfold mismatchAfter State.mismatchRead
  by_cases agrees : rb = s.driven l
  · rw [if_pos (beq_iff_eq.mpr agrees), if_pos agrees]
  · rw [if_neg (beq_iff_eq.not.mpr agrees), if_neg agrees]
    rfl

/-- The record of a line whose check has been read. -/
def State.checkedLine (s : State) (l : LineNo) (rb : Bool) : LineRec :=
  { s.line[l] with mismatch := s.mismatchRead l rb, settle := none }

/-- Whether the check makes the line FAILED (R37, R39). -/
def FailsCheck (s : State) (l : LineNo) (rb : Bool) : Prop :=
  rb ≠ s.driven l ∧ (s.line[l]).force = .none ∧ (s.line[l]).fault = .ok
    ∧ s.control.params.faultThreshold ≤ s.mismatchRead l rb

theorem failsAt_iff (s : State) (l : LineNo) (rb : Bool) :
    (s.line[l]).failsAt (rb == s.driven l) (s.mismatchRead l rb) s.control.params.faultThreshold = true
      ↔ FailsCheck s l rb := by
  simp [LineRec.failsAt, FailsCheck, and_assoc]

section
variable {s : State} (l : LineNo) (rb : Bool) (running : s.inReset = none)
include running

theorem exec_settleExpiry (due : (s.line[l]).settleDue s.now = true) : exec (.settleExpiry l rb) s = .next
    { closeLines s (if (s.line[l]).failsAt (rb == s.driven l) (s.mismatchRead l rb) s.control.params.faultThreshold then
        (s.setLine l (s.checkedLine l rb)).failLine l else s.setLine l (s.checkedLine l rb)) with
      pinReadback := readbackRead s.pinReadback l rb } := by
  simp only [exec, execSettleExpiry, whenRunning_running _ s running, if_pos due, State.checkedLine, ← mismatchAfter_eq]
  rfl

theorem exec_settleExpiry_notDue (quiet : ¬ (s.line[l]).settleDue s.now = true) : exec (.settleExpiry l rb) s = .next s := by
  simp only [exec, execSettleExpiry, whenRunning_running _ s running, if_neg quiet]

end

/-- A line that passes its check: the record of R37. -/
theorem closeLines_checked (s : State) (l : LineNo) (rb : Bool) :
    closeLines s (s.setLine l (s.checkedLine l rb)) = { s with line := s.line.set l (s.checkedLine l rb) } := by
  have level : (closeLines s (s.setLine l (s.checkedLine l rb))).driven l = s.driven l := by
    rw [closeLines_driven]
    unfold State.driven
    rw [setLine_line, if_pos rfl]
    rfl
  have kept : settleAfter s (closeLines s (s.setLine l (s.checkedLine l rb))) l (s.checkedLine l rb).settle = none :=
    if_neg fun starts => starts.1 level.symm
  have closed := closeLines_setLine s l (s.checkedLine l rb) rfl
  rw [kept] at closed
  exact closed

/-- A line that fails its check: the record of R39, its cut, and what the holders and port A are told. -/
theorem checkFailed_eq (s : State) (l : LineNo) (rb : Bool) (sound : (s.line[l]).fault = .ok) :
    ∃ v : PerPort (List PostedNotice), (s.setLine l (s.checkedLine l rb)).failLine l = { s with
      line := s.line.set l ((s.checkedLine l rb).failedAt s.now)
      slots := (s.cutAll ((s.line[l]).shares.map Share.port) (singleLine l)).slots
      table := (s.cutAll ((s.line[l]).shares.map Share.port) (singleLine l)).table
      templates := (s.cutAll ((s.line[l]).shares.map Share.port) (singleLine l)).templates
      wires := { s.wires with notices := v } }
    ∧ ∀ p, v.get p = s.wires.notices.get p ++ if p = .A ∨ (s.line[l]).heldBy p = true then
        [{ source := .lineBlock, own := false, notice := { Notice.bare .lineFailed with line := some l } }] else [] := by
  have own : (s.setLine l (s.checkedLine l rb)).line[l] = s.checkedLine l rb := by simp
  have twice : (s.setLine l (s.checkedLine l rb)).line.set l ((s.checkedLine l rb).failedAt s.now)
      = s.line.set l ((s.checkedLine l rb).failedAt s.now) := Vector.set_set ..
  obtain ⟨v, after, told⟩ := failLine_eq (s.setLine l (s.checkedLine l rb)) l (by rw [own]; exact sound)
  rw [own, cutAll_setLine] at after
  rw [own] at told
  refine ⟨v, after.trans ?_, told⟩
  rw [← twice]
  rfl

/-- Settles O35: the check is due and the line passes or fails, or the check is not due. -/
theorem settleCheckCountsAndFails : Obligations.SettleCheckCountsAndFails := by
  unfold Obligations.SettleCheckCountsAndFails
  intro s l rb running r count fails wire
  have read : ∀ k : LineNo, hasLine (readbackRead s.pinReadback l rb) k = if k = l then rb else hasLine s.pinReadback k :=
    fun k => hasLine_readbackRead _ _ _ _
  refine ⟨fun c check due => ⟨fun passes => ?_, fun failed => ?_⟩, fun quiet => exec_settleExpiry_notDue l rb running ?_⟩
  · have judged := exec_settleExpiry l rb running ((settleDue_iff _ _).mpr ⟨c, check, due⟩)
    rw [if_neg (mt (failsAt_iff s l rb).mp passes), closeLines_checked] at judged
    exact ⟨_, judged, read, rfl⟩
  · have judged := exec_settleExpiry l rb running ((settleDue_iff _ _).mpr ⟨c, check, due⟩)
    rw [if_pos ((failsAt_iff s l rb).mpr failed)] at judged
    obtain ⟨-, unforced, sound, -⟩ := failed
    obtain ⟨v, after, told⟩ := checkFailed_eq s l rb sound
    have closed := closeLines_record (u := (s.setLine l (s.checkedLine l rb)).failLine l) (r := (s.checkedLine l rb).failedAt s.now)
      (by rw [after]) (by rw [after]) (by rw [after]) (by rw [after]) rfl
    generalize (s.setLine l (s.checkedLine l rb)).failLine l = u at judged after closed
    have record := get_of_set closed
    have frame : closeLines s u = { u with line := (closeLines s u).line } := rfl
    generalize closeLines s u = w at judged closed record frame
    rw [after] at frame
    have silent : w.driven l = false := by
      unfold State.driven
      rw [record]
      unfold LineRec.driven
      have force : ((s.checkedLine l rb).failedAt s.now).force = .none := unforced
      have fault : ((s.checkedLine l rb).failedAt s.now).fault = .failed := rfl
      simp [force, fault]
    refine ⟨_, judged, read, ?_, ?_, silent, fun p => ?_⟩
    · have engine : (w.line[l]).engine = ((s.checkedLine l rb).failedAt s.now).engine := by rw [record]
      have level : settleAfter s { w with pinReadback := readbackRead s.pinReadback l rb } l none = settleAfter s w l none := rfl
      have unsettled : ((s.checkedLine l rb).failedAt s.now).settle = none := rfl
      rw [unsettled] at closed
      dsimp only at level ⊢
      rw [engine, level]
      generalize settleAfter s w l none = k at closed
      rw [closed] at frame
      subst frame
      rfl
    · dsimp only
      rw [record]
      exact setOff_setOff _ _ _
    · rw [frame]
      exact told p
  · rintro due
    obtain ⟨c, check, expired⟩ := (settleDue_iff _ _).mp due
    rcases quiet with idle | ⟨d, pending, early⟩
    · rw [idle] at check
      cases check
    · cases pending.symm.trans check
      omega

end Sys2Proof.Machine

/-! PROOFS. Live entries by their index and by their handle (R45, R46). -/

namespace Sys2Proof.Machine

section
variable {t : Timetable} {e : Entry}

theorem entryAt_some {i : Fin 256} (h : t.entryAt i = some e) : e ∈ t.live ∧ e.index = i := by
  have stands : (e.index == i) = true := List.find?_some (p := fun x : Entry => x.index == i) h
  exact ⟨List.mem_of_find?_eq_some h, beq_iff_eq.mp stands⟩

theorem find?_index (live : List Entry) (distinct : (live.map Entry.index).Nodup) (mem : e ∈ live) :
    live.find? (fun x => x.index == e.index) = some e := by
  induction live with
  | nil => cases mem
  | cons x live ih =>
    obtain ⟨apart, distinct⟩ := List.nodup_cons.mp distinct
    rcases List.mem_cons.mp mem with rfl | later
    · simp
    · have other : x.index ≠ e.index := fun same => apart (by rw [same]; exact List.mem_map_of_mem later)
      exact (List.find?_cons_of_neg (by simp [other])).trans (ih distinct later)

variable (law : TableLaw t)
include law

theorem entryAt_live (mem : e ∈ t.live) : t.entryAt e.index = some e := by
  obtain ⟨-, distinct, -⟩ := law
  exact find?_index t.live distinct mem

/-- On a lawful table the handle of a live entry names it. -/
theorem resolve_live (mem : e ∈ t.live) : t.resolve e.fields.handle = some e := by
  obtain ⟨-, -, handles, -⟩ := id law
  rw [handles e mem]
  exact (if_pos rfl).trans (entryAt_live law mem)

theorem resolve_some {h : Handle} (found : t.resolve h = some e) : e ∈ t.live ∧ e.fields.handle = h := by
  obtain ⟨-, -, handles, -⟩ := id law
  obtain ⟨i, g⟩ := h
  unfold Timetable.resolve at found
  split at found
  · next generation =>
    obtain ⟨mem, index⟩ := entryAt_some found
    refine ⟨mem, ?_⟩
    rw [handles e mem]
    dsimp only at index generation
    subst index
    rw [generation]
  · cases found

theorem resolve_none {h : Handle} (absent : ∀ e ∈ t.live, e.fields.handle ≠ h) : t.resolve h = none := by
  cases found : t.resolve h with
  | none => rfl
  | some e =>
    obtain ⟨mem, names⟩ := resolve_some law found
    exact absurd names (absent e mem)

end

theorem ownEntry_live {s : State} {e : Entry} (law : TableLaw s.table) (mem : e ∈ s.table.live) (p : Port)
    (own : e.fields.owner = p) : s.ownEntry p e.fields.handle = some e := by
  unfold State.ownEntry
  rw [resolve_live law mem]
  exact if_pos own

theorem ownEntry_some {s : State} {e : Entry} {p : Port} {h : Handle} (law : TableLaw s.table)
    (found : s.ownEntry p h = some e) : e ∈ s.table.live ∧ e.fields.handle = h ∧ e.fields.owner = p := by
  unfold State.ownEntry at found
  cases resolved : s.table.resolve h with
  | none =>
    rw [resolved] at found
    cases found
  | some x =>
    rw [resolved] at found
    by_cases own : x.fields.owner = p
    · cases (if_pos own).symm.trans found
      obtain ⟨mem, names⟩ := resolve_some law resolved
      exact ⟨mem, names, own⟩
    · cases (if_neg own).symm.trans found

theorem ownEntry_none {s : State} {p : Port} {h : Handle} (law : TableLaw s.table)
    (absent : ∀ e ∈ s.table.live, e.fields.handle = h → e.fields.owner ≠ p) : s.ownEntry p h = none := by
  cases found : s.ownEntry p h with
  | none => rfl
  | some e =>
    obtain ⟨mem, names, own⟩ := ownEntry_some law found
    exact absurd own (absent e mem names)

end Sys2Proof.Machine

/-! PROOFS. Consultations: what a mismatched line record costs, and who is refused for it (O36). -/

namespace Sys2Proof.Machine

/-! ## The driven level of one line across an event -/

theorem settleAfter_congr {s s' t t' : State} {l : LineNo} (record : s'.line[l] = s.line[l])
    (mode : s'.lineBlock.mode = s.lineBlock.mode) (now : s'.now = s.now) (params : s'.control.params = s.control.params)
    (record_after : t'.line[l] = t.line[l]) (mode_after : t'.lineBlock.mode = t.lineBlock.mode) (k : Option SettleCheck) :
    settleAfter s' t' l k = settleAfter s t l k := by
  unfold settleAfter State.driven
  rw [record, mode, now, params, record_after, mode_after]

/-- The driven level does not read the settle check, nor does its change. -/
theorem settleAfter_same_driven {s t t' : State} {l : LineNo} (level : t'.driven l = t.driven l)
    (mode : t'.lineBlock.mode = t.lineBlock.mode) (k : Option SettleCheck) : settleAfter s t' l k = settleAfter s t l k := by
  unfold settleAfter
  rw [level, mode]

/-! ## One record cleared (R43) -/

/-- The lines of a list cut for every port, one after another. -/
def State.cutLines (s : State) (ls : List LineNo) : State := ls.foldl (fun u l => u.cutAll Port.all (singleLine l)) s

/-- A state with other line records and other things on their way. -/
def State.beside (u : State) (line : Vector LineRec 32) (wires : Wires) : State := { u with line := line, wires := wires }

theorem cutAll_beside (u : State) (line : Vector LineRec 32) (wires : Wires) (ps : List Port) (x : LineSet) :
    (u.beside line wires).cutAll ps x = (u.cutAll ps x).beside line wires :=
  List.foldl_hom (fun t : State => t.beside line wires) (g₁ := fun t p => t.cut p x) (g₂ := fun t p => t.cut p x)
    fun _ _ => rfl

theorem cutLines_beside (u : State) (line : Vector LineRec 32) (wires : Wires) (ls : List LineNo) :
    (u.beside line wires).cutLines ls = (u.cutLines ls).beside line wires :=
  List.foldl_hom (fun t : State => t.beside line wires) (g₁ := fun u l => u.cutAll Port.all (singleLine l))
    (g₂ := fun u l => u.cutAll Port.all (singleLine l)) fun _ _ => cutAll_beside _ _ _ _ _

theorem cutLines_eq (s : State) (ls : List LineNo) : s.cutLines ls = { s with
    slots := (s.cutLines ls).slots, table := (s.cutLines ls).table, templates := (s.cutLines ls).templates } :=
  foldl_keeps (fun s t : State => t = { s with slots := t.slots, table := t.table, templates := t.templates })
    (fun u l => u.cutAll Port.all (singleLine l)) (fun _ => rfl) (fun _ _ _ h k => by rw [k, h])
    (fun u l => cutAll_eq u Port.all (singleLine l)) ls s

/-- A cleared record with a settle check. -/
def LineRec.clearedWith (r : LineRec) (k : Option SettleCheck) : LineRec := { r.cleared with settle := k }

theorem settleAfter_handFinding (s t : State) (l : LineNo) (k : Option SettleCheck) (f : Finding) :
    settleAfter s (t.handFinding f) l k = settleAfter s t l k := rfl

/-- The wires with one more finding of a line. -/
def Wires.found (w : Wires) (ls : List LineNo) : Wires := { w with findings := w.findings ++ ls.map .line }

theorem handFinding_beside (u : State) (l : LineNo) : u.handFinding (.line l) = u.beside u.line (u.wires.found [l]) := rfl

theorem closeLines_beside (s u : State) : closeLines s u = u.beside (closeLines s u).line u.wires := rfl

theorem clearLine_eq (s : State) (l : LineNo) :
    s.clearLine l = (s.cutAll Port.all (singleLine l)).beside (s.clearLine l).line (s.wires.found [l]) := by
  have unfolded : s.clearLine l
      = (closeLines s ((s.setLine l s.line[l].cleared).cutAll Port.all (singleLine l))).handFinding (.line l) := rfl
  have wires := cutAll_wires s Port.all (singleLine l)
  have closed := closeLines_beside s ((s.cutAll Port.all (singleLine l)).setLine l s.line[l].cleared)
  rw [unfolded, cutAll_setLine, handFinding_beside]
  generalize closeLines s _ = w at closed ⊢
  rw [closed]
  generalize s.cutAll Port.all (singleLine l) = u at wires
  rw [← wires]
  rfl

theorem clearLine_line (s : State) (l : LineNo) : (s.clearLine l).line
    = s.line.set l ((s.line[l]).clearedWith (settleAfter s (s.clearLine l) l (s.line[l]).settle)) := by
  have frame := cutAll_eq s Port.all (singleLine l)
  have unfolded : s.clearLine l
      = (closeLines s ((s.setLine l s.line[l].cleared).cutAll Port.all (singleLine l))).handFinding (.line l) := rfl
  have closed := closeLines_record (s := s) (u := (s.cutAll Port.all (singleLine l)).setLine l (s.line[l]).cleared)
    (r := (s.line[l]).cleared) (by rw [State.setLine_line, frame]) (by rw [frame]; rfl) (by rw [frame]; rfl) (by rw [frame]; rfl) rfl
  have kept : ((s.line[l]).cleared).settle = (s.line[l]).settle := rfl
  rw [kept] at closed
  rw [unfolded, cutAll_setLine, settleAfter_handFinding]
  generalize closeLines s _ = w at closed ⊢
  exact closed

theorem clearLine_keeps (s : State) (l : LineNo) : (s.clearLine l).lineBlock = s.lineBlock ∧ (s.clearLine l).now = s.now
    ∧ (s.clearLine l).control = s.control := by
  have frame := clearLine_eq s l
  have cuts := cutAll_eq s Port.all (singleLine l)
  generalize s.clearLine l = t at frame ⊢
  generalize s.cutAll Port.all (singleLine l) = u at cuts frame
  rw [frame, cuts]
  exact ⟨rfl, rfl, rfl⟩

theorem clearLine_get (s : State) (l m : LineNo) : (s.clearLine l).line[m] = if l = m then
    (s.line[l]).clearedWith (settleAfter s (s.clearLine l) l (s.line[l]).settle) else s.line[m] := by
  have lines := clearLine_line s l
  generalize s.clearLine l = t at lines ⊢
  generalize (s.line[l]).clearedWith _ = r at lines ⊢
  rw [lines]
  simp only [Fin.getElem_fin, Vector.getElem_set, Fin.ext_iff]

/-! ## A consultation (R23, R153) -/

/-- The lines of a list whose record does not agree with its code. -/
def State.mismatched (s : State) (ls : List LineNo) : List LineNo := ls.filter fun l => !(s.line[l]).codeOk

theorem mem_mismatched (s : State) (ls : List LineNo) (l : LineNo) :
    l ∈ s.mismatched ls ↔ l ∈ ls ∧ (s.line[l]).codeOk = false := by simp [State.mismatched]

/-- What the verification of a list of lines leaves. -/
structure Verified (s : State) (ls : List LineNo) (t : State) : Prop where
  frame : t = (s.cutLines (s.mismatched ls)).beside t.line (s.wires.found (s.mismatched ls))
  kept : ∀ l, l ∉ s.mismatched ls → t.line[l] = s.line[l]
  cleared : ∀ l ∈ s.mismatched ls,
    t.line[l] = (s.line[l]).clearedWith (settleAfter s t l (s.line[l]).settle)

theorem Verified.lineBlock {s t : State} {ls : List LineNo} (v : Verified s ls t) : t.lineBlock = s.lineBlock := by
  rw [v.frame, cutLines_eq]
  rfl

/-- A first line verified, then the rest. -/
theorem Verified.cons {s t : State} {l : LineNo} {ls : List LineNo} (absent : l ∉ ls) (v : Verified (s.verifyLine l) ls t) :
    Verified s (l :: ls) t := by
  by_cases sound : (s.line[l]).codeOk = true
  · have same : s.verifyLine l = s := if_pos sound
    have bad : s.mismatched (l :: ls) = s.mismatched ls := List.filter_cons_of_neg (by rw [sound]; decide)
    rw [same] at v
    exact ⟨by rw [bad]; exact v.frame, by rw [bad]; exact v.kept, by rw [bad]; exact v.cleared⟩
  · have clears : s.verifyLine l = s.clearLine l := if_neg sound
    obtain ⟨block, now, control⟩ := clearLine_keeps s l
    have others : ∀ m ∈ ls, (s.clearLine l).line[m] = s.line[m] := fun m mem => by
      rw [clearLine_get, if_neg]
      rintro rfl
      exact absent mem
    have bad : s.mismatched (l :: ls) = l :: (s.clearLine l).mismatched ls := by
      simp only [State.mismatched, List.filter_cons, sound]
      refine congrArg (l :: ·) (List.filter_congr fun m mem => ?_)
      rw [others m mem]
    have apart : l ∉ (s.clearLine l).mismatched ls := fun mem => absent ((mem_mismatched _ _ _).mp mem).1
    rw [clears] at v
    refine ⟨v.frame.trans ?_, fun m fine => ?_, fun m mem => ?_⟩
    · have cuts : s.cutLines (l :: (s.clearLine l).mismatched ls)
          = (s.cutAll Port.all (singleLine l)).cutLines ((s.clearLine l).mismatched ls) := rfl
      rw [bad, cuts]
      generalize (s.clearLine l).mismatched ls = rest
      rw [clearLine_eq, cutLines_beside]
      unfold State.beside Wires.found
      simp
    · rw [bad] at fine
      obtain ⟨other, fine⟩ := not_or.mp (mt List.mem_cons.mpr fine)
      rw [v.kept m fine, clearLine_get, if_neg (Ne.symm other)]
    · rw [bad] at mem
      rcases List.mem_cons.mp mem with same | mem
      · subst same
        have kept := v.kept _ apart
        have level : t.driven m = (s.clearLine m).driven m := by
          unfold State.driven
          rw [v.lineBlock, kept]
        rw [kept, clearLine_get, if_pos rfl, settleAfter_same_driven level (by rw [v.lineBlock])]
      · have other := others m ((mem_mismatched _ _ _).mp mem).1
        rw [v.cleared m mem, other, settleAfter_congr other (by rw [block]) now (by rw [control]) rfl rfl]

theorem verified (s : State) (ls : List LineNo) (distinct : ls.Nodup) : Verified s ls (ls.foldl State.verifyLine s) := by
  induction ls generalizing s with
  | nil => exact ⟨by simp [State.mismatched, State.cutLines, State.beside, Wires.found], fun _ _ => rfl, fun l mem => by cases mem⟩
  | cons l ls ih =>
    obtain ⟨absent, distinct⟩ := List.nodup_cons.mp distinct
    exact .cons absent (ih (s.verifyLine l) distinct)

theorem consult_verified (s : State) (x : LineSet) : Verified s (linesOf x) (s.consult x) :=
  verified s (linesOf x) (linesOf_nodup x)

/-- A set with a line that meets a test has a lowest such line. -/
theorem exists_lowest {x : LineSet} {test : LineNo → Bool} {l : LineNo} (mem : hasLine x l = true) (meets : test l = true) :
    ∃ m, IsLowest x test m := by
  obtain ⟨m, ⟨mem, meets⟩, lowest⟩ := WellFounded.has_min wellFounded_lt
    {k : LineNo | hasLine x k = true ∧ test k = true} ⟨l, mem, meets⟩
  exact ⟨m, mem, meets, fun k below named => Bool.eq_false_iff.mpr fun h => lowest k ⟨named, h⟩ below⟩

/-- A consultation of a set with a mismatched record leaves a line of the set that no port holds. -/
theorem consult_unleased {s : State} {x : LineSet} (mismatch : ¬CodesMatch s x) (p : Port) :
    ∃ l, IsLowest x (fun l => !((s.consult x).line[l]).heldBy p) l := by
  obtain ⟨l, bad⟩ := not_forall.mp mismatch
  obtain ⟨named, bad⟩ := Classical.not_imp.mp bad
  have mem : l ∈ s.mismatched (linesOf x) :=
    (mem_mismatched _ _ _).mpr ⟨(mem_linesOf x l).mpr named, Bool.eq_false_iff.mpr bad⟩
  refine exists_lowest named (l := l) ?_
  rw [(consult_verified s x).cleared l mem]
  rfl

theorem firstUnleased_lowest {s : State} {p : Port} {x : LineSet} {l : LineNo}
    (lowest : IsLowest x (fun l => !(s.line[l]).heldBy p) l) : s.firstUnleased p x = some l := find?_lowest _ _ _ lowest

/-! ## Requests and instances refused for a mismatch -/

/-- A proposal with a mismatched line is refused for its lease. -/
theorem propose_mismatched (s : State) (n : Proposal) (running : s.table.mode = .run) (mismatch : ¬CodesMatch s n.lines) :
    s.propose n = (s.consult n.lines, .no .notLeased) := by
  obtain ⟨l, lowest⟩ := consult_unleased mismatch n.owner
  unfold State.propose
  rw [if_neg (not_not_intro running)]
  simp only [firstUnleased_lowest lowest, Option.isSome_some, if_true]

theorem postRequest_unleased (p : Port) (body : List Byte) (s : State) (b : PostBody) (l : LineNo)
    (running : (s.slots.get p).mode = .run) (parsed : parsePost body = some b)
    (lowest : IsLowest b.lines (fun l => !((s.consult b.lines).line[l]).heldBy p) l) :
    postRequest p body s = (s.consult b.lines, { status := .notLeased, body := [byte l.val] }) := by
  unfold postRequest
  rw [if_neg (not_not_intro running)]
  simp only [parsed, firstUnleased_lowest lowest]

/-- The width of an amendment fits the action: a width goes with a pulse. -/
theorem amended_isSome (a : LineAction) (w : Option Word16) (fits : w = none ∨ ∃ v, a = .pulse v) :
    ∃ a', a.amended w = some a' := by
  rcases fits with rfl | ⟨v, rfl⟩
  · exact ⟨a, rfl⟩
  · cases w with
    | none => exact ⟨.pulse v, rfl⟩
    | some u => exact ⟨.pulse u, rfl⟩

theorem amendRequest_checked (p : Port) (body : List Byte) (s : State) (b : AmendBody) (e : Entry) (a : LineAction)
    (running : s.table.mode = .run) (parsed : parseAmend body = some b) (named : s.ownEntry p b.handle = some e)
    (sound : e.codeOk = true) (armed : e.fields.stage = .armed) (fits : e.fields.action.amended b.width = some a) :
    amendRequest p body s = s.amendChecked p e b.due a := by
  have free : e.fields.stage.isHeld = false := by rw [armed]; rfl
  unfold amendRequest
  rw [if_neg (not_not_intro running)]
  simp only [parsed, named, sound, free, fits, if_true, Bool.false_eq_true, if_false]

theorem amendChecked_unleased (s : State) (p : Port) (e : Entry) (due : Word32) (a : LineAction) (l : LineNo)
    (lowest : IsLowest e.fields.lines (fun l => !((s.consult e.fields.lines).line[l]).heldBy p) l) :
    s.amendChecked p e due a = (s.consult e.fields.lines, Reply.refuse .notLeased) := by
  unfold State.amendChecked
  simp only [firstUnleased_lowest lowest, Option.isSome_some, if_true]

theorem heldByOther_eq_false {p : Port} {o : Option Template} (free : ∀ m, o = some m → m.fields.owner = p) :
    heldByOther p o = false := by
  cases o with
  | none => rfl
  | some m => simp [heldByOther, free m rfl]

theorem defineRequest_unleased (p : Port) (body : List Byte) (s : State) (b : TemplateBody) (l : LineNo)
    (taken : s.templates.mode = .config ∨ s.templates.mode = .run) (parsed : parseTemplate body = some b)
    (free : ∀ m, s.templates.place[b.num] = some m → m.fields.owner = p)
    (lowest : IsLowest b.lines (fun l => !((s.consult b.lines).line[l]).heldBy p) l) :
    defineRequest p body s = (s.consult b.lines, { status := .notLeased, body := [byte l.val] }) := by
  unfold defineRequest
  rw [if_neg fun ⟨notConfig, notRun⟩ => taken.elim notConfig notRun]
  simp only [parsed, heldByOther_eq_false free, Bool.false_eq_true, if_false, firstUnleased_lowest lowest]

/-! ## Templates across a consultation -/

/-- Every template of the second state stands in the first, with the same fields but its lines. -/
def TemplatesCut (s t : State) : Prop := ∀ (k : TemplateNo) m, t.templates.place[k] = some m →
  ∃ b, s.templates.place[k] = some b ∧ m.fields = { b.fields with lines := m.fields.lines }

theorem TemplatesCut.refl (s : State) : TemplatesCut s s := fun _ m h => ⟨m, h, rfl⟩

theorem TemplatesCut.trans (s t u : State) (h : TemplatesCut s t) (k : TemplatesCut t u) : TemplatesCut s u :=
  fun n m placed => by
    obtain ⟨b, before, fields⟩ := k n m placed
    obtain ⟨a, first, same⟩ := h n b before
    exact ⟨a, first, by rw [fields, same]⟩

theorem TemplatesCut.of_templates {s t : State} (same : t.templates = s.templates) : TemplatesCut s t :=
  fun _ m h => ⟨m, same ▸ h, rfl⟩

theorem cut_templatesCut (s : State) (p : Port) (x : LineSet) : TemplatesCut s (s.cut p x) := by
  intro n m placed
  rw [cut_place] at placed
  cases before : s.templates.place[n] with
  | none =>
    rw [before] at placed
    cases placed
  | some b =>
    rw [before, cutPlace_some] at placed
    refine ⟨b, rfl, ?_⟩
    split at placed
    · cases placed; rfl
    · split at placed
      · cases placed
      · cases placed; rfl

theorem cutLines_templatesCut (s : State) (ls : List LineNo) : TemplatesCut s (s.cutLines ls) :=
  foldl_keeps TemplatesCut _ TemplatesCut.refl TemplatesCut.trans (fun u l =>
    foldl_keeps TemplatesCut _ TemplatesCut.refl TemplatesCut.trans (fun u p => cut_templatesCut u p (singleLine l)) _ u) _ s

theorem consult_templatesCut (s : State) (x : LineSet) : TemplatesCut s (s.consult x) :=
  TemplatesCut.trans _ _ _ (cutLines_templatesCut s _) (.of_templates (by rw [(consult_verified s x).frame]; rfl))

/-! ## The examination of the places (R129) -/

theorem acceptsCapture_iff (f : TemplateFields) (h : HandOff) :
    f.acceptsCapture h = true ↔ f.active = true ∧ f.sensor = h.sensor ∧ f.edge = h.edge := by
  simp [TemplateFields.acceptsCapture, and_assoc]

/-- No template of the place accepts the capture. -/
def QuietPlace (h : HandOff) (s : State) (k : TemplateNo) : Prop :=
  ∀ m, s.templates.place[k] = some m → m.fields.acceptsCapture h = false

theorem examinePlace_quiet {h : HandOff} {s : State} {k : TemplateNo} (quiet : QuietPlace h s k) :
    State.examinePlace h s k = s := by
  unfold State.examinePlace
  cases placed : s.templates.place[k] with
  | none => rfl
  | some m => simp only [quiet m placed, Bool.false_eq_true, if_false]

theorem examinePlaces_quiet (h : HandOff) (s : State) (ks : List TemplateNo) (quiet : ∀ k ∈ ks, QuietPlace h s k) :
    ks.foldl (State.examinePlace h) s = s := by
  induction ks with
  | nil => rfl
  | cons k ks ih =>
    rw [List.foldl_cons, examinePlace_quiet (quiet k (List.mem_cons_self ..))]
    exact ih fun j mem => quiet j (List.mem_cons_of_mem _ mem)

/-- With one place to accept the capture, the examination is that of this place. -/
theorem examinePlaces_only (h : HandOff) (s : State) (n : TemplateNo) (before : ∀ k, k ≠ n → QuietPlace h s k)
    (after : ∀ k, k ≠ n → QuietPlace h (State.examinePlace h s n) k) :
    allPlaces.foldl (State.examinePlace h) s = State.examinePlace h s n := by
  obtain ⟨pre, post, split⟩ := List.append_of_mem (List.mem_finRange n)
  have distinct : (pre ++ n :: post).Nodup := split ▸ List.nodup_finRange 32
  obtain ⟨-, distinct, apart⟩ := List.nodup_append.mp distinct
  obtain ⟨absent, -⟩ := List.nodup_cons.mp distinct
  have places : allPlaces = pre ++ n :: post := split
  rw [places, List.foldl_append, List.foldl_cons, examinePlaces_quiet h s pre fun k mem =>
    before k (apart k mem n (List.mem_cons_self ..))]
  exact examinePlaces_quiet h _ post fun k mem => after k fun same => absent (same ▸ mem)

theorem exec_captureHandOff (s : State) (h : HandOff) (rest : List HandOff) (running : s.inReset = none)
    (queue : s.wires.handOffs = h :: rest) : exec .captureHandOff s
      = .next (allPlaces.foldl (State.examinePlace h) { s with wires := { s.wires with handOffs := rest } }) := by
  simp only [exec, execCaptureHandOff, whenRunning_running _ s running, queue]
  rfl

theorem instanceFailed_place (s : State) (n k : TemplateNo) (f : TemplateFields) (seq : Word32) (st : Status) (other : k ≠ n) :
    (s.instanceFailed n f seq st).templates.place[k] = s.templates.place[k] := by
  have place : (s.instanceFailed n f seq st).templates.place
      = s.templates.place.set n ((s.templates.place[n]).map Template.failed) := rfl
  rw [place]
  simp [Fin.val_ne_of_ne (Ne.symm other)]

theorem examinePlace_mismatched (s : State) (h : HandOff) (n : TemplateNo) (m : Template) (running : s.table.mode = .run)
    (placed : s.templates.place[n] = some m) (hits : m.fields.acceptsCapture h = true) (sound : m.codeOk = true)
    (mismatch : ¬CodesMatch s m.fields.lines) :
    State.examinePlace h s n = (s.consult m.fields.lines).instanceFailed n m.fields h.seq .notLeased := by
  have refused : s.propose (m.fields.proposal n h) = (s.consult m.fields.lines, .no .notLeased) :=
    propose_mismatched s (m.fields.proposal n h) running mismatch
  unfold State.examinePlace
  simp only [placed, hits, sound, if_true, State.instantiate, refused]

theorem quiet_of_templatesCut {h : HandOff} {s t : State} {k : TemplateNo} (cut : TemplatesCut s t) (quiet : QuietPlace h s k) :
    QuietPlace h t k := by
  intro m placed
  obtain ⟨b, before, fields⟩ := cut k m placed
  rw [fields]
  exact quiet b before

/-- Settles O36: the records cleared one by one, then each asker refused at a line that no port holds any more. -/
theorem consultationsClearCorruptLineRecords : Obligations.ConsultationsClearCorruptLineRecords := by
  unfold Obligations.ConsultationsClearCorruptLineRecords
  refine ⟨fun s x => ?consult, fun s n running mismatch => propose_mismatched s n running mismatch,
    fun s p w b waits running parsed mismatch => ?post,
    fun s p w b e waits running parsed law mem names own sound armed fits mismatch => ?amend,
    fun s p w b waits taken parsed free mismatch => ?define,
    fun s h rest n m running queue run placed here sound others mismatch => ?handOff⟩
  case consult =>
    have v := consult_verified s x
    refine ⟨v.frame.trans ?_, v.kept, v.cleared⟩
    rw [cutLines_eq]
    rfl
  case post =>
    obtain ⟨l, lowest⟩ := consult_unleased mismatch p
    refine ⟨l, lowest, serve_unnoticed waits (postRequest p) _ _
      (postRequest_unleased p w.body s b l running parsed lowest) (consult_notices s b.lines)⟩
  case amend =>
    obtain ⟨l, lowest⟩ := consult_unleased mismatch p
    obtain ⟨a, amended⟩ := amended_isSome _ _ fits
    have named : s.ownEntry p b.handle = some e := names ▸ ownEntry_live law mem p own
    refine serve_unnoticed waits (amendRequest p) _ (Reply.refuse .notLeased) ?_ (consult_notices s e.fields.lines)
    rw [amendRequest_checked p w.body s b e a running parsed named sound armed amended,
      amendChecked_unleased s p e b.due a l lowest]
  case define =>
    obtain ⟨l, lowest⟩ := consult_unleased mismatch p
    refine ⟨l, lowest, serve_unnoticed waits (defineRequest p) _ _
      (defineRequest_unleased p w.body s b l taken parsed free lowest) (consult_notices s b.lines)⟩
  case handOff =>
    let u : State := { s with wires := { s.wires with handOffs := rest } }
    have hit : m.fields.acceptsCapture h = true := (acceptsCapture_iff _ _).mpr here
    have quiet : ∀ k, k ≠ n → QuietPlace h u k := fun k other x found =>
      Bool.eq_false_iff.mpr fun accepts => others k x other found ((acceptsCapture_iff _ _).mp accepts)
    have examined := examinePlace_mismatched u h n m run placed hit sound mismatch
    have after : ∀ k, k ≠ n → QuietPlace h (State.examinePlace h u n) k := fun k other x found => by
      rw [examined, instanceFailed_place _ _ _ _ _ _ other] at found
      exact quiet_of_templatesCut (consult_templatesCut u m.fields.lines) (quiet k other) x found
    rw [exec_captureHandOff s h rest running queue, examinePlaces_only h u n quiet after, examined]
    rfl

end Sys2Proof.Machine

/-! PROOFS. The history period boundary (O34). -/

namespace Sys2Proof.Machine

/-! ## Shares dropped one after another (R21) -/

/-- A line record left with some of its shares, its code computed anew. -/
def LineRec.holding (r : LineRec) (hs : List Share) : LineRec :=
  let c := { r with shares := hs, leaseMode := if hs = [] then .free else r.leaseMode }
  { c with code := c.covered }

theorem withoutShares_none {drop : Share → Bool} {r : LineRec} (all : ∀ h ∈ r.shares, drop h = false) :
    withoutShares drop r = r := by
  refine if_pos (List.filter_eq_self.mpr fun h mem => ?_)
  rw [all h mem]
  rfl

theorem withoutShares_some {drop : Share → Bool} {r : LineRec} {h : Share} (mem : h ∈ r.shares) (dropped : drop h = true) :
    withoutShares drop r = r.holding (r.shares.filter fun h => !drop h) := by
  have fewer : (r.shares.filter fun h => !drop h).length < r.shares.length := by
    rw [List.length_filter_lt_length_iff_exists]
    exact ⟨h, mem, by simp [dropped]⟩
  unfold withoutShares
  dsimp only
  rw [if_neg fun same => by rw [same] at fewer; exact Nat.lt_irrefl _ fewer]
  refine if_neg fun same => ?_
  have holders := congrArg (fun c : LineCode => c.holders.length) same
  simp only [LineRec.covered, List.length_map] at holders
  omega

theorem withoutShares_cases (drop : Share → Bool) (r : LineRec) :
    withoutShares drop r = r.holding (r.shares.filter fun h => !drop h)
    ∨ ((∀ h ∈ r.shares, drop h = false) ∧ withoutShares drop r = r) := by
  by_cases some_dropped : ∃ h ∈ r.shares, drop h = true
  · obtain ⟨h, mem, dropped⟩ := some_dropped
    exact .inl (withoutShares_some mem dropped)
  · have all : ∀ h ∈ r.shares, drop h = false := fun h mem =>
      Bool.eq_false_iff.mpr fun dropped => some_dropped ⟨h, mem, dropped⟩
    exact .inr ⟨all, withoutShares_none all⟩

theorem withoutShares_shares (drop : Share → Bool) (r : LineRec) :
    (withoutShares drop r).shares = r.shares.filter fun h => !drop h := by
  rcases withoutShares_cases drop r with left | ⟨all, same⟩
  · rw [left]
    rfl
  · rw [same]
    exact (List.filter_eq_self.mpr fun h mem => by rw [all h mem]; rfl).symm

theorem withoutShares_history (drop : Share → Bool) (r : LineRec) : (withoutShares drop r).history = r.history := by
  rcases withoutShares_cases drop r with left | ⟨-, same⟩
  · rw [left]
    rfl
  · rw [same]

theorem withoutShares_congr {f g : Share → Bool} {r : LineRec} (same : ∀ h ∈ r.shares, f h = g h) :
    withoutShares f r = withoutShares g r := by
  have left : (r.shares.filter fun h => !f h) = r.shares.filter fun h => !g h :=
    List.filter_congr fun h mem => by rw [same h mem]
  unfold withoutShares
  rw [left]

/-- Shares dropped by one test and then by another are dropped by both together. -/
theorem withoutShares_withoutShares (f g : Share → Bool) (r : LineRec) :
    withoutShares g (withoutShares f r) = withoutShares (fun h => f h || g h) r := by
  by_cases first : ∃ h ∈ r.shares, f h = true
  · obtain ⟨h, mem, dropped⟩ := first
    have left : (r.shares.filter fun h => !f h).filter (fun h => !g h) = r.shares.filter fun h => !(f h || g h) := by
      rw [List.filter_filter]
      exact List.filter_congr fun h _ => by cases f h <;> cases g h <;> rfl
    rw [withoutShares_some mem dropped, withoutShares_some mem (drop := fun h => f h || g h) (by rw [dropped]; rfl), ← left]
    generalize r.shares.filter (fun h => !f h) = hs
    by_cases second : ∃ k ∈ hs, g k = true
    · obtain ⟨k, mem, dropped⟩ := second
      rw [withoutShares_some (r := r.holding hs) mem dropped]
      have nonempty : hs ≠ [] := List.ne_nil_of_mem mem
      unfold LineRec.holding
      simp only [if_neg nonempty]
      rfl
    · have all : ∀ k ∈ hs, g k = false := fun k mem => Bool.eq_false_iff.mpr fun dropped => second ⟨k, mem, dropped⟩
      rw [withoutShares_none (r := r.holding hs) all, List.filter_eq_self.mpr fun k mem => by rw [all k mem]; rfl]
  · have none_dropped : ∀ h ∈ r.shares, f h = false := fun h mem =>
      Bool.eq_false_iff.mpr fun dropped => first ⟨h, mem, dropped⟩
    rw [withoutShares_none none_dropped]
    exact withoutShares_congr fun h mem => by rw [none_dropped h mem]; rfl

/-! ## A cut of a line that the port does not name -/

theorem and_singleLine {x : LineSet} {l : LineNo} (absent : hasLine x l = false) : x &&& singleLine l = 0 := by
  refine lineSet_ext _ _ fun m => ?_
  rw [hasLine_and, hasLine_singleLine]
  by_cases same : l = m
  · subst same
    simp [absent]
  · simp [same]

/-- The port names the line in a slot, a live entry or a template (R31). -/
def Names (s : State) (p : Port) (l : LineNo) : Prop :=
  (∃ i : Fin 4, ∃ c, (s.slots.get p).slot[i] = some c ∧ hasLine c.lines l = true)
  ∨ (∃ e ∈ s.table.live, e.fields.owner = p ∧ hasLine e.fields.lines l = true)
  ∨ (∃ n : TemplateNo, ∃ m, s.templates.place[n] = some m ∧ m.fields.owner = p ∧ hasLine m.fields.lines l = true)

theorem any_toList {α : Type} {n : Nat} (v : Vector (Option α) n) (f : α → Bool) :
    v.toList.any (fun o => o.any f) = true ↔ ∃ i : Fin n, ∃ a, v[i] = some a ∧ f a = true := by
  rw [toList_eq_map, List.any_map, List.any_eq_true]
  simp [Option.any_eq_true]

theorem portNames_iff (s : State) (p : Port) (l : LineNo) : s.portNames p l = true ↔ Names s p l := by
  have entries : s.table.live.any (fun e => e.fields.owner == p && hasLine e.fields.lines l) = true
      ↔ ∃ e ∈ s.table.live, e.fields.owner = p ∧ hasLine e.fields.lines l = true := by simp
  have templates : s.templates.place.toList.any (fun o => o.any fun t => t.fields.owner == p && hasLine t.fields.lines l) = true
      ↔ ∃ n : TemplateNo, ∃ m, s.templates.place[n] = some m ∧ m.fields.owner = p ∧ hasLine m.fields.lines l = true := by
    rw [any_toList]
    simp
  unfold State.portNames Names
  rw [Bool.or_eq_true, Bool.or_eq_true, any_toList, entries, templates, or_assoc]

theorem slotsCut_unnamed {b : Slots} {l : LineNo} (law : SlotsLaw b)
    (unnamed : ∀ (i : Fin 4) c, b.slot[i] = some c → hasLine c.lines l = false) : Slots.cut (singleLine l) b = b := by
  obtain ⟨-, ages, -⟩ := law
  have slots : b.slot.map (cutSlot (singleLine l)) = b.slot := by
    refine Vector.ext fun i h => ?_
    rw [Vector.getElem_map]
    cases content : b.slot[i] with
    | none => rfl
    | some c => rw [cutSlot_some, if_pos (and_singleLine (unnamed ⟨i, h⟩ c content))]
  have age : b.age.filter (fun i => (b.slot[i]).isSome) = b.age := List.filter_eq_self.mpr fun i mem => (ages i).mp mem
  unfold Slots.cut
  rw [slots]
  dsimp only
  rw [age]

/-- A cut of a line that the port does not name changes nothing. -/
theorem cut_unnamed {s : State} {p : Port} {l : LineNo} (law : SlotsLaw (s.slots.get p)) (unnamed : ¬Names s p l) :
    s.cut p (singleLine l) = s := by
  obtain ⟨slots, others⟩ := not_or.mp unnamed
  obtain ⟨entries, templates⟩ := not_or.mp others
  have slot : Slots.cut (singleLine l) (s.slots.get p) = s.slots.get p := slotsCut_unnamed law fun i c content =>
    Bool.eq_false_iff.mpr fun named => slots ⟨i, c, content, named⟩
  have entry : ∀ e ∈ s.table.live, cutEntry p (singleLine l) e = some e := fun e mem => by
    rw [cutEntry_eq]
    by_cases own : e.fields.owner = p
    · exact if_pos (.inr (and_singleLine (Bool.eq_false_iff.mpr fun named => entries ⟨e, mem, own, named⟩)))
    · exact if_pos (.inl own)
  have live : s.table.live.filterMap (cutEntry p (singleLine l)) = s.table.live :=
    (List.filterMap_congr entry).trans List.filterMap_some
  have place : s.templates.place.map (cutPlace p (singleLine l)) = s.templates.place := by
    refine Vector.ext fun i h => ?_
    rw [Vector.getElem_map]
    cases content : s.templates.place[i] with
    | none => rfl
    | some m =>
      rw [cutPlace_some]
      by_cases own : m.fields.owner = p
      · exact if_pos (.inr (and_singleLine (Bool.eq_false_iff.mpr fun named =>
          templates ⟨⟨i, h⟩, m, content, own, named⟩)))
      · exact if_pos (.inl own)
  have removed : (cutCounts s p (singleLine l)).entriesRemoved = 0 := by
    rw [cutCounts_entriesRemoved]
    have kept : (s.cut p (singleLine l)).table.live = s.table.live := live
    rw [kept, Nat.sub_self]
  unfold State.cut
  dsimp only
  rw [slot, live, place, removed]
  simp only [Nat.sub_zero, PerPort.set_get_self]

/-! ## The lapse tests of a boundary (R31) -/

/-- What a port is told of a line whose share it lost. -/
def lapsedPosted (l : LineNo) : PostedNotice where
  source := .lineBlock
  own := false
  notice := { Notice.bare .leaseLapsed with line := some l }

/-- Beside the line records and the notices on their way nothing differs. -/
def LapseStep (t u : State) : Prop := u = { t with line := u.line, wires := { t.wires with notices := u.wires.notices } }

theorem LapseStep.trans {s t u : State} (h : LapseStep s t) (k : LapseStep t u) : LapseStep s u := by
  unfold LapseStep at *
  rw [k, h]

theorem LapseStep.slotsLaw {t u : State} (step : LapseStep t u) (law : t.slotsLaw) : u.slotsLaw := by
  rw [step]
  exact law

theorem LapseStep.lapses {t u : State} (step : LapseStep t u) {l : LineNo}
    (history : (u.line[l]).history = (t.line[l]).history) (h : Share) : u.lapses l h = t.lapses l h := by
  have names : u.portNames h.port l = t.portNames h.port l := by
    rw [step]
    rfl
  unfold State.lapses
  rw [history, names]

theorem lapses_iff (s : State) (l : LineNo) (h : Share) :
    s.lapses l h = true ↔ h.lapse = true ∧ h.age = 8 ∧ (s.line[l]).history = 0 ∧ ¬Names s h.port l := by
  have named : s.portNames h.port l = false ↔ ¬Names s h.port l := by rw [← portNames_iff, Bool.not_eq_true]
  unfold State.lapses
  rw [← named]
  simp [Config.ageCeiling, and_assoc]

/-- A share that lapses is dropped and its port told; there is nothing left to cut. -/
theorem testLapse_lapses {s : State} {l : LineNo} {h : Share} (law : s.slotsLaw) (lapses : s.lapses l h = true) :
    s.testLapse (l, h) = (s.changeLine l (LineRec.dropShare h.port)).notify .lineBlock h.port (lapsedPosted l).notice := by
  obtain ⟨-, -, -, unnamed⟩ := (lapses_iff s l h).mp lapses
  have cut : (s.changeLine l (LineRec.dropShare h.port)).cut h.port (singleLine l)
      = s.changeLine l (LineRec.dropShare h.port) :=
    cut_unnamed (s := s.changeLine l (LineRec.dropShare h.port)) (law h.port) unnamed
  unfold State.testLapse
  dsimp only
  rw [if_pos lapses, cut]
  rfl

/-- The line that loses the share of a port. -/
theorem dropLine_line {s : State} {l : LineNo} {h : Share} (mem : h ∈ (s.line[l]).shares) (n : Notice) :
    ((s.changeLine l (LineRec.dropShare h.port)).notify .lineBlock h.port n).line
      = s.line.set l (withoutShares (fun k => k.port == h.port) s.line[l]) := by
  have held : (s.line[l]).heldBy h.port = true := List.any_eq_true.mpr ⟨h, mem, by simp⟩
  rw [← recode_dropShare h.port s.line[l] held]
  rfl

/-- Of distinct ports' shares, those of one share's port are that share. -/
theorem port_eq_iff {hs : List Share} (apart : (hs.map Share.port).Nodup) {h k : Share} (mem_h : h ∈ hs) (mem_k : k ∈ hs) :
    k.port = h.port ↔ k = h :=
  ⟨fun same => List.inj_on_of_nodup_map apart mem_k mem_h same, fun same => by rw [same]⟩

theorem testLapse_stays {s : State} {l : LineNo} {h : Share} (stays : s.lapses l h = false) : s.testLapse (l, h) = s :=
  if_neg (by rw [stays]; exact Bool.false_ne_true)

/-- What the lapse tests of some shares of line `l` leave, from a state `u` of a boundary that began as `t`. -/
structure LapsesTested (t u : State) (l : LineNo) (hs : List Share) (v : State) : Prop where
  step : LapseStep t v
  line : v.line = u.line.set l (withoutShares (fun h => decide (h ∈ hs) && t.lapses l h) u.line[l])
  told : ∀ p, v.wires.notices.get p = u.wires.notices.get p
    ++ (hs.filter fun h => h.port == p && t.lapses l h).map fun _ => lapsedPosted l

theorem lapsesTested_nil {t u : State} (l : LineNo) (step : LapseStep t u) : LapsesTested t u l [] u where
  step := step
  line := by
    rw [withoutShares_none fun h _ => by simp]
    simp
  told p := by simp

/-- The tests of shares of one line, one after another, drop those that lapse at the boundary. -/
theorem lapsesTested {t : State} (law : t.slotsLaw) (l : LineNo) (hs : List Share) (apart : (hs.map Share.port).Nodup)
    (u : State) (step : LapseStep t u) (history : (u.line[l]).history = (t.line[l]).history)
    (ports : ((u.line[l]).shares.map Share.port).Nodup) (held : ∀ h ∈ hs, h ∈ (u.line[l]).shares) :
    LapsesTested t u l hs (hs.foldl (fun u h => u.testLapse (l, h)) u) := by
  induction hs generalizing u with
  | nil => exact lapsesTested_nil l step
  | cons h hs ih =>
    obtain ⟨differs, apart⟩ := List.nodup_cons.mp apart
    have judged := step.lapses history h
    rw [List.foldl_cons]
    by_cases lapses : t.lapses l h = true
    · have here := held h (List.mem_cons_self ..)
      have first := dropLine_line here (lapsedPosted l).notice
      have drop : LapseStep u ((u.changeLine l (LineRec.dropShare h.port)).notify .lineBlock h.port (lapsedPosted l).notice) := rfl
      have note := fun p => notify_notices (u.changeLine l (LineRec.dropShare h.port)) .lineBlock h.port p (lapsedPosted l).notice
      have unnoticed : (u.changeLine l (LineRec.dropShare h.port)).wires = u.wires := rfl
      rw [testLapse_lapses (step.slotsLaw law) (judged.trans lapses)]
      rw [unnoticed] at note
      generalize (u.changeLine l (LineRec.dropShare h.port)).notify .lineBlock h.port (lapsedPosted l).notice = w at first drop note
      have record := get_of_set first
      have left : (w.line[l]).shares = (u.line[l]).shares.filter fun k => !(k.port == h.port) := by
        rw [record, withoutShares_shares]
      have fewer : ((w.line[l]).shares).Sublist (u.line[l]).shares := left ▸ List.filter_sublist
      obtain ⟨after, line, told⟩ := ih apart w (step.trans drop) (by rw [record, withoutShares_history, history])
        (ports.sublist (fewer.map Share.port)) fun k mem => by
          rw [left, List.mem_filter]
          refine ⟨held k (List.mem_cons_of_mem _ mem), ?_⟩
          have other : k.port ≠ h.port := fun same => differs (same ▸ List.mem_map_of_mem mem)
          simp [other]
      refine ⟨after, line.trans ?_, fun p => (told p).trans ?_⟩
      · rw [record, first, Vector.set_set, withoutShares_withoutShares]
        congr 1
        refine withoutShares_congr fun k mem => ?_
        by_cases same : k = h
        · subst same
          simp [lapses]
        · have other : k.port ≠ h.port := fun port => same ((port_eq_iff ports here mem).mp port)
          simp [same, other]
      · rw [note]
        by_cases same : p = h.port
        · subst same
          simp [lapses, lapsedPosted]
        · simp [same, Ne.symm same]
    · have stays := Bool.eq_false_iff.mpr lapses
      rw [testLapse_stays (judged.trans stays)]
      obtain ⟨after, line, told⟩ := ih apart u step history ports fun k mem => held k (List.mem_cons_of_mem _ mem)
      refine ⟨after, line.trans ?_, fun p => (told p).trans ?_⟩
      · rw [withoutShares_congr fun k _ => ?_]
        by_cases same : k = h
        · subst same
          simp [stays]
        · simp [same]
      · simp [stays]

/-! ## A boundary (R30) -/

/-- The tests of every share of some lines, from a state `u` of a boundary that began as `t`. -/
structure LinesTested (t u : State) (ls : List LineNo) (v : State) : Prop where
  step : LapseStep t v
  line : ∀ l : LineNo, v.line[l] = if l ∈ ls then withoutShares (t.lapses l) t.line[l] else u.line[l]
  told : ∀ p, v.wires.notices.get p = u.wires.notices.get p
    ++ (ls.filter fun l => (t.line[l]).shares.any fun h => h.port == p && t.lapses l h).map lapsedPosted

/-- Of shares of distinct ports at most one is the port's. -/
theorem filter_port_map {β : Type} {hs : List Share} (apart : (hs.map Share.port).Nodup) (p : Port) (test : Share → Bool) (b : β) :
    ((hs.filter fun h => h.port == p && test h).map fun _ => b)
      = if hs.any (fun h => h.port == p && test h) = true then [b] else [] := by
  induction hs with
  | nil => rfl
  | cons h hs ih =>
    obtain ⟨differs, apart⟩ := List.nodup_cons.mp apart
    rw [List.filter_cons, List.any_cons]
    by_cases here : (h.port == p && test h) = true
    · have others : hs.filter (fun k => k.port == p && test k) = [] := by
        refine List.filter_eq_nil_iff.mpr fun k mem both => differs ?_
        have port : h.port = p := beq_iff_eq.mp (Bool.and_eq_true_iff.mp here).1
        have same : k.port = p := beq_iff_eq.mp (Bool.and_eq_true_iff.mp both).1
        rw [port, ← same]
        exact List.mem_map_of_mem mem
      rw [here, others]
      rfl
    · rw [Bool.eq_false_iff.mpr here, Bool.false_or]
      exact ih apart

theorem linesTested {t : State} (law : t.slotsLaw) (ports : ∀ l : LineNo, ((t.line[l]).shares.map Share.port).Nodup)
    (ls : List LineNo) (distinct : ls.Nodup) (u : State) (step : LapseStep t u) (begun : ∀ l ∈ ls, u.line[l] = t.line[l]) :
    LinesTested t u ls (ls.foldl (fun u l => (t.line[l]).shares.foldl (fun u h => u.testLapse (l, h)) u) u) := by
  induction ls generalizing u with
  | nil => exact ⟨step, fun l => (if_neg (by simp)).symm, fun p => by simp⟩
  | cons l ls ih =>
    obtain ⟨absent, distinct⟩ := List.nodup_cons.mp distinct
    have here := begun l (List.mem_cons_self ..)
    obtain ⟨stepped, line, told⟩ := lapsesTested law l (t.line[l]).shares (ports l) u step (by rw [here])
      (by rw [here]; exact ports l) fun h mem => by rw [here]; exact mem
    rw [List.foldl_cons]
    generalize (t.line[l]).shares.foldl (fun u h => u.testLapse (l, h)) u = w at stepped line told
    have others : ∀ k, k ≠ l → w.line[k] = u.line[k] := fun k other => by
      simp [line, Fin.val_ne_of_ne (Ne.symm other)]
    obtain ⟨final, lines, notices⟩ := ih distinct w stepped fun k mem => by
      rw [others k fun same => absent (same ▸ mem), begun k (List.mem_cons_of_mem _ mem)]
    refine ⟨final, fun k => (lines k).trans ?_, fun p => (notices p).trans ?_⟩
    · by_cases same : k = l
      · subst same
        rw [if_neg absent, if_pos (List.mem_cons_self ..), get_of_set line, here]
        exact withoutShares_congr fun h mem => by rw [decide_eq_true mem, Bool.true_and]
      · rw [others k same]
        simp [same]
    · rw [told, filter_port_map (ports l), List.append_assoc, List.filter_cons]
      split <;> simp

/-- The records as a boundary ages them. -/
def State.aged (s : State) : State := { s with line := s.line.map LineRec.aged }

theorem aged_get (s : State) (l : LineNo) : s.aged.line[l] = (s.line[l]).aged := by simp [State.aged]

/-- The shares of every line in their order, tested line by line. -/
theorem foldl_allShares {α : Type} (s : State) (f : α → LineNo × Share → α) (a : α) :
    s.allShares.foldl f a = allLines.foldl (fun a l => (s.line[l]).shares.foldl (fun a h => f a (l, h)) a) a := by
  unfold State.allShares
  rw [List.foldl_flatMap]
  simp only [List.foldl_map]

theorem boundary_eq (s : State) (lines : s.lineLaw) (slots : s.slotsLaw) : ∃ u, LinesTested s.aged s.aged allLines u
    ∧ s.boundary = { u with
        lineBlock := { u.lineBlock with historyStart := u.now }
        wires := { u.wires with boundaries := u.wires.boundaries + 1 } } := by
  have ports : ∀ l : LineNo, ((s.aged.line[l]).shares.map Share.port).Nodup := fun l => by
    obtain ⟨-, -, ports, -⟩ := lines l
    rw [aged_get]
    have same : ((s.line[l]).aged).shares.map Share.port = (s.line[l]).shares.map Share.port := by
      simp [LineRec.aged, Function.comp_def]
    rw [same]
    exact ports
  have tested := linesTested (t := s.aged) slots ports allLines (List.nodup_finRange 32) s.aged rfl fun _ _ => rfl
  rw [← foldl_allShares s.aged State.testLapse] at tested
  exact ⟨_, tested, rfl⟩

theorem exec_historyPeriodBoundary (s : State) (running : s.inReset = none) : exec .historyPeriodBoundary s = .next
    (if timerDue s.now s.lineBlock.historyStart s.lineBlock.historyPeriod.micros then s.boundary else s) := by
  simp only [exec, execHistoryPeriodBoundary, whenRunning_running _ s running]

/-- Settles O34: the records age, every share is tested as the boundary found it, and the boundary is handed on. -/
theorem historyBoundaryShiftsAgesAndLapses : Obligations.HistoryBoundaryShiftsAgesAndLapses := by
  unfold Obligations.HistoryBoundaryShiftsAgesAndLapses
  refine fun s running lines slots => ⟨fun due => ?_, fun early => ?_⟩
  · obtain ⟨u, ⟨step, records, told⟩, boundary⟩ := boundary_eq s lines slots
    have aged : ∀ l : LineNo, s.aged.line[l] = (s.line[l]).aged := aged_get s
    refine ⟨_, s.aged.lapses, (exec_historyPeriodBoundary s running).trans
      (congrArg _ ((if_pos (decide_eq_true due)).trans boundary)), fun l h => ?_, ?_, fun l => ?_, fun p => ?_⟩
    · rw [lapses_iff, aged]
      rfl
    · rw [step]
      rfl
    · dsimp only
      have every : l ∈ allLines := List.mem_finRange l
      rw [records, if_pos every, aged]
      rfl
    · dsimp only
      rw [told]
      congr 3
      funext l
      rw [aged]
      rfl
  · rw [exec_historyPeriodBoundary s running, (timerDue_eq_false_iff _ _ _).mpr early]
    rfl

end Sys2Proof.Machine

/-! PROOFS. The judgement of positions and conflicts (O22), entries that leave the table, and admissions (O23). -/

namespace Sys2Proof.Machine

/-! ## Positions (R17) -/

theorem windowStatus_none_iff (pos d : Word32) :
    windowStatus pos d = none ↔ 1 ≤ (d - pos).toNat ∧ (d - pos).toNat ≤ 16777216 := by
  unfold windowStatus distance Config.horizon Config.behindFrom
  dsimp only
  split
  · next inside => exact ⟨fun _ => inside, fun _ => rfl⟩
  · next outside => split <;> exact ⟨fun h => (by cases h), fun h => absurd h outside⟩

theorem windowStatus_tooLate_iff (pos d : Word32) :
    windowStatus pos d = some .tooLate ↔ (d - pos).toNat = 0 ∨ 4278190080 ≤ (d - pos).toNat := by
  unfold windowStatus distance Config.horizon Config.behindFrom
  dsimp only
  split
  · next inside => exact ⟨fun h => (by cases h), fun h => by omega⟩
  · split
    · next late => exact ⟨fun _ => late, fun _ => rfl⟩
    · next early => exact ⟨fun h => (by cases h), fun h => absurd h early⟩

theorem windowStatus_outOfRange_iff (pos d : Word32) :
    windowStatus pos d = some .outOfRange ↔ 16777216 < (d - pos).toNat ∧ (d - pos).toNat < 4278190080 := by
  unfold windowStatus distance Config.horizon Config.behindFrom
  dsimp only
  split
  · next inside => exact ⟨fun h => (by cases h), fun h => by omega⟩
  · split
    · next late => exact ⟨fun h => (by cases h), fun h => by omega⟩
    · next early => exact ⟨fun _ => by omega, fun _ => rfl⟩

/-! ## Conflicts (R53, R54) -/

theorem hasLine_conflictLines (q : TableLimits) (p : Port) (x : LineSet) (due : Word32) (e : Entry) (l : LineNo) :
    hasLine (conflictLines q p x due e) l = true ↔
      e.fields.owner ≠ p ∧ hasLine x l = true ∧ hasLine e.fields.lines l = true
      ∧ (q.policy[l] = .refuseLater ∨ q.policy[l] = .priority)
      ∧ min (due - e.fields.due).toNat (e.fields.due - due).toNat < q.guard[l] := by
  have judged : q.policy[l] ≠ .merge ↔ q.policy[l] = .refuseLater ∨ q.policy[l] = .priority := by
    cases q.policy[l] <;> simp
  unfold conflictLines
  by_cases own : e.fields.owner = p
  · simp [own]
  · rw [if_neg own, hasLine_lineSetOf]
    have near : decide (modularDistance due e.fields.due < q.guard[l]) = true
        ↔ min (due - e.fields.due).toNat (e.fields.due - due).toNat < q.guard[l] := decide_eq_true_iff
    simp only [Bool.and_eq_true, near, decide_eq_true_eq, judged, and_assoc, ne_eq, own, not_false_iff, true_and]

theorem mem_conflicts (q : TableLimits) (p : Port) (x : LineSet) (due : Word32) (live : List Entry) (c : Entry × LineSet) :
    c ∈ conflicts q p x due live ↔ c.1 ∈ live ∧ c.2 = conflictLines q p x due c.1 ∧ c.2 ≠ 0 := by
  obtain ⟨e, lines⟩ := c
  unfold conflicts
  simp only [List.mem_filter, List.mem_map, Prod.mk.injEq, decide_eq_true_iff]
  constructor
  · rintro ⟨⟨d, mem, rfl, rfl⟩, overlap⟩
    exact ⟨mem, rfl, overlap⟩
  · rintro ⟨mem, same, overlap⟩
    exact ⟨⟨e, mem, rfl, same.symm⟩, overlap⟩

theorem conflictOutcome_none_iff (q : TableLimits) (p : Port) (found : List (Entry × LineSet)) :
    conflictOutcome q p found = none ↔ ConflictRefuses q p found := by
  have refuse : (found.any fun c => (linesOf c.2).any fun l => q.policy[l] == .refuseLater) = true
      ↔ ∃ c ∈ found, ∃ l : LineNo, hasLine c.2 l = true ∧ q.policy[l] = .refuseLater := by
    simp [List.any_eq_true, mem_linesOf]
  have outranks : (found.all fun c => decide (q.rankOf p < q.rankOf c.1.fields.owner)) = true
      ↔ ¬∃ c ∈ found, ¬q.rankOf p < q.rankOf c.1.fields.owner := by
    simp [List.all_eq_true]
  unfold conflictOutcome ConflictRefuses
  by_cases later : (found.any fun c => (linesOf c.2).any fun l => q.policy[l] == .refuseLater) = true
  · rw [if_pos later]
    exact ⟨fun _ => .inl (refuse.mp later), fun _ => rfl⟩
  · rw [if_neg later]
    by_cases above : (found.all fun c => decide (q.rankOf p < q.rankOf c.1.fields.owner)) = true
    · rw [if_pos above]
      exact ⟨fun h => (by cases h), fun h => h.elim (fun k => absurd (refuse.mpr k) later) fun k => absurd k (outranks.mp above)⟩
    · rw [if_neg above]
      exact ⟨fun _ => .inr (not_not.mp (mt outranks.mpr above)), fun _ => rfl⟩

theorem conflictOutcome_displaces {q : TableLimits} {p : Port} {found : List (Entry × LineSet)}
    (passes : ¬ConflictRefuses q p found) : conflictOutcome q p found = some found := by
  obtain ⟨out, outcome⟩ := Option.ne_none_iff_exists'.mp (mt (conflictOutcome_none_iff q p found).mp passes)
  rw [outcome, conflictOutcome_some q p found out outcome]

/-- Settles O22: positions by the two ranges, conflict lines by their definition, the outcome by the ranks. -/
theorem positionsAndConflictsAreJudged : Obligations.PositionsAndConflictsAreJudged :=
  ⟨fun pos d => ⟨windowStatus_none_iff pos d, windowStatus_tooLate_iff pos d, windowStatus_outOfRange_iff pos d⟩,
    hasLine_conflictLines, fun q p x due live => ⟨mem_conflicts q p x due live, conflictOutcome_none_iff q p _,
      fun out outcome => conflictOutcome_some q p _ out outcome⟩⟩

end Sys2Proof.Machine

/-! PROOFS. Entries that leave the table, and admissions (O23). -/

namespace Sys2Proof.Machine

/-! ## Entries that leave the table (R51, R55) -/

/-- A step takes the entry `e` out by its index; on a table of distinct indices whose counts count they go on counting. -/
structure EntryLeaves (e : Entry) (s t : State) : Prop where
  table : t.table = { s.table with
    live := s.table.live.filter fun x => x.index ≠ e.index, liveCount := t.table.liveCount }
  counted : e ∈ s.table.live → (s.table.live.map Entry.index).Nodup → s.liveCounted → t.liveCounted

theorem removeEntry_leaves (s : State) (e : Entry) : EntryLeaves e s (s.removeEntry e) where
  table := rfl
  counted mem distinct counted := by
    obtain ⟨before, after, split⟩ := List.append_of_mem mem
    exact removeEntry_liveCounted split (split ▸ distinct) counted

theorem removeCorrupt_leaves (s : State) (e : Entry) : EntryLeaves e s (s.removeCorrupt e) where
  table := rfl
  counted _ _ _ := removeCorrupt_liveCounted s e

theorem displace_leaves (s : State) (c : Entry × LineSet) : EntryLeaves c.1 s (s.displace c) where
  table := rfl
  counted := (removeEntry_leaves s c.1).counted

/-- Steps take several entries out. -/
structure EntriesLeave (es : List Entry) (s t : State) : Prop where
  table : t.table = { s.table with
    live := s.table.live.filter fun x => !(es.any fun e => e.index == x.index), liveCount := t.table.liveCount }
  counted : (∀ e ∈ es, e ∈ s.table.live) → (es.map Entry.index).Nodup → (s.table.live.map Entry.index).Nodup →
    s.liveCounted → t.liveCounted

theorem EntriesLeave.nil (s : State) : EntriesLeave [] s s where
  table := by simp
  counted _ _ _ counted := counted

theorem EntriesLeave.cons {e : Entry} {es : List Entry} {s t u : State} (first : EntryLeaves e s t)
    (rest : EntriesLeave es t u) : EntriesLeave (e :: es) s u where
  table := by
    rw [rest.table, first.table]
    dsimp only
    rw [List.filter_filter]
    congr 2
    funext x
    rw [List.any_cons]
    by_cases same : e.index = x.index
    · simp [same]
    · simp [same, Ne.symm same]
  counted mem apart distinct counted := by
    obtain ⟨differs, apart⟩ := List.nodup_cons.mp apart
    have live : t.table.live = s.table.live.filter fun x => x.index ≠ e.index := by rw [first.table]
    refine rest.counted (fun x later => ?_) apart (live ▸ distinct.sublist (List.filter_sublist.map _))
      (first.counted (mem e (List.mem_cons_self ..)) distinct counted)
    rw [live]
    refine List.mem_filter.mpr ⟨mem x (List.mem_cons_of_mem _ later), decide_eq_true fun same => differs ?_⟩
    rw [← same]
    exact List.mem_map_of_mem later

/-- A fold of steps that each take one entry out. -/
theorem foldl_entriesLeave {σ α : Type} (entry : α → Entry) (view : σ → State) (f : σ → α → σ)
    (leaves : ∀ a x, EntryLeaves (entry x) (view a) (view (f a x))) (xs : List α) (a : σ) :
    EntriesLeave (xs.map entry) (view a) (view (xs.foldl f a)) := by
  induction xs generalizing a with
  | nil => exact .nil _
  | cons x xs ih => exact .cons (leaves a x) (ih (f a x))

/-! ## Displacements (R55) -/

/-- The displacements change the entries with their counts, and tell the owners. -/
theorem displaceAll_eq (s : State) (found : List (Entry × LineSet)) : ∃ (c : PerPort Nat) (v : PerPort (List PostedNotice)),
    found.foldl State.displace s = { s with
      table := { s.table with live := withoutDisplaced s.table.live found, liveCount := c }
      wires := { s.wires with notices := v } }
    ∧ ((∀ x ∈ found, x.1 ∈ s.table.live) → (found.map fun x => x.1.index).Nodup → (s.table.live.map Entry.index).Nodup →
        s.liveCounted → ∀ p, c.get p = ownedBy (withoutDisplaced s.table.live found) p)
    ∧ ∀ p, v.get p = s.wires.notices.get p ++ displacedTold p found := by
  have leave := foldl_entriesLeave Prod.fst id State.displace displace_leaves found s
  have frame : (found.foldl State.displace s) = { s with
      table := (found.foldl State.displace s).table
      wires := { s.wires with notices := (found.foldl State.displace s).wires.notices } } :=
    foldl_keeps (fun s t : State => t = { s with table := t.table, wires := { s.wires with notices := t.wires.notices } })
      State.displace (fun _ => rfl) (fun _ _ _ h k => by rw [k, h]) (fun _ _ => rfl) found s
  have told : ∀ p, (found.foldl State.displace s).wires.notices.get p = s.wires.notices.get p ++ displacedTold p found := by
    intro p
    clear leave frame
    induction found generalizing s with
    | nil => exact (List.append_nil _).symm
    | cons c found ih =>
      rw [List.foldl_cons, ih, State.displace, notify_notices]
      have unmoved : (s.removeEntry c.1).wires = s.wires := rfl
      unfold displacedTold
      rw [unmoved, List.filter_cons]
      by_cases own : p = c.1.fields.owner
      · subst own
        simp
        rfl
      · simp [own, Ne.symm own]
  have left : (fun x : Entry => !((found.map Prod.fst).any fun e => e.index == x.index))
      = fun e => !(found.any fun c => c.1.index == e.index) := by
    funext x
    rw [List.any_map]
    rfl
  obtain ⟨table, counted⟩ := leave
  dsimp only [id] at table counted
  rw [left] at table
  refine ⟨(found.foldl State.displace s).table.liveCount, (found.foldl State.displace s).wires.notices, ?_,
    fun mem apart distinct begun p => ?_, told⟩
  · generalize found.foldl State.displace s = t at frame table
    rw [frame]
    rw [table]
    rfl
  · have counts := counted (fun e mem' => ?_) ?_ distinct begun p
    · rw [counts, table]
      rfl
    · obtain ⟨c, found, rfl⟩ := List.mem_map.mp mem'
      exact mem c found
    · rw [List.map_map]
      exact apart

end Sys2Proof.Machine

/-! PROOFS. Admissions (O23). -/

namespace Sys2Proof.Machine

/-! ## The conflicts as entries of the table -/

theorem conflicts_sublist (q : TableLimits) (p : Port) (x : LineSet) (due : Word32) (live : List Entry) :
    ((conflicts q p x due live).map Prod.fst).Sublist live := by
  have firsts : (live.map fun e => (e, conflictLines q p x due e)).map Prod.fst = live := by simp [Function.comp_def]
  have part := (List.filter_sublist (p := fun c : Entry × LineSet => decide (c.2 ≠ 0))
    (l := live.map fun e => (e, conflictLines q p x due e))).map Prod.fst
  rw [firsts] at part
  exact part

/-- The displacements of the conflicts found on a lawful table. -/
theorem displaceConflicts_eq (s : State) (law : TableLaw s.table) (q : TableLimits) (p : Port) (x : LineSet) (due : Word32) :
    ∃ (c : PerPort Nat) (v : PerPort (List PostedNotice)),
      (conflicts q p x due s.table.live).foldl State.displace s = { s with
        table := { s.table with
          live := withoutDisplaced s.table.live (conflicts q p x due s.table.live), liveCount := c }
        wires := { s.wires with notices := v } }
      ∧ (∀ r, c.get r = ownedBy (withoutDisplaced s.table.live (conflicts q p x due s.table.live)) r)
      ∧ ∀ r, v.get r = s.wires.notices.get r ++ displacedTold r (conflicts q p x due s.table.live) := by
  obtain ⟨-, distinct, -, counted⟩ := law
  obtain ⟨c, v, displaced, counts, told⟩ := displaceAll_eq s (conflicts q p x due s.table.live)
  have apart : ((conflicts q p x due s.table.live).map fun c => c.1.index).Nodup := by
    have part := (conflicts_sublist q p x due s.table.live).map Entry.index
    rw [List.map_map] at part
    exact distinct.sublist part
  exact ⟨c, v, displaced, counts (fun y mem => ((mem_conflicts q p x due s.table.live y).mp mem).1) apart distinct counted, told⟩

/-! ## The lowest free index (R45) -/

theorem freeIndex_some {t : Timetable} {i : Fin 256} (h : t.freeIndex = some i) :
    (∀ e ∈ t.live, e.index ≠ i) ∧ ∀ j : Fin 256, j < i → ∃ e ∈ t.live, e.index = j := by
  obtain ⟨free, k, bound, here, lower⟩ := List.find?_eq_some_iff_getElem.mp h
  simp only [List.getElem_finRange] at here lower
  refine ⟨fun e mem same => ?_, fun j below => ?_⟩
  · have taken : (t.live.any fun e => e.index == i) = true := List.any_eq_true.mpr ⟨e, mem, by simp [same]⟩
    rw [taken] at free
    cases free
  · have before : j.val < k := by
      have : i.val = k := by rw [← here]; rfl
      have : j.val < i.val := below
      omega
    have taken := lower j.val before
    simpa using taken

theorem freeIndex_room {t : Timetable} (room : t.live.length < 256) : ∃ i, t.freeIndex = some i := by
  cases found : t.freeIndex with
  | some i => exact ⟨i, rfl⟩
  | none =>
    have covered : ∀ i : Fin 256, i ∈ t.live.map Entry.index := fun i => by
      have taken := List.find?_eq_none.mp found i (List.mem_finRange i)
      simpa using taken
    have short : (List.finRange 256).length ≤ (t.live.map Entry.index).length :=
      ((List.nodup_finRange 256).subperm fun i _ => covered i).length_le
    simp at short
    omega

/-! ## The placing (R52) -/

theorem placeProposal_free {s : State} (n : Proposal) {displaced : List (Entry × LineSet)} {i : Fin 256}
    (free : (displaced.foldl State.displace s).table.freeIndex = some i) : s.placeProposal n displaced =
      ((displaced.foldl State.displace s).setTable ((displaced.foldl State.displace s).table.place n i),
        .yes (n.fields (displaced.foldl State.displace s).table i).handle displaced.length) := by
  unfold State.placeProposal
  simp only [free]

/-- On a lawful table a proposal that passes is placed over its conflicts. -/
theorem placeProposal_admits (s : State) (n : Proposal) (law : TableLaw s.table) (room : s.table.live.length < 256) :
    let found := conflicts s.table.limits n.owner n.lines n.due s.table.live
    ∃ h t, s.placeProposal n found = (t, .yes h found.length) ∧ AdmittedInto s n found h t := by
  intro found
  obtain ⟨c, v, displaced, counted, told⟩ : ∃ (c : PerPort Nat) (v : PerPort (List PostedNotice)), _ :=
    displaceConflicts_eq s law s.table.limits n.owner n.lines n.due
  have fewer : (withoutDisplaced s.table.live found).length ≤ s.table.live.length := List.length_filter_le _ _
  obtain ⟨i, free⟩ := freeIndex_room (t := (found.foldl State.displace s).table) (by
    rw [displaced]
    exact Nat.lt_of_le_of_lt fewer room)
  have placed := placeProposal_free n free
  obtain ⟨unused, lowest⟩ := freeIndex_some free
  rw [displaced] at unused lowest placed
  refine ⟨_, _, placed, unused, lowest, rfl, rfl, fun p => ?_, told⟩
  have count : (c.set n.owner (c.get n.owner + 1)).get p = c.get p + if n.owner = p then 1 else 0 := by
    rw [PerPort.get_set]
    by_cases own : p = n.owner
    · subst own
      simp
    · simp [own, Ne.symm own]
  have owned := ownedBy_split (withoutDisplaced s.table.live found) []
    { index := i, fields := n.fields s.table i, code := n.fields s.table i } p
  rw [List.append_nil] at owned
  exact count.trans ((congrArg (· + _) (counted p)).trans owned.symm)

/-! ## The checks of R50 -/

theorem firstUnleased_none {s : State} {p : Port} {x : LineSet} (leases : AllLeased s p x) : s.firstUnleased p x = none :=
  find?_linesOf_none _ _ fun l hl => by rw [leases l hl]; rfl

theorem firstUnleased_isSome {s : State} {p : Port} {x : LineSet} (unleased : ¬AllLeased s p x) :
    ∃ l, s.firstUnleased p x = some l := by
  obtain ⟨l, missing⟩ := not_forall.mp unleased
  obtain ⟨named, missing⟩ := Classical.not_imp.mp missing
  obtain ⟨m, lowest⟩ := exists_lowest (test := fun l => !(s.line[l]).heldBy p) named (by
    simpa using Bool.eq_false_iff.mpr missing)
  exact ⟨m, firstUnleased_lowest lowest⟩

section
variable {s : State} {n : Proposal} (codes : CodesMatch s n.lines) (running : s.table.mode = .run)
include codes running

theorem propose_unleased (unleased : ¬AllLeased s n.owner n.lines) : s.propose n = (s, .no .notLeased) := by
  obtain ⟨l, first⟩ := firstUnleased_isSome unleased
  unfold State.propose
  simp only [consult_ok s n.lines codes, running, not_true_eq_false, ne_eq, if_false, first, Option.isSome_some, if_true]

variable (leases : AllLeased s n.owner n.lines)
include leases

theorem propose_refused {st : Status} (refused : s.admissionStatus n = some st) : s.propose n = (s, .no st) := by
  unfold State.propose
  simp only [consult_ok s n.lines codes, running, not_true_eq_false, ne_eq, if_false, firstUnleased_none leases,
    Option.isSome_none, Bool.false_eq_true, refused]

theorem propose_conflict (passes : s.admissionStatus n = none)
    (refuses : ConflictRefuses s.table.limits n.owner (conflicts s.table.limits n.owner n.lines n.due s.table.live)) :
    s.propose n = (s, .no .conflict) := by
  have outcome := (conflictOutcome_none_iff _ _ _).mpr refuses
  unfold State.propose
  simp only [consult_ok s n.lines codes, running, not_true_eq_false, ne_eq, if_false, firstUnleased_none leases,
    Option.isSome_none, Bool.false_eq_true, passes, outcome]

theorem propose_placed (passes : s.admissionStatus n = none)
    (outranks : ¬ConflictRefuses s.table.limits n.owner (conflicts s.table.limits n.owner n.lines n.due s.table.live)) :
    s.propose n = s.placeProposal n (conflicts s.table.limits n.owner n.lines n.due s.table.live) := by
  have outcome := conflictOutcome_displaces outranks
  unfold State.propose
  simp only [consult_ok s n.lines codes, running, not_true_eq_false, ne_eq, if_false, firstUnleased_none leases,
    Option.isSome_none, Bool.false_eq_true, passes, outcome]

end

/-- The decision position of a HELD proposal, judged when its due has passed. -/
theorem windowStatus_held {n : Proposal} {pos d : Word32} {f : Default} (due : windowStatus pos n.due = none)
    (held : n.stage = .held d f) :
    n.windowStatus pos = match windowStatus pos d with
      | some st => some st
      | none => if (d - pos).toNat < (n.due - pos).toNat then none else some .outOfRange := by
  unfold Proposal.windowStatus
  simp only [due, held]
  rfl

theorem windowStatus_passes {n : Proposal} {pos : Word32} (due : windowStatus pos n.due = none)
    (decision : ∀ d f, n.stage = .held d f → 1 ≤ (d - pos).toNat ∧ (d - pos).toNat < (n.due - pos).toNat) :
    n.windowStatus pos = none := by
  cases stage : n.stage with
  | armed =>
    unfold Proposal.windowStatus
    simp only [due, stage]
  | held d f =>
    obtain ⟨ahead, before⟩ := decision d f stage
    have range := (windowStatus_none_iff _ _).mp due
    have inside : windowStatus pos d = none := (windowStatus_none_iff pos d).mpr ⟨ahead, by omega⟩
    rw [windowStatus_held due stage, inside]
    exact if_pos before

theorem admissionStatus_window {s : State} {n : Proposal} {st : Status} (h : n.windowStatus s.table.pos = some st) :
    s.admissionStatus n = some st := by
  unfold State.admissionStatus
  simp only [h]

theorem windowStatus_due {n : Proposal} {pos : Word32} {st : Status} (h : windowStatus pos n.due = some st) :
    n.windowStatus pos = some st := by
  unfold Proposal.windowStatus
  simp only [h]

/-- Settles O23: the checks one after another, and the placing where all pass. -/
theorem admissionIsJudgedInOrder : Obligations.AdmissionIsJudgedInOrder := by
  unfold Obligations.AdmissionIsJudgedInOrder
  intro s n codes q due found early
  have refused {st : Status} (e : early) (h : n.windowStatus s.table.pos = some st) : s.propose n = (s, .no st) :=
    propose_refused codes e.2 e.1 (admissionStatus_window h)
  refine ⟨fun shut => if_pos shut, fun running unleased => propose_unleased codes running unleased,
    fun e late => refused e (windowStatus_due ((windowStatus_tooLate_iff _ _).mpr late)),
    fun e far => refused e (windowStatus_due ((windowStatus_outOfRange_iff _ _).mpr far)),
    fun d f e range held => ⟨fun late => refused e ?_, fun far => refused e ?_⟩, fun e range decision => ?_⟩
  · rw [windowStatus_held ((windowStatus_none_iff _ _).mpr range) held, (windowStatus_tooLate_iff _ _).mpr late]
  · rw [windowStatus_held ((windowStatus_none_iff _ _).mpr range) held]
    by_cases beyond : 16777216 < (d - s.table.pos).toNat
    · rw [(windowStatus_outOfRange_iff _ _).mpr ⟨beyond, far.2⟩]
    · rw [(windowStatus_none_iff _ _).mpr ⟨Nat.le_trans range.1 far.1, by omega⟩]
      exact if_neg (by omega)
  · have window := windowStatus_passes ((windowStatus_none_iff _ _).mpr range) decision
    have judged : s.admissionStatus n = if q.quota.get n.owner ≤ s.table.liveCount.get n.owner then some .quotaExceeded
        else if Config.tableCapacity ≤ s.table.live.length then some .tableFull else none := by
      unfold State.admissionStatus
      simp only [window]
      rfl
    have capacity : Config.tableCapacity = 256 := rfl
    refine ⟨fun full => propose_refused codes e.2 e.1 (judged.trans (if_pos full)), fun below full => ?_, fun below room => ?_⟩
    · refine propose_refused codes e.2 e.1 (judged.trans ?_)
      rw [if_neg (by omega), if_pos (by omega)]
    · have passes : s.admissionStatus n = none := by rw [judged, if_neg (by omega), if_neg (by omega)]
      refine ⟨propose_conflict codes e.2 e.1 passes, fun outranks law => ?_⟩
      rw [propose_placed codes e.2 e.1 passes outranks]
      exact placeProposal_admits s n law room

end Sys2Proof.Machine

/-! PROOFS. Bytes and fields, and the bodies of requests (R178, section 10.6). -/

namespace Sys2Proof.Machine

/-! ## Fields of two and four bytes -/

theorem word16_bytes (w : Word16) : w.extractLsb' 8 8 ++ w.extractLsb' 0 8 = w := by
  have both : w.extractLsb' 8 8 ++ w.extractLsb' 0 8 = w.extractLsb' 0 16 :=
    BitVec.extractLsb'_append_extractLsb'_eq_extractLsb' rfl
  rw [both, BitVec.extractLsb'_eq_self]

theorem word32_bytes (x : Word32) :
    (x.extractLsb' 24 8 ++ x.extractLsb' 16 8) ++ (x.extractLsb' 8 8 ++ x.extractLsb' 0 8) = x := word32At_be32 x []

theorem word16At_be16 (w : Word16) (rest : List Byte) : word16At (be16 w ++ rest) 0 = w := word16_bytes w

theorem be16_append (a b : BitVec 8) : be16 (a ++ b) = [a, b] := by
  unfold be16
  rw [BitVec.extractLsb'_append_eq_left, BitVec.extractLsb'_append_eq_right]

/-- A list that is long enough begins with a byte, a two-byte or a four-byte field. -/
theorem peel8 {b : List Byte} {n : Nat} (h : b.length = n + 1) : ∃ x rest, b = x :: rest ∧ rest.length = n := by
  obtain ⟨x, rest, rfl⟩ := List.exists_cons_of_length_eq_add_one h
  exact ⟨x, rest, rfl, by simpa using h⟩

theorem peel16 {b : List Byte} {n : Nat} (h : b.length = n + 2) : ∃ w rest, b = be16 w ++ rest ∧ rest.length = n := by
  obtain ⟨x, b1, rfl, h1⟩ := peel8 h
  obtain ⟨y, rest, rfl, left⟩ := peel8 h1
  exact ⟨x ++ y, rest, by rw [be16_append]; rfl, left⟩

theorem peel32 {b : List Byte} {n : Nat} (h : b.length = n + 4) : ∃ w rest, b = be32 w ++ rest ∧ rest.length = n := by
  obtain ⟨x, b1, rfl, h1⟩ := peel8 h
  obtain ⟨y, b2, rfl, h2⟩ := peel8 h1
  obtain ⟨z, b3, rfl, h3⟩ := peel8 h2
  obtain ⟨t, rest, rfl, left⟩ := peel8 h3
  exact ⟨(x ++ y) ++ (z ++ t), rest, by rw [be32_append]; rfl, left⟩

theorem be32_inj {x y : Word32} (h : be32 x = be32 y) : x = y := by
  have read := congrArg (fun b => word32At (b ++ []) 0) h
  simpa only [word32At_be32] using read

theorem be16_inj {x y : Word16} (h : be16 x = be16 y) : x = y := by
  have read := congrArg (fun b => word16At (b ++ []) 0) h
  simpa only [word16At_be16] using read

theorem byte_toNat (b : Byte) : byte b.toNat = b := by simp [byte]

theorem toNat_byte {n : Nat} (h : n < 256) : (byte n).toNat = n := Nat.mod_eq_of_lt h

theorem handleAt_handleBytes (h : Handle) (rest : List Byte) : handleAt (handleBytes h ++ rest) 0 = h := by
  have index : Fin.ofNat 256 (byte h.index.val).toNat = h.index := by
    rw [toNat_byte h.index.isLt]
    exact Fin.ofNat_val_eq_self h.index
  have read : handleAt (handleBytes h ++ rest) 0
      = { index := Fin.ofNat 256 (byte h.index.val).toNat, generation := h.generation } := rfl
  rw [read, index]

theorem handleBytes_handleAt (a g : Byte) : handleBytes { index := Fin.ofNat 256 a.toNat, generation := g } = [a, g] := by
  have index : (Fin.ofNat 256 a.toNat).val = a.toNat := Nat.mod_eq_of_lt a.isLt
  unfold handleBytes
  rw [index, byte_toNat]

/-! ## Flags -/

theorem postFlags (x : Byte) (h : x &&& 0xF0#8 = 0) : byte (flagNat (x.getLsbD 0) + 2 * flagNat (x.getLsbD 1)
    + 4 * flagNat (x.getLsbD 2) + 8 * flagNat (x.getLsbD 3)) = x := by
  revert x
  decide

theorem sensorFlags (x : Byte) (h : x &&& 0x78#8 = 0) :
    byte ((x &&& 0x07#8).toNat + if x.getLsbD 7 then 128 else 0) = x := by
  revert x
  decide

/-- A flag byte with only its lowest bit. -/
theorem reportFlag (x : Byte) (h : x &&& 0xFE#8 = 0) : byte (flagNat (x.getLsbD 0)) = x := by
  revert x
  decide

/-! ## Actions (R74, R123) -/

/-- A code and a width are read as an action exactly where they are its code and its width, a pulse's being 1 or more. -/
theorem parseAction_iff (code : Nat) (width : Word16) (a : LineAction) :
    parseAction code width = some a ↔ code = a.code ∧ width = a.width ∧ ∀ v, a = .pulse v → v ≠ 0 := by
  unfold parseAction
  cases a with
  | on =>
    constructor
    · intro h
      split at h
      · split at h
        · next zero => exact ⟨rfl, zero, fun v k => by cases k⟩
        · cases h
      · split at h <;> cases h
      · split at h <;> cases h
      · cases h
    · rintro ⟨rfl, rfl, -⟩
      rfl
  | off =>
    constructor
    · intro h
      split at h
      · split at h <;> cases h
      · split at h
        · next zero => exact ⟨rfl, zero, fun v k => by cases k⟩
        · cases h
      · split at h <;> cases h
      · cases h
    · rintro ⟨rfl, rfl, -⟩
      rfl
  | pulse w =>
    constructor
    · intro h
      split at h
      · split at h <;> cases h
      · split at h <;> cases h
      · split at h
        · cases h
        · next nonzero =>
          cases h
          exact ⟨rfl, rfl, fun v k => by cases k; exact nonzero⟩
      · cases h
    · rintro ⟨rfl, rfl, nonzero⟩
      exact if_neg (nonzero _ rfl)

theorem actionCode_lt (a : LineAction) : a.code < 256 := by
  cases a with
  | on => decide
  | off => decide
  | pulse w => exact Nat.lt_of_lt_of_le (Nat.lt_succ_self 2) (by decide)

/-! ## POST (R74) -/

/-- The flags byte of a POST body. -/
def PostBody.flags (c : PostBody) : Nat :=
  flagNat c.report + 2 * flagNat c.noMerge + 4 * flagNat c.commitNow + 8 * flagNat c.tag.isSome

/-- The bytes of a POST body. -/
def PostBody.layout (c : PostBody) : List Byte :=
  [byte c.flags, byte c.action.code] ++ be32 c.lines ++ be16 c.action.width ++ be32 c.due ++ be16 (c.tag.getD 0)

/-- A POST body read field by field. -/
theorem parsePost_chunks (f a : Byte) (lines due : Word32) (width tag : Word16) :
    parsePost (f :: a :: (be32 lines ++ (be16 width ++ (be32 due ++ be16 tag)))) =
      (parseAction a.toNat width).bind fun action =>
        if f &&& 0xF0#8 = 0 ∧ lines ≠ 0 ∧ (f.getLsbD 3 = true ∨ tag = 0) then
          some { report := f.getLsbD 0, noMerge := f.getLsbD 1, commitNow := f.getLsbD 2, action, lines, due,
                 tag := if f.getLsbD 3 then some tag else none }
        else none := by
  have linesAt : word32At (f :: a :: (be32 lines ++ (be16 width ++ (be32 due ++ be16 tag)))) 2 = lines := word32_bytes lines
  have widthAt : word16At (f :: a :: (be32 lines ++ (be16 width ++ (be32 due ++ be16 tag)))) 6 = width := word16_bytes width
  have dueAt : word32At (f :: a :: (be32 lines ++ (be16 width ++ (be32 due ++ be16 tag)))) 8 = due := word32_bytes due
  have tagAt : word16At (f :: a :: (be32 lines ++ (be16 width ++ (be32 due ++ be16 tag)))) 12 = tag := word16_bytes tag
  have actionAt : natAt (f :: a :: (be32 lines ++ (be16 width ++ (be32 due ++ be16 tag)))) 1 = a.toNat := rfl
  have flagsAt : (f :: a :: (be32 lines ++ (be16 width ++ (be32 due ++ be16 tag)))).getD 0 0 = f := rfl
  unfold parsePost
  have length : (f :: a :: (be32 lines ++ (be16 width ++ (be32 due ++ be16 tag)))).length = 14 := rfl
  rw [if_pos length, linesAt, widthAt, dueAt, tagAt, actionAt, flagsAt]
  cases parseAction a.toNat width <;> rfl

theorem post_flags_bits (c : PostBody) : (byte c.flags).getLsbD 0 = c.report ∧ (byte c.flags).getLsbD 1 = c.noMerge
    ∧ (byte c.flags).getLsbD 2 = c.commitNow ∧ (byte c.flags).getLsbD 3 = c.tag.isSome ∧ byte c.flags &&& 0xF0#8 = 0 := by
  unfold PostBody.flags
  cases c.report <;> cases c.noMerge <;> cases c.commitNow <;> cases c.tag.isSome <;> decide

theorem parsePost_iff (b : List Byte) (c : PostBody) :
    parsePost b = some c ↔ b = c.layout ∧ c.lines ≠ 0 ∧ ∀ v, c.action = .pulse v → v ≠ 0 := by
  constructor
  · intro parsed
    have len : b.length = 14 := by
      by_contra other
      exact Option.some_ne_none c (parsed.symm.trans (if_neg other))
    obtain ⟨f, b1, rfl, len1⟩ := peel8 len
    obtain ⟨a, b2, rfl, len2⟩ := peel8 len1
    obtain ⟨lines, b3, rfl, len3⟩ := peel32 len2
    obtain ⟨width, b4, rfl, len4⟩ := peel16 len3
    obtain ⟨due, b5, rfl, len5⟩ := peel32 len4
    obtain ⟨tag, b6, rfl, len6⟩ := peel16 len5
    obtain rfl := List.eq_nil_of_length_eq_zero len6
    rw [List.append_nil, parsePost_chunks] at parsed
    obtain ⟨action, acts, fits⟩ := Option.bind_eq_some_iff.mp parsed
    obtain ⟨code, width_eq, nonzero⟩ := (parseAction_iff _ _ _).mp acts
    split at fits
    · next fine =>
      obtain ⟨unused, named, tagged⟩ := fine
      cases fits
      refine ⟨?_, named, nonzero⟩
      have hasTag : (if f.getLsbD 3 = true then some tag else none).isSome = f.getLsbD 3 := by cases f.getLsbD 3 <;> rfl
      have tagBack : (if f.getLsbD 3 = true then some tag else none).getD 0 = tag := by
        by_cases has : f.getLsbD 3 = true
        · rw [if_pos has]
          rfl
        · rw [if_neg has]
          exact (tagged.resolve_left has).symm
      unfold PostBody.layout PostBody.flags
      dsimp only
      rw [hasTag, tagBack, postFlags f unused, ← code, byte_toNat, ← width_eq]
      simp only [List.append_assoc, List.cons_append, List.nil_append, List.append_nil]
    · cases fits
  · rintro ⟨rfl, named, nonzero⟩
    obtain ⟨report, noMerge, commitNow, hasTag, unused⟩ := post_flags_bits c
    have acts := (parseAction_iff c.action.code c.action.width c.action).mpr ⟨rfl, rfl, nonzero⟩
    have tag : (if c.tag.isSome = true then some (c.tag.getD 0) else none) = c.tag := by cases c.tag <;> rfl
    have tagged : c.tag.isSome = true ∨ c.tag.getD 0 = 0 := by cases c.tag <;> simp
    refine (parsePost_chunks (byte c.flags) (byte c.action.code) c.lines c.due c.action.width (c.tag.getD 0)).trans ?_
    rw [toNat_byte (actionCode_lt _), acts, Option.bind_some, report, noMerge, commitNow, hasTag, if_pos ⟨unused, named, tagged⟩, tag]

end Sys2Proof.Machine

/-! PROOFS. The bodies of AMEND_ENTRY, CANCEL_ENTRIES, DEFINE_TEMPLATE and VERDICT (R61, R63, R123, R134). -/

namespace Sys2Proof.Machine

theorem peelHandle {b : List Byte} {n : Nat} (h : b.length = n + 2) :
    ∃ w rest, b = handleBytes w ++ rest ∧ rest.length = n := by
  obtain ⟨x, b1, rfl, h1⟩ := peel8 h
  obtain ⟨y, rest, rfl, left⟩ := peel8 h1
  exact ⟨{ index := Fin.ofNat 256 x.toNat, generation := y }, rest, by rw [handleBytes_handleAt]; rfl, left⟩

theorem handleBytes_inj {h k : Handle} (same : handleBytes h = handleBytes k) : h = k := by
  have read := congrArg (fun b => handleAt (b ++ []) 0) same
  simpa only [handleAt_handleBytes] using read

/-! ## AMEND_ENTRY (R63) -/

/-- The bytes of an AMEND_ENTRY body. -/
def AmendBody.layout (c : AmendBody) : List Byte := handleBytes c.handle ++ be32 c.due ++ c.width.elim [] be16

theorem parseAmend_short (h : Handle) (due : Word32) :
    parseAmend (handleBytes h ++ be32 due) = some { handle := h, due := due, width := none } := by
  have handleIs : handleAt (handleBytes h ++ be32 due) 0 = h := handleAt_handleBytes h _
  have dueAt : word32At (handleBytes h ++ be32 due) 2 = due := word32_bytes due
  have length : (handleBytes h ++ be32 due).length = 6 := rfl
  unfold parseAmend
  rw [if_pos length, handleIs, dueAt]

theorem parseAmend_long (h : Handle) (due : Word32) (width : Word16) : parseAmend (handleBytes h ++ (be32 due ++ be16 width))
    = if width = 0 then none else some { handle := h, due := due, width := some width } := by
  have handleIs : handleAt (handleBytes h ++ (be32 due ++ be16 width)) 0 = h := handleAt_handleBytes h _
  have dueAt : word32At (handleBytes h ++ (be32 due ++ be16 width)) 2 = due := word32_bytes due
  have widthAt : word16At (handleBytes h ++ (be32 due ++ be16 width)) 6 = width := word16_bytes width
  have length : (handleBytes h ++ (be32 due ++ be16 width)).length = 8 := rfl
  have longer : ¬ (handleBytes h ++ (be32 due ++ be16 width)).length = 6 := by rw [length]; decide
  unfold parseAmend
  rw [if_neg longer, if_pos length, handleIs, dueAt, widthAt]

theorem parseAmend_iff (b : List Byte) (c : AmendBody) : parseAmend b = some c ↔ b = c.layout ∧ c.width ≠ some 0 := by
  constructor
  · intro parsed
    by_cases short : b.length = 6
    · obtain ⟨h, b1, rfl, len1⟩ := peelHandle short
      obtain ⟨due, b2, rfl, len2⟩ := peel32 len1
      obtain rfl := List.eq_nil_of_length_eq_zero len2
      rw [List.append_nil] at parsed ⊢
      cases (parseAmend_short h due).symm.trans parsed
      exact ⟨(List.append_nil _).symm, by simp⟩
    · by_cases long : b.length = 8
      · obtain ⟨h, b1, rfl, len1⟩ := peelHandle long
        obtain ⟨due, b2, rfl, len2⟩ := peel32 len1
        obtain ⟨width, b3, rfl, len3⟩ := peel16 len2
        obtain rfl := List.eq_nil_of_length_eq_zero len3
        rw [List.append_nil, parseAmend_long] at parsed
        split at parsed
        · cases parsed
        · next nonzero =>
          cases parsed
          exact ⟨by simp [AmendBody.layout], by simpa using nonzero⟩
      · unfold parseAmend at parsed
        rw [if_neg short, if_neg long] at parsed
        cases parsed
  · obtain ⟨h, due, width⟩ := c
    rintro ⟨rfl, nonzero⟩
    cases width with
    | none =>
      unfold AmendBody.layout
      rw [Option.elim_none, List.append_nil]
      exact parseAmend_short h due
    | some w =>
      unfold AmendBody.layout
      rw [Option.elim_some, List.append_assoc, parseAmend_long]
      exact if_neg fun zero => nonzero (congrArg some zero)

/-! ## CANCEL_ENTRIES (R61) -/

/-- The bytes of a CANCEL_ENTRIES body. -/
def CancelSelector.layout : CancelSelector → List Byte
  | .handle h => byte 0 :: handleBytes h
  | .tag v => byte 1 :: be16 v
  | .capture q => byte 2 :: be32 q
  | .all => [byte 3]

theorem parseCancel_layout (c : CancelSelector) : parseCancel c.layout = some c := by
  cases c with
  | handle h => exact congrArg (fun k => some (CancelSelector.handle k)) (handleAt_handleBytes h [])
  | tag v => exact congrArg (fun k => some (CancelSelector.tag k)) (word16_bytes v)
  | capture q => exact congrArg (fun k => some (CancelSelector.capture k)) (word32_bytes q)
  | all => rfl

theorem parseCancel_iff (b : List Byte) (c : CancelSelector) : parseCancel b = some c ↔ b = c.layout := by
  constructor
  · intro parsed
    match b, parsed with
    | sel :: rest, parsed =>
      have code (n : Nat) (h : sel.toNat = n) : sel = byte n := by rw [← h, byte_toNat]
      unfold parseCancel at parsed
      dsimp only at parsed
      split at parsed
      · next kind =>
        split at parsed
        · next len =>
          obtain ⟨h, b1, rfl, len1⟩ := peelHandle len
          obtain rfl := List.eq_nil_of_length_eq_zero len1
          rw [handleAt_handleBytes] at parsed
          cases parsed
          rw [code 0 kind, List.append_nil]
          rfl
        · cases parsed
      · next kind =>
        split at parsed
        · next len =>
          obtain ⟨v, b1, rfl, len1⟩ := peel16 len
          obtain rfl := List.eq_nil_of_length_eq_zero len1
          rw [word16At_be16] at parsed
          cases parsed
          rw [code 1 kind, List.append_nil]
          rfl
        · cases parsed
      · next kind =>
        split at parsed
        · next len =>
          obtain ⟨q, b1, rfl, len1⟩ := peel32 len
          obtain rfl := List.eq_nil_of_length_eq_zero len1
          rw [word32At_be32] at parsed
          cases parsed
          rw [code 2 kind, List.append_nil]
          rfl
        · cases parsed
      · next kind =>
        split at parsed
        · next len =>
          obtain rfl := List.eq_nil_of_length_eq_zero len
          cases parsed
          rw [code 3 kind]
          rfl
        · cases parsed
      · cases parsed
  · rintro rfl
    exact parseCancel_layout c

end Sys2Proof.Machine

/-! PROOFS. The bodies of VERDICT and DEFINE_TEMPLATE (R123, R134). -/

namespace Sys2Proof.Machine

/-! ## VERDICT (R134) -/

/-- The byte of a template selector, FFh for all templates. -/
def selectorCode (o : Option TemplateNo) : Nat := o.elim 0xFF fun n => n.val

/-- The template selector that a byte names. -/
def selectorOf (n : Nat) : Option (Option TemplateNo) :=
  if n = 0xFF then some none else if h : n < 32 then some (some ⟨n, h⟩) else none

theorem selectorOf_iff (n : Nat) (o : Option TemplateNo) : selectorOf n = some o ↔ n = selectorCode o := by
  unfold selectorOf selectorCode
  constructor
  · intro h
    split at h
    · next all =>
      cases h
      exact all
    · split at h
      · cases h
        rfl
      · cases h
  · rintro rfl
    cases o with
    | none => rfl
    | some n =>
      have below : n.val ≠ 0xFF := by omega
      exact (if_neg below).trans (dif_pos n.isLt)

theorem parseVerdict_chunks (seq : Word32) (t v : Byte) : parseVerdict (be32 seq ++ [t, v]) =
    if v.toNat ≤ 1 then
      (selectorOf t.toNat).map fun o => { seq := seq, template := o, keep := decide (v.toNat = 0) }
    else none := by
  have seqAt : word32At (be32 seq ++ [t, v]) 0 = seq := word32_bytes seq
  have selectorAt : natAt (be32 seq ++ [t, v]) 4 = t.toNat := rfl
  have verdictAt : natAt (be32 seq ++ [t, v]) 5 = v.toNat := rfl
  have length : (be32 seq ++ [t, v]).length = 6 := rfl
  unfold parseVerdict selectorOf
  rw [seqAt, selectorAt, verdictAt, length]
  by_cases small : v.toNat ≤ 1
  · rw [if_pos ⟨rfl, small⟩, if_pos small]
    by_cases all : t.toNat = 0xFF
    · rw [if_pos all, if_pos all]
      rfl
    · rw [if_neg all, if_neg all]
      by_cases named : t.toNat < 32
      · rw [dif_pos named, dif_pos named]
        rfl
      · rw [dif_neg named, dif_neg named]
        rfl
  · rw [if_neg fun h => small h.2, if_neg small]

/-- The bytes of a VERDICT body. -/
def VerdictBody.layout (c : VerdictBody) : List Byte :=
  be32 c.seq ++ [byte (selectorCode c.template), byte (if c.keep then 0 else 1)]

theorem parseVerdict_iff (b : List Byte) (c : VerdictBody) : parseVerdict b = some c ↔ b = c.layout := by
  constructor
  · intro parsed
    have len : b.length = 6 := by
      by_contra other
      exact Option.some_ne_none c (parsed.symm.trans (if_neg fun h => other h.1))
    obtain ⟨seq, b1, rfl, len1⟩ := peel32 len
    obtain ⟨t, b2, rfl, len2⟩ := peel8 len1
    obtain ⟨v, b3, rfl, len3⟩ := peel8 len2
    obtain rfl := List.eq_nil_of_length_eq_zero len3
    rw [parseVerdict_chunks] at parsed
    split at parsed
    · next small =>
      obtain ⟨o, selected, rfl⟩ := Option.map_eq_some_iff.mp parsed
      have selector := (selectorOf_iff _ _).mp selected
      have verdict : (if decide (v.toNat = 0) = true then 0 else 1) = v.toNat := by
        by_cases zero : v.toNat = 0
        · simp [zero]
        · simp [zero]
          omega
      unfold VerdictBody.layout
      dsimp only
      rw [← selector, byte_toNat, verdict, byte_toNat]
    · cases parsed
  · obtain ⟨seq, o, keep⟩ := c
    rintro rfl
    have code : selectorCode o < 256 := by
      cases o with
      | none => decide
      | some n => exact Nat.lt_trans n.isLt (by decide)
    unfold VerdictBody.layout
    rw [parseVerdict_chunks, toNat_byte code, (selectorOf_iff _ _).mpr rfl]
    cases keep <;> rfl

/-! ## DEFINE_TEMPLATE (R123) -/

/-- The verdict mode, decision distance and default of a body. -/
def VerdictMode.mode : VerdictMode → Nat
  | .none => 0
  | .required _ _ => 1

def VerdictMode.distance : VerdictMode → Word32
  | .none => 0
  | .required dist _ => dist

def VerdictMode.defaultCode : VerdictMode → Nat
  | .none => 0
  | .required _ d => d.code

theorem parseVerdictMode_iff (mode dflt : Nat) (dist offset : Word32) (v : VerdictMode) :
    parseVerdictMode mode dflt dist offset = some v ↔ mode = v.mode ∧ dist = v.distance ∧ dflt = v.defaultCode
      ∧ ∀ x d, v = .required x d → 1 ≤ x.toNat ∧ x.toNat < offset.toNat := by
  unfold parseVerdictMode
  constructor
  · intro h
    split at h
    · split at h
      · next zero =>
        cases h
        exact ⟨rfl, zero.1, zero.2, fun x d k => by cases k⟩
      · cases h
    · split at h
      · next range =>
        split at h
        · cases h
          exact ⟨rfl, rfl, rfl, fun x d k => by cases k; omega⟩
        · cases h
          exact ⟨rfl, rfl, rfl, fun x d k => by cases k; omega⟩
        · cases h
      · cases h
    · cases h
  · rintro ⟨rfl, rfl, rfl, range⟩
    cases v with
    | none => rfl
    | required x d =>
      have range := range x d rfl
      have inside : 1 ≤ x.toNat ∧ x.toNat + 1 ≤ offset.toNat := by omega
      refine (if_pos inside).trans ?_
      cases d <;> rfl

/-- The byte of a sensor and an edge. -/
def sensorCode (k : SensorNo) (e : Edge) : Nat := k.val + match e with | .rising => 0 | .falling => 128

/-- The bytes of a DEFINE_TEMPLATE body. -/
def TemplateBody.layout (c : TemplateBody) : List Byte :=
  byte c.num.val :: byte (sensorCode c.sensor c.edge) :: (be32 c.lines ++ (byte c.action.code :: (be16 c.action.width
    ++ (be32 c.offset ++ (byte c.verdict.mode :: (be32 c.verdict.distance
      ++ [byte c.verdict.defaultCode, byte (flagNat c.report)]))))))

/-- A DEFINE_TEMPLATE body read field by field. -/
theorem parseTemplate_chunks (n k : Byte) (lines : Word32) (a : Byte) (width : Word16) (offset : Word32) (m : Byte)
    (dist : Word32) (d f : Byte) :
    parseTemplate (n :: k :: (be32 lines ++ (a :: (be16 width ++ (be32 offset ++ (m :: (be32 dist ++ [d, f]))))))) =
      (parseAction a.toNat width).bind fun action =>
        (parseVerdictMode m.toNat d.toNat dist offset).bind fun verdict =>
          if h : n.toNat < 32 then
            if k &&& 0x78#8 = 0 ∧ lines ≠ 0 ∧ 1 ≤ offset.toNat ∧ offset.toNat ≤ Config.maxOffset ∧ f &&& 0xFE#8 = 0 then
              some { num := ⟨n.toNat, h⟩, sensor := Fin.ofNat 8 (k &&& 0x07#8).toNat,
                     edge := if k.getLsbD 7 then .falling else .rising, lines, action, offset, verdict,
                     report := f.getLsbD 0 }
            else none
          else none := by
  generalize whole : n :: k :: (be32 lines ++ (a :: (be16 width ++ (be32 offset ++ (m :: (be32 dist ++ [d, f])))))) = b
  have length : b.length = 20 := whole ▸ rfl
  have numAt : natAt b 0 = n.toNat := whole ▸ rfl
  have sensorAt : b.getD 1 0 = k := whole ▸ rfl
  have linesAt : word32At b 2 = lines := whole ▸ word32_bytes lines
  have actionAt : natAt b 6 = a.toNat := whole ▸ rfl
  have widthAt : word16At b 7 = width := whole ▸ word16_bytes width
  have offsetAt : word32At b 9 = offset := whole ▸ word32_bytes offset
  have modeAt : natAt b 13 = m.toNat := whole ▸ rfl
  have distAt : word32At b 14 = dist := whole ▸ word32_bytes dist
  have dfltAt : natAt b 18 = d.toNat := whole ▸ rfl
  have flagsAt : b.getD 19 0 = f := whole ▸ rfl
  unfold parseTemplate
  simp only [length, numAt, sensorAt, linesAt, actionAt, widthAt, offsetAt, modeAt, distAt, dfltAt, flagsAt, if_true]
  cases parseAction a.toNat width with
  | none => rfl
  | some action => cases parseVerdictMode m.toNat d.toNat dist offset <;> rfl

theorem sensorCode_bits (s : SensorNo) (e : Edge) : byte (sensorCode s e) &&& 0x78#8 = 0
    ∧ Fin.ofNat 8 (byte (sensorCode s e) &&& 0x07#8).toNat = s
    ∧ (if (byte (sensorCode s e)).getLsbD 7 = true then Edge.falling else .rising) = e := by
  revert s
  cases e <;> decide

theorem sensorCode_read (k : Byte) (unused : k &&& 0x78#8 = 0) : byte (sensorCode (Fin.ofNat 8 (k &&& 0x07#8).toNat)
    (if k.getLsbD 7 = true then .falling else .rising)) = k := by
  revert k
  decide

theorem reportFlag_bits (r : Bool) : byte (flagNat r) &&& 0xFE#8 = 0 ∧ (byte (flagNat r)).getLsbD 0 = r := by
  cases r <;> decide

theorem verdictCodes_lt (v : VerdictMode) : v.mode < 256 ∧ v.defaultCode < 256 := by
  cases v with
  | none => decide
  | required x d =>
    have code : d.code < 256 := by cases d <;> decide
    exact ⟨Nat.lt_of_lt_of_le (Nat.lt_succ_self 1) (by decide), code⟩

theorem parseTemplate_iff (b : List Byte) (c : TemplateBody) : parseTemplate b = some c ↔ b = c.layout
    ∧ c.lines ≠ 0 ∧ (∀ v, c.action = .pulse v → v ≠ 0) ∧ 1 ≤ c.offset.toNat ∧ c.offset.toNat ≤ 1048576
    ∧ ∀ dist d, c.verdict = .required dist d → 1 ≤ dist.toNat ∧ dist.toNat < c.offset.toNat := by
  constructor
  · intro parsed
    have len : b.length = 20 := by
      by_contra other
      exact Option.some_ne_none c (parsed.symm.trans (if_neg other))
    obtain ⟨n, b1, rfl, len1⟩ := peel8 len
    obtain ⟨k, b2, rfl, len2⟩ := peel8 len1
    obtain ⟨lines, b3, rfl, len3⟩ := peel32 len2
    obtain ⟨a, b4, rfl, len4⟩ := peel8 len3
    obtain ⟨width, b5, rfl, len5⟩ := peel16 len4
    obtain ⟨offset, b6, rfl, len6⟩ := peel32 len5
    obtain ⟨m, b7, rfl, len7⟩ := peel8 len6
    obtain ⟨dist, b8, rfl, len8⟩ := peel32 len7
    obtain ⟨d, b9, rfl, len9⟩ := peel8 len8
    obtain ⟨f, b10, rfl, len10⟩ := peel8 len9
    obtain rfl := List.eq_nil_of_length_eq_zero len10
    rw [parseTemplate_chunks] at parsed
    obtain ⟨action, acts, parsed⟩ := Option.bind_eq_some_iff.mp parsed
    obtain ⟨verdict, waits, parsed⟩ := Option.bind_eq_some_iff.mp parsed
    obtain ⟨code, width_eq, nonzero⟩ := (parseAction_iff _ _ _).mp acts
    obtain ⟨mode, dist_eq, dflt, range⟩ := (parseVerdictMode_iff _ _ _ _ _).mp waits
    split at parsed
    · split at parsed
      · next fine =>
        obtain ⟨unused, named, ahead, near, clear⟩ := fine
        cases parsed
        refine ⟨?_, named, nonzero, ahead, near, range⟩
        unfold TemplateBody.layout
        dsimp only
        rw [byte_toNat, sensorCode_read k unused, ← code, ← width_eq, ← mode, ← dist_eq, ← dflt, byte_toNat, byte_toNat,
          byte_toNat, reportFlag f clear]
      · cases parsed
    · cases parsed
  · rintro ⟨rfl, named, nonzero, ahead, near, range⟩
    obtain ⟨num, sensor, edge, lines, action, offset, verdict, report⟩ := c
    obtain ⟨unused, sensor_eq, edge_eq⟩ := sensorCode_bits sensor edge
    obtain ⟨clear, report_eq⟩ := reportFlag_bits report
    obtain ⟨mode_lt, dflt_lt⟩ := verdictCodes_lt verdict
    have acts := (parseAction_iff action.code action.width action).mpr ⟨rfl, rfl, nonzero⟩
    have waits := (parseVerdictMode_iff verdict.mode verdict.defaultCode verdict.distance offset verdict).mpr
      ⟨rfl, rfl, rfl, range⟩
    have num_lt : num.val < 256 := Nat.lt_trans num.isLt (by decide)
    unfold TemplateBody.layout
    dsimp only
    rw [parseTemplate_chunks, toNat_byte (actionCode_lt _), acts, Option.bind_some, toNat_byte mode_lt, toNat_byte dflt_lt,
      waits, Option.bind_some, dif_pos (by rw [toNat_byte num_lt]; exact num.isLt), if_pos ⟨unused, named, ahead, near, clear⟩]
    simp only [toNat_byte num_lt, sensor_eq, edge_eq, report_eq]

end Sys2Proof.Machine

/-! PROOFS. Bodies and records as section 10.6 lays them out (O46). -/

namespace Sys2Proof.Machine

theorem be16_bytes (w : Word16) : be16 w = [byte (w.toNat / 0x100), byte w.toNat] := by
  have part (n : Nat) : w.extractLsb' n 8 = byte (w.toNat / 2 ^ n) := by
    refine BitVec.eq_of_toNat_eq ?_
    simp [byte, BitVec.extractLsb'_toNat, Nat.shiftRight_eq_div_pow]
  unfold be16
  rw [part 8, part 0]
  simp

theorem be32_bytes (w : Word32) : be32 w
    = [byte (w.toNat / 0x1000000), byte (w.toNat / 0x10000), byte (w.toNat / 0x100), byte w.toNat] := by
  have part (n : Nat) : w.extractLsb' n 8 = byte (w.toNat / 2 ^ n) := by
    refine BitVec.eq_of_toNat_eq ?_
    simp [byte, BitVec.extractLsb'_toNat, Nat.shiftRight_eq_div_pow]
  unfold be32
  rw [part 24, part 16, part 8, part 0]
  simp

theorem sharesBytes (r : LineRec) (f : Share → Byte) : (List.range 4).map (fun i => (r.shares[i]?).elim 0 f)
    = (List.range 4).map fun i => match r.shares[i]? with
      | none => 0
      | some h => f h := by
  congr 1
  funext i
  cases r.shares[i]? <;> rfl

/-- Settles O46: each body by its reading, each record by its definition. -/
theorem bodiesAndRecordsAreLaidOut : Obligations.BodiesAndRecordsAreLaidOut := by
  unfold Obligations.BodiesAndRecordsAreLaidOut
  intro flag port action width widthLaw dflt mode sensor verdict lineName templateName
  have port_eq : port = Port.code := funext fun p => by cases p <;> rfl
  have action_eq : action = LineAction.code := funext fun a => by cases a <;> rfl
  have width_eq : width = fun a => be16 a.width := funext fun a => by cases a <;> rfl
  have dflt_eq : dflt = Default.code := funext fun d => by cases d <;> rfl
  have mode_eq : mode = Mode.code := funext fun m => by cases m <;> rfl
  have sensor_eq : sensor = fun k e => byte (sensorCode k e) := funext fun k => funext fun e => by cases e <;> rfl
  have verdict_eq : verdict = fun v => byte v.mode :: (be32 v.distance ++ [byte v.defaultCode]) := funext fun v => by
    cases v with
    | none => rfl
    | required x d => cases d <;> rfl
  refine ⟨fun n => rfl, be16_bytes, be32_bytes, fun h => rfl, fun b c => ?post, fun b c => ?amend, fun b c => ?cancel,
    fun b c => ?template, fun b c => ?verdict, fun o => ?outcome, fun f => ?entry, fun c => ?capture, fun l r driven => ?line,
    fun n f => ?templateRecord, fun c => ?cut, ?noDetail, fun n => ?detail, fun m => ?mode, ?motion, ?cause, ?status, ?kinds, ?requests⟩
  case post =>
    rw [parsePost_iff, action_eq, width_eq]
    rfl
  case amend => exact parseAmend_iff b c
  case cancel =>
    rw [parseCancel_iff]
    cases c <;> rfl
  case template =>
    rw [parseTemplate_iff, action_eq, width_eq, verdict_eq, sensor_eq]
    have same : c.layout = [byte c.num.val, byte (sensorCode c.sensor c.edge)] ++ be32 c.lines ++ [byte c.action.code]
        ++ be16 c.action.width ++ be32 c.offset ++ (byte c.verdict.mode :: (be32 c.verdict.distance
          ++ [byte c.verdict.defaultCode])) ++ [byte (flagNat c.report)] := by
      simp [TemplateBody.layout]
    rw [same]
    rfl
  case verdict => exact parseVerdict_iff b c
  case outcome =>
    obtain ⟨reason, slot, tag, result⟩ := o
    cases reason <;> cases result <;> rfl
  case entry =>
    rw [port_eq, action_eq, width_eq, dflt_eq]
    obtain ⟨handle, owner, origin, lines, act, due, report, stage, commitNo⟩ := f
    cases origin with
    | posted tag => cases tag <;> cases stage <;> rfl
    | template n q => cases stage <;> rfl
  case capture =>
    rw [sensor_eq]
    obtain ⟨seq, k, edge, reading, time, outstanding⟩ := c
    cases edge <;> rfl
  case line =>
    rw [port_eq]
    unfold lineRecord
    rw [sharesBytes]
    obtain ⟨leaseMode, shares, force, fault⟩ := r
    cases fault <;> rfl
  case templateRecord =>
    rw [port_eq, action_eq, width_eq, verdict_eq, sensor_eq]
    obtain ⟨owner, k, edge, lines, act, offset, wait⟩ := f
    cases edge <;> cases wait <;> rfl
  case cut => rfl
  case noDetail => rfl
  case detail =>
    rw [mode_eq]
    obtain ⟨kind, handle⟩ := n
    cases handle <;> rfl
  case mode => rw [mode_eq]
  case motion => rfl
  case cause => rfl
  case status => rfl
  case kinds => rfl
  case requests => rfl

end Sys2Proof.Machine

/-! PROOFS. CANCEL_ENTRIES (O24). -/

namespace Sys2Proof.Machine

/-! ## Matched entries taken one after another (R61) -/

theorem cancelOne_leaves (acc : State × Nat) (e : Entry) : EntryLeaves e acc.1 (cancelOne acc e).1 := by
  unfold cancelOne
  split
  · exact removeEntry_leaves acc.1 e
  · exact removeCorrupt_leaves acc.1 e

theorem cancelOne_frame (acc : State × Nat) (e : Entry) : OnlyEntries (corruptFindings [e]) acc.1 (cancelOne acc e).1
    ∧ (cancelOne acc e).2 = acc.2 + ([e].filter fun e => e.codeOk).length := by
  cases sound : e.codeOk with
  | true =>
    have step : cancelOne acc e = (acc.1.removeEntry e, acc.2 + 1) := if_pos sound
    have found : corruptFindings [e] = [] := by simp [corruptFindings, sound]
    rw [step, found]
    exact ⟨OnlyEntries.of_table, by simp [sound]⟩
  | false =>
    have step : cancelOne acc e = (acc.1.removeCorrupt e, acc.2) := if_neg (by simp [sound])
    have found : corruptFindings [e] = [.entry e.index] := by simp [corruptFindings, sound]
    rw [step, found]
    exact ⟨rfl, by simp [sound]⟩

/-- A cancellation hands on a finding for each corrupt entry; it counts the others. -/
theorem cancelAll_frame (es : List Entry) (acc : State × Nat) : OnlyEntries (corruptFindings es) acc.1 (es.foldl cancelOne acc).1
    ∧ (es.foldl cancelOne acc).2 = acc.2 + (es.filter fun e => e.codeOk).length := by
  induction es generalizing acc with
  | nil => exact ⟨OnlyEntries.refl _, rfl⟩
  | cons e es ih =>
    obtain ⟨frame, count⟩ := ih (cancelOne acc e)
    obtain ⟨first, one⟩ := cancelOne_frame acc e
    have parts : ((e :: es).filter fun e => e.codeOk).length
        = ([e].filter fun e => e.codeOk).length + (es.filter fun e => e.codeOk).length := by
      rw [← List.singleton_append, List.filter_append, List.length_append]
    rw [List.foldl_cons, corruptFindings_cons, parts, ← Nat.add_assoc, ← one]
    exact ⟨first.trans frame, count⟩

/-- On distinct indices the entries with the index of a matched one are the matched ones. -/
theorem filter_matched {live : List Entry} (distinct : (live.map Entry.index).Nodup) (gone : Entry → Bool) :
    live.filter (fun x => !((live.filter gone).any fun e => e.index == x.index)) = live.filter fun x => !gone x := by
  refine List.filter_congr fun x mem => congrArg Bool.not ?_
  rw [Bool.eq_iff_iff, List.any_eq_true]
  constructor
  · rintro ⟨e, matched, same⟩
    obtain ⟨live_e, gone_e⟩ := List.mem_filter.mp matched
    rw [← List.inj_on_of_nodup_map distinct live_e mem (beq_iff_eq.mp same)]
    exact gone_e
  · exact fun gone_x => ⟨x, List.mem_filter.mpr ⟨mem, gone_x⟩, by simp⟩

/-- Entries of a lawful table that leave by a test. -/
theorem entriesRemoved_of_leave {s t : State} {gone : Entry → Bool} (law : TableLaw s.table)
    (leave : EntriesLeave (s.table.live.filter gone) s t) : EntriesRemoved s { s with table := t.table } gone := by
  obtain ⟨-, distinct, -, begun⟩ := law
  obtain ⟨table, counted⟩ := leave
  rw [filter_matched distinct] at table
  refine ⟨?_, fun p => ?_⟩
  · rw [table]
  · exact counted (fun e matched => (List.mem_filter.mp matched).1) (distinct.sublist (List.filter_sublist.map _)) distinct
      begun p

/-- The state and the reply of a cancellation of the entries that meet a test. -/
theorem cancelList_removes {s : State} (law : TableLaw s.table) (gone : Entry → Bool) : ∃ t u : State,
    s.cancelList (s.table.live.filter gone)
      = (u, Reply.ok (be16 (BitVec.ofNat 16 (s.table.live.filter fun e => gone e && e.codeOk).length)))
    ∧ EntriesRemoved s t gone
    ∧ u = { t with wires := { s.wires with
        findings := s.wires.findings ++ (s.table.live.filter fun e => gone e && !e.codeOk).map fun e => .entry e.index } } := by
  obtain ⟨frame, count⟩ := cancelAll_frame (s.table.live.filter gone) (s, 0)
  have leave := foldl_entriesLeave id Prod.fst cancelOne cancelOne_leaves (s.table.live.filter gone) (s, 0)
  rw [List.map_id] at leave
  have both (test : Entry → Bool) :
      (s.table.live.filter gone).filter test = s.table.live.filter fun e => gone e && test e := by
    rw [List.filter_filter]
    exact List.filter_congr fun e _ => Bool.and_comm _ _
  have reply : s.cancelList (s.table.live.filter gone) = (((s.table.live.filter gone).foldl cancelOne (s, 0)).1,
      Reply.ok (be16Nat ((s.table.live.filter gone).foldl cancelOne (s, 0)).2)) := rfl
  unfold OnlyEntries corruptFindings at frame
  rw [both] at frame count
  rw [count, Nat.zero_add] at reply
  refine ⟨_, _, reply, entriesRemoved_of_leave law leave, ?_⟩
  have table := leave.table
  generalize ((s.table.live.filter gone).foldl cancelOne (s, 0)).1 = u at frame table
  rw [frame]

/-! ## CANCEL_ENTRIES (R61) -/

theorem cancelRequest_sel (p : Port) (body : List Byte) (s : State) (running : s.table.mode = .run) (sel : CancelSelector)
    (body_eq : body = sel.layout) (broad : ∀ h, sel ≠ .handle h) :
    cancelRequest p body s = s.cancelList (s.table.live.filter (sel.selects p)) := by
  subst body_eq
  unfold cancelRequest
  rw [if_neg (not_not_intro running), parseCancel_layout]
  cases sel with
  | handle h => exact absurd rfl (broad h)
  | tag v => rfl
  | capture q => rfl
  | all => rfl

section
variable (p : Port) {body : List Byte} {s : State} (running : s.table.mode = .run) {h : Handle}
  (body_eq : body = (CancelSelector.handle h).layout)
include running body_eq

theorem cancelRequest_absent (absent : s.ownEntry p h = none) :
    cancelRequest p body s = (s, Reply.refuse .noSuchEntry) := by
  subst body_eq
  unfold cancelRequest
  rw [if_neg (not_not_intro running), parseCancel_layout]
  simp only [absent]

theorem cancelRequest_named {e : Entry} (named : s.ownEntry p h = some e) : cancelRequest p body s = s.cancelList [e] := by
  subst body_eq
  unfold cancelRequest
  rw [if_neg (not_not_intro running), parseCancel_layout]
  simp only [named]

end

/-- The entry that a handle names is the one that its owner and handle pick. -/
theorem filter_handle {s : State} {p : Port} {e : Entry} (law : TableLaw s.table) (mem : e ∈ s.table.live)
    (own : e.fields.owner = p) :
    s.table.live.filter (fun x => x.fields.owner == p && x.fields.handle == e.fields.handle) = [e] := by
  obtain ⟨-, distinct, handles, -⟩ := law
  have only : s.table.live.filter (fun x => x.fields.owner == p && x.fields.handle == e.fields.handle)
      = s.table.live.filter fun x => decide (x = e) := by
    refine List.filter_congr fun x live => ?_
    rw [Bool.eq_iff_iff, Bool.and_eq_true, beq_iff_eq, beq_iff_eq, decide_eq_true_iff]
    refine ⟨fun ⟨_, same⟩ => ?_, fun same => by rw [same]; exact ⟨own, rfl⟩⟩
    rw [handles x live, handles e mem] at same
    exact List.inj_on_of_nodup_map distinct live mem (congrArg Handle.index same)
  rw [only, List.filter_eq, List.count_eq_one_of_mem distinct.of_map mem]
  rfl

/-- Settles O24: the selector decides the entries that leave, each by its code. -/
theorem cancelRemovesTheMatchedEntries : Obligations.CancelRemovesTheMatchedEntries := by
  unfold Obligations.CancelRemovesTheMatchedEntries
  intro s p w waits mine cancels
  have matched (law : TableLaw s.table) (gone : Entry → Bool)
      (taken : cancelRequest p w.body s = s.cancelList (s.table.live.filter gone)) : cancels gone := by
    obtain ⟨t, u, reply, removed, frame⟩ := cancelList_removes law gone
    refine ⟨t, u, serve_unnoticed waits (cancelRequest p) u _ (taken.trans reply) (by rw [frame]), removed, frame⟩
  refine ⟨fun shut => serve_kept waits _ (.refuse .wrongMode) (if_pos shut), fun running bad =>
    serve_kept waits _ (.refuse .badField) ?_, fun running law => ⟨fun v body => matched law _ ?_, fun v body => matched law _ ?_,
      fun body => matched law _ ?_, fun h body => ⟨fun absent => ?_, fun ⟨e, mem, names, own⟩ => matched law _ ?_⟩⟩⟩
  · unfold cancelRequest
    rw [if_neg (not_not_intro running), bad]
  · exact cancelRequest_sel p w.body s running (.tag v) body (by simp)
  · exact cancelRequest_sel p w.body s running (.capture v) body (by simp)
  · refine (cancelRequest_sel p w.body s running .all body (by simp)).trans ?_
    congr 2
    funext e
    exact Bool.and_true _
  · exact serve_kept waits _ (.refuse .noSuchEntry) (cancelRequest_absent p running body (ownEntry_none law absent))
  · subst names
    rw [cancelRequest_named p running body (ownEntry_live law mem p own), filter_handle law mem own]

end Sys2Proof.Machine

/-! PROOFS. AMEND_ENTRY (O25). -/

namespace Sys2Proof.Machine

section
variable (p : Port) {body : List Byte} {s : State} (running : s.table.mode = .run)
include running

theorem amendRequest_badBody (bad : parseAmend body = none) : amendRequest p body s = (s, Reply.refuse .badField) := by
  unfold amendRequest
  rw [if_neg (not_not_intro running)]
  simp only [bad]

variable {b : AmendBody} (parsed : parseAmend body = some b)
include parsed

theorem amendRequest_absent (absent : s.ownEntry p b.handle = none) :
    amendRequest p body s = (s, Reply.refuse .noSuchEntry) := by
  unfold amendRequest
  rw [if_neg (not_not_intro running)]
  simp only [parsed, absent]

variable {e : Entry} (named : s.ownEntry p b.handle = some e)
include named

theorem amendRequest_corrupt (corrupt : e.codeOk = false) :
    amendRequest p body s = (s.removeCorrupt e, Reply.refuse .noSuchEntry) := by
  unfold amendRequest
  rw [if_neg (not_not_intro running)]
  simp only [parsed, named, corrupt, Bool.false_eq_true, if_false]

theorem amendRequest_held (sound : e.codeOk = true) (held : e.fields.stage ≠ .armed) :
    amendRequest p body s = (s, Reply.refuse .notArmed) := by
  have waits : e.fields.stage.isHeld = true := by
    cases stage : e.fields.stage with
    | armed => exact absurd stage held
    | held d f => rfl
  unfold amendRequest
  rw [if_neg (not_not_intro running)]
  simp only [parsed, named, sound, waits, if_true]

theorem amendRequest_badWidth (sound : e.codeOk = true) (armed : e.fields.stage = .armed) (given : b.width ≠ none)
    (noPulse : ∀ v, e.fields.action ≠ .pulse v) : amendRequest p body s = (s, Reply.refuse .badField) := by
  have free : e.fields.stage.isHeld = false := by rw [armed]; rfl
  have unfit : e.fields.action.amended b.width = none := by
    obtain ⟨w, width⟩ := Option.ne_none_iff_exists'.mp given
    rw [width]
    cases action : e.fields.action with
    | on => rfl
    | off => rfl
    | pulse v => exact absurd action (noPulse v)
  unfold amendRequest
  rw [if_neg (not_not_intro running)]
  simp only [parsed, named, sound, free, unfit, if_true, Bool.false_eq_true, if_false]

end

theorem amended_fits (a a' : LineAction) (w : Option Word16)
    (fits : w = none ∧ a' = a ∨ ∃ u v, w = some v ∧ a = .pulse u ∧ a' = .pulse v) : a.amended w = some a' := by
  rcases fits with ⟨rfl, rfl⟩ | ⟨u, v, rfl, rfl, rfl⟩
  · rfl
  · rfl

/-! ## The checks behind the consultation (R63) -/

section
variable {s : State} (p : Port) {e : Entry} (due : Word32) (a : LineAction) (codes : CodesMatch s e.fields.lines)
include codes

theorem amendChecked_notLeased (unleased : ¬AllLeased s p e.fields.lines) :
    s.amendChecked p e due a = (s, Reply.refuse .notLeased) := by
  obtain ⟨l, first⟩ := firstUnleased_isSome unleased
  unfold State.amendChecked
  simp only [consult_ok s e.fields.lines codes, first, Option.isSome_some, if_true]

variable (leases : AllLeased s p e.fields.lines)
include leases

theorem amendChecked_window {st : Status} (outside : windowStatus s.table.pos due = some st) :
    s.amendChecked p e due a = (s, Reply.refuse st) := by
  unfold State.amendChecked
  simp only [consult_ok s e.fields.lines codes, firstUnleased_none leases, Option.isSome_none, Bool.false_eq_true, if_false,
    outside]

variable (inside : windowStatus s.table.pos due = none)
include inside

theorem amendChecked_conflict (refuses : ConflictRefuses s.table.limits p
    (conflicts s.table.limits p e.fields.lines due s.table.live)) :
    s.amendChecked p e due a = (s, Reply.refuse .conflict) := by
  have outcome := (conflictOutcome_none_iff _ _ _).mpr refuses
  unfold State.amendChecked
  simp only [consult_ok s e.fields.lines codes, firstUnleased_none leases, Option.isSome_none, Bool.false_eq_true, if_false,
    inside, outcome]

theorem amendChecked_amends (outranks : ¬ConflictRefuses s.table.limits p
    (conflicts s.table.limits p e.fields.lines due s.table.live)) :
    s.amendChecked p e due a = s.amendEntry e due a (conflicts s.table.limits p e.fields.lines due s.table.live) := by
  have outcome := conflictOutcome_displaces outranks
  unfold State.amendChecked
  simp only [consult_ok s e.fields.lines codes, firstUnleased_none leases, Option.isSome_none, Bool.false_eq_true, if_false,
    inside, outcome]

end

/-- Entries rewritten in their places with the same owner count for it as before. -/
theorem ownedBy_map {live : List Entry} {f : Entry → Entry} (same : ∀ x ∈ live, (f x).fields.owner = x.fields.owner) (r : Port) :
    ownedBy (live.map f) r = ownedBy live r := by
  unfold ownedBy
  rw [List.filter_map, List.length_map]
  congr 1
  refine List.filter_congr fun x mem => ?_
  rw [Function.comp_apply, same x mem]

/-- No port is told of displacements by its own proposal. -/
theorem displacedTold_own (q : TableLimits) (p : Port) (x : LineSet) (due : Word32) (live : List Entry) :
    displacedTold p (conflicts q p x due live) = [] := by
  unfold displacedTold
  rw [List.filter_eq_nil_iff.mpr fun c mem => ?_, List.map_nil]
  simp [conflicts_otherOwner q p x due live c mem]

/-- Settles O25: the checks one after another, and the entry rewritten in its place over the entries it displaces. -/
theorem amendMovesTheEntry : Obligations.AmendMovesTheEntry := by
  unfold Obligations.AmendMovesTheEntry
  intro s p w waits q refused
  have refuses {st : Status} (taken : amendRequest p w.body s = (s, Reply.refuse st)) : refused st :=
    serve_kept waits (amendRequest p) (.refuse st) taken
  refine ⟨fun shut => refuses (if_pos shut), fun running bad => refuses (amendRequest_badBody p running bad),
    fun b running parsed law => ⟨fun absent => refuses (amendRequest_absent p running parsed (ownEntry_none law absent)),
      fun e mem names own => ?_⟩⟩
  have named : s.ownEntry p b.handle = some e := names ▸ ownEntry_live law mem p own
  refine ⟨fun corrupt => ?corrupt, fun sound held => refuses (amendRequest_held p running parsed named sound held),
    fun sound armed given noPulse => refuses (amendRequest_badWidth p running parsed named sound armed given noPulse),
    fun a sound armed codes fits => ?_⟩
  case corrupt =>
    refine ⟨{ s with table := (s.removeCorrupt e).table }, s.removeCorrupt e,
      serve_unnoticed waits (amendRequest p) _ (.refuse .noSuchEntry) (amendRequest_corrupt p running parsed named corrupt) rfl,
      ⟨?_, removeCorrupt_liveCounted s e⟩, rfl⟩
    have others : (fun x : Entry => !(x.index == e.index)) = fun x => decide (x.index ≠ e.index) := by
      funext x
      simp [Bool.beq_eq_decide_eq]
    rw [others]
    rfl
  have checked := amendRequest_checked p w.body s b e a running parsed named sound armed (amended_fits _ _ _ fits)
  refine ⟨fun unleased => refuses (checked.trans (amendChecked_notLeased p b.due a codes unleased)), fun leases =>
    ⟨fun st outside => refuses (checked.trans (amendChecked_window p b.due a codes leases outside)), fun inside =>
      ⟨fun conflict => refuses (checked.trans (amendChecked_conflict p b.due a codes leases inside conflict)),
        fun outranks => ?_⟩⟩⟩
  obtain ⟨c, v, displaced, counted, told⟩ := displaceConflicts_eq s law q p e.fields.lines b.due
  have amends := checked.trans (amendChecked_amends p b.due a codes leases inside outranks)
  unfold State.amendEntry at amends
  rw [displaced] at amends
  have keepsOwner : ∀ x ∈ withoutDisplaced s.table.live (conflicts q p e.fields.lines b.due s.table.live),
      (if x.index = e.index then e.rewrite { e.fields with due := b.due, action := a } else x).fields.owner = x.fields.owner := by
    intro x stays
    obtain ⟨-, distinct, -⟩ := law
    split
    · next same =>
      rw [List.inj_on_of_nodup_map distinct (List.mem_filter.mp stays).1 mem same]
      rfl
    · rfl
  rw [names] at amends
  refine ⟨_, serve_ownUnnoticed waits (amendRequest p) _ _ amends ?_, rfl, fun r => ?_, told⟩
  · have quiet := told p
    rw [displacedTold_own, List.append_nil] at quiet
    exact quiet
  · exact (counted r).trans (ownedBy_map keepsOwner r).symm

end Sys2Proof.Machine

/-! PROOFS. POST (O27). -/

namespace Sys2Proof.Machine

/-! ## The law of the slots across a commit (R72) -/

theorem SlotsLaw.empty {b : Slots} (law : SlotsLaw b) (i : Fin 4) : SlotsLaw (b.empty i) := by
  obtain ⟨nodup, ages, keys⟩ := law
  have content : ∀ (j : Fin 4) c, (b.empty i).slot[j] = some c → b.slot[j] = some c := fun j c held => by
    rw [emptied_slot] at held
    split at held
    · cases held
    · exact held
  refine ⟨nodup.filter _, fun j => ?_, fun j k c d hj hk => keys j k c d (content j c hj) (content k d hk)⟩
  have member : j ∈ (b.empty i).age ↔ j ∈ b.age ∧ j ≠ i := by simp [Slots.empty]
  rw [member, ages, emptied_slot]
  by_cases same : i = j
  · simp [same]
  · simp [same, Ne.symm same]

theorem cut_slotsLaw (s : State) (p : Port) (x : LineSet) (law : s.slotsLaw) : (s.cut p x).slotsLaw := by
  intro q
  have slots : (s.cut p x).slots = s.slots.set p (Slots.cut x (s.slots.get p)) := rfl
  rw [slots, PerPort.get_set]
  split
  · exact (law p).cut x
  · exact law q

theorem consult_slotsLaw (s : State) (x : LineSet) (p : Port) (law : SlotsLaw (s.slots.get p)) :
    SlotsLaw ((s.consult x).slots.get p) := by
  rw [(consult_verified s x).frame]
  have cuts : ∀ (u : State) (q : Port) (y : LineSet), SlotsLaw (u.slots.get p) → SlotsLaw ((u.cut q y).slots.get p) := by
    intro u q y here
    have slots : (u.cut q y).slots = u.slots.set q (Slots.cut y (u.slots.get q)) := rfl
    rw [slots, PerPort.get_set]
    split
    · next same =>
      subst same
      exact here.cut y
    · exact here
  exact foldl_law (law := fun u => SlotsLaw (u.slots.get p))
    (fun u l => foldl_law (law := fun u => SlotsLaw (u.slots.get p)) (fun u q => cuts u q (singleLine l)) Port.all u) _ s law

theorem propose_slotsLaw (s : State) (n : Proposal) (p : Port) (law : SlotsLaw (s.slots.get p)) :
    SlotsLaw ((s.propose n).1.slots.get p) := by
  obtain same | consulted := propose_slots s n
  · rw [same]
    exact law
  · rw [consulted]
    exact consult_slotsLaw s n.lines p law

theorem commitSlot_slotsLaw (s : State) (p : Port) (reason : CommitReason) (i : Fin 4) (law : SlotsLaw (s.slots.get p)) :
    SlotsLaw ((s.commitSlot p reason i).1.slots.get p) := by
  cases content : (s.slots.get p).slot[i] with
  | none =>
    rw [commitSlot_empty s p reason i content]
    exact law
  | some c =>
    rw [commitSlot_occupied s p reason i c content]
    refine propose_slotsLaw _ (c.proposal p) p ?_
    rw [State.setSlots_slots, PerPort.get_set_same]
    exact law.empty i

/-! ## Where a post goes (R75, R76) -/

/-- The slot content of a post. -/
def PostBody.content (b : PostBody) : SlotContent where
  lines := b.lines
  action := b.action
  due := b.due
  tag := b.tag
  report := b.report
  noMerge := b.noMerge

/-- The slots with a post at the young end of the age list. -/
def Slots.joined (x : Slots) (i : Fin 4) (c : SlotContent) : Slots :=
  { x with slot := x.slot.set i (some c), age := x.age ++ [i] }

theorem sameKey_iff (c : SlotContent) (b : PostBody) : c.sameKey b = true ↔ c.noMerge = false ∧ sameMergeKey c
    { lines := b.lines, action := b.action, due := b.due, tag := b.tag, report := b.report, noMerge := b.noMerge } := by
  simp [SlotContent.sameKey, sameMergeKey, and_assoc]

/-- The one slot that holds the key of the post takes it. -/
theorem mergeSlot_some {x : Slots} (law : SlotsLaw x) {b : PostBody} {i : Fin 4} {c : SlotContent}
    (held : x.slot[i] = some c) (merges : b.noMerge = false) (same : c.sameKey b = true) : x.mergeSlot b = some i := by
  obtain ⟨-, -, keys⟩ := law
  unfold Slots.mergeSlot
  rw [if_neg (by rw [merges]; exact Bool.false_ne_true)]
  cases found : (List.finRange 4).find? fun i => (x.slot[i]).elim false fun c => c.sameKey b with
  | none =>
    have missed := List.find?_eq_none.mp found i (List.mem_finRange i)
    rw [held] at missed
    exact absurd same missed
  | some j =>
    have meets := List.find?_some (p := fun i : Fin 4 => (x.slot[i]).elim false fun c => c.sameKey b) found
    cases content : x.slot[j] with
    | none =>
      rw [content] at meets
      cases meets
    | some d =>
      rw [content] at meets
      obtain ⟨free_c, key_c⟩ := (sameKey_iff c b).mp same
      obtain ⟨free_d, key_d⟩ := (sameKey_iff d b).mp meets
      obtain ⟨due_c, action_c, tag_c, report_c⟩ := key_c
      obtain ⟨due_d, action_d, tag_d, report_d⟩ := key_d
      exact congrArg some (keys j i d c content held free_d free_c
        ⟨due_d.trans due_c.symm, action_d.trans action_c.symm, tag_d.trans tag_c.symm, report_d.trans report_c.symm⟩)

theorem freeSlot_lowest (x : Slots) (i : Fin 4) (unoccupied : x.slot[i] = none)
    (lower : ∀ j : Fin 4, j < i → x.slot[j] ≠ none) : x.freeSlot = some i := by
  refine List.find?_eq_some_iff_getElem.mpr ⟨by rw [unoccupied]; rfl, i.val, by simp, by simp, fun j below => ?_⟩
  have occupied := lower ⟨j, Nat.lt_trans below i.isLt⟩ below
  simp only [List.getElem_finRange]
  cases content : x.slot[(⟨j, Nat.lt_trans below i.isLt⟩ : Fin 4)] with
  | none => exact absurd content occupied
  | some c => simp [content]

theorem makeRoom_free (s : State) (p : Port) (i : Fin 4) (free : (s.slots.get p).freeSlot = some i) :
    s.makeRoom p = (s, []) := by
  unfold State.makeRoom
  rw [free]

/-- A slot that is EMPTY stands in no age list, and the post joins its young end. -/
theorem put_age {x : Slots} (law : SlotsLaw x) (i : Fin 4) (unoccupied : x.slot[i] = none) (b : PostBody) :
    x.put i b = x.joined i b.content := by
  obtain ⟨-, ages, -⟩ := law
  have absent : i ∉ x.age := fun listed => by
    have occupied := (ages i).mp listed
    rw [unoccupied] at occupied
    cases occupied
  have kept : x.age.filter (fun j => decide (j ≠ i)) = x.age :=
    List.filter_eq_self.mpr fun j listed => decide_eq_true fun same => absent (same ▸ listed)
  unfold Slots.put
  rw [kept]
  rfl

/-! ## The commits after the placing (R77, R82) -/

theorem withinLead_placed {x : Slots} {i : Fin 4} {c : SlotContent} (held : x.slot[i] = some c) :
    x.withinLead i = decide ((c.due - x.pos).toNat ≤ x.lead) := by
  unfold Slots.withinLead
  rw [held]
  rfl

section
variable (s : State) (p : Port) (b : PostBody) (x : Placed)

theorem commitAfterPost_now (now : b.commitNow = true) :
    s.commitAfterPost p b x = s.commitSlots p .now (s.slots.get p).age := if_pos now

theorem commitAfterPost_merged (later : b.commitNow = false) (merged : x.merged = true) :
    s.commitAfterPost p b x = (s, []) := by
  unfold State.commitAfterPost
  rw [if_neg (by simp [later]), if_neg (by simp [merged])]

theorem commitAfterPost_lead (later : b.commitNow = false) (apart : x.merged = false)
    (within : (s.slots.get p).withinLead x.slot = true) : s.commitAfterPost p b x = s.commitSlot p .lead x.slot := by
  unfold State.commitAfterPost
  rw [if_neg (by simp [later]), if_pos ⟨apart, within⟩]

theorem commitAfterPost_beyond (later : b.commitNow = false) (beyond : (s.slots.get p).withinLead x.slot = false) :
    s.commitAfterPost p b x = (s, []) := by
  unfold State.commitAfterPost
  rw [if_neg (by simp [later]), if_neg (by simp [beyond])]

end

/-! ## POST (R74, R78) -/

section
variable (p : Port) {body : List Byte} {s : State} {b : PostBody} (running : (s.slots.get p).mode = .run)
  (parsed : parsePost body = some b) (codes : CodesMatch s b.lines)
include running parsed codes

theorem postRequest_notLeased {l : LineNo} (lowest : IsLowest b.lines (fun l => !(s.line[l]).heldBy p) l) :
    postRequest p body s = (s, { status := .notLeased, body := [byte l.val] }) := by
  have same := consult_ok s b.lines codes
  have refused := postRequest_unleased p body s b l running parsed (by rw [same]; exact lowest)
  rw [same] at refused
  exact refused

variable (leases : AllLeased s p b.lines)
include leases

theorem postRequest_lineFailed {l : LineNo} (lowest : IsLowest b.lines (fun l => decide ((s.line[l]).fault = .failed)) l) :
    postRequest p body s = (s, { status := .lineFailed, body := [byte l.val] }) := by
  have first : s.firstFailed b.lines = some l := find?_lowest _ _ _ lowest
  unfold postRequest
  rw [if_neg (not_not_intro running)]
  simp only [parsed, consult_ok s b.lines codes, firstUnleased_none leases, first]

variable (sound : ∀ l : LineNo, hasLine b.lines l = true → (s.line[l]).fault = .ok)
include sound

theorem postRequest_window {st : Status} (outside : windowStatus (s.slots.get p).pos b.due = some st) :
    postRequest p body s = (s, Reply.refuse st) := by
  have none_failed : s.firstFailed b.lines = none := find?_linesOf_none _ _ fun l named => by rw [sound l named]; rfl
  unfold postRequest
  rw [if_neg (not_not_intro running)]
  simp only [parsed, consult_ok s b.lines codes, firstUnleased_none leases, none_failed, outside]

theorem postRequest_placed (inside : windowStatus (s.slots.get p).pos b.due = none) :
    postRequest p body s = s.postPlaced p b := by
  have none_failed : s.firstFailed b.lines = none := find?_linesOf_none _ _ fun l named => by rw [sound l named]; rfl
  unfold postRequest
  rw [if_neg (not_not_intro running)]
  simp only [parsed, consult_ok s b.lines codes, firstUnleased_none leases, none_failed, inside]

end

theorem postPlaced_eq {s t u : State} {p : Port} {b : PostBody} {x : Placed} {outs : List CommitOutcome}
    (placed : s.placePost p b = (t, x)) (after : t.commitAfterPost p b x = (u, outs)) : s.postPlaced p b
      = (u, Reply.ok ([byte x.slot.val, flagByte x.merged, byte (x.outcomes ++ outs).length]
          ++ (x.outcomes ++ outs).flatMap outcomeBytes)) := by
  unfold State.postPlaced
  simp only [placed, after]

/-- A post that finds no slot to merge into and a slot EMPTY takes the lowest. -/
theorem placePost_lowest {s : State} {p : Port} {b : PostBody} {i : Fin 4} (law : SlotsLaw (s.slots.get p))
    (apart : (s.slots.get p).mergeSlot b = none) (unoccupied : (s.slots.get p).slot[i] = none)
    (lower : ∀ j : Fin 4, j < i → (s.slots.get p).slot[j] ≠ none) : s.placePost p b
      = ({ s with slots := s.slots.set p ((s.slots.get p).joined i b.content) }, { slot := i, merged := false, outcomes := [] }) := by
  have free := freeSlot_lowest (s.slots.get p) i unoccupied lower
  have room := makeRoom_free s p i free
  rw [placePost_placed s p b i apart (by rw [room]; exact free), room]
  dsimp only
  rw [put_age law i unoccupied]
  rfl

/-- With four occupied slots the post takes the lowest slot that the FULL commit leaves EMPTY. -/
theorem placePost_overFull {s : State} {p : Port} {b : PostBody} {i j : Fin 4} {older : List (Fin 4)}
    (law : SlotsLaw (s.slots.get p)) (apart : (s.slots.get p).mergeSlot b = none)
    (full : ∀ k : Fin 4, (s.slots.get p).slot[k] ≠ none) (age : (s.slots.get p).age = i :: older)
    (unoccupied : ((s.commitSlot p .full i).1.slots.get p).slot[j] = none)
    (lower : ∀ k : Fin 4, k < j → ((s.commitSlot p .full i).1.slots.get p).slot[k] ≠ none) :
    s.placePost p b = ({ (s.commitSlot p .full i).1 with
        slots := (s.commitSlot p .full i).1.slots.set p (((s.commitSlot p .full i).1.slots.get p).joined j b.content) },
      { slot := j, merged := false, outcomes := (s.commitSlot p .full i).2 }) := by
  have room := makeRoom_full s p i older age full
  have after := commitSlot_slotsLaw s p .full i law
  rw [placePost_placed s p b j apart (by rw [room]; exact freeSlot_lowest _ j unoccupied lower), room]
  dsimp only
  rw [put_age after j unoccupied]
  rfl

theorem placePost_merged {s : State} {p : Port} {b : PostBody} {i : Fin 4} {c : SlotContent}
    (held : (s.slots.get p).slot[i] = some c) (merges : (s.slots.get p).mergeSlot b = some i) : s.placePost p b = ({ s with
      slots := s.slots.set p { s.slots.get p with
        slot := (s.slots.get p).slot.set i (some { c with lines := c.lines ||| b.lines }) } },
      { slot := i, merged := true, outcomes := [] }) := by
  unfold State.placePost
  simp only [merges]
  unfold Slots.merge
  rw [held]
  rfl

/-- Settles O27: the checks one after another, the place the post takes, and the commits that follow. -/
theorem postMergesOrTakesASlot : Obligations.PostMergesOrTakesASlot := by
  unfold Obligations.PostMergesOrTakesASlot
  intro s p w waits x
  have answered {r : Reply} (taken : postRequest p w.body s = (s, r)) :
      exec (.post p) s = .next (s.answer p w r.status r.body) := serve_kept waits (postRequest p) r taken
  refine ⟨fun shut => answered (r := .refuse .wrongMode) (if_pos shut), fun running bad => answered (r := .refuse .badField) ?_,
    fun b running parsed codes => ⟨fun l lowest => answered (postRequest_notLeased p running parsed codes lowest), fun leases =>
      ⟨fun l lowest => answered (postRequest_lineFailed p running parsed codes leases lowest), fun sound =>
        ⟨fun st outside => answered (r := .refuse st) (postRequest_window p running parsed codes leases sound outside),
          fun inside law => ?_⟩⟩⟩⟩
  · unfold postRequest
    rw [if_neg (not_not_intro running)]
    simp only [bad]
  intro content merges lowest merged placed replies committed
  have posted {t u : State} {y : Placed} {outs : List CommitOutcome} (place : s.placePost p b = (t, y))
      (after : t.commitAfterPost p b y = (u, outs)) (quiet : u.wires.notices.get p = s.wires.notices.get p) :
      replies u y.slot (flagByte y.merged) (y.outcomes ++ outs) :=
    serve_ownUnnoticed waits (postRequest p) u _
      ((postRequest_placed p running parsed codes leases sound inside).trans (postPlaced_eq place after)) quiet
  have merging : ∀ i c, merges i c → s.placePost p b = (merged i c, { slot := i, merged := true, outcomes := [] }) :=
    fun i c ⟨held, may, free, same⟩ => placePost_merged held (mergeSlot_some law held may ((sameKey_iff c b).mpr ⟨free, same⟩))
  have apart : (∀ i c, ¬merges i c) → x.mergeSlot b = none := fun none_merges => by
    refine mergeSlot_none x b fun j c held => ?_
    by_contra fits
    obtain ⟨may, fits⟩ := not_or.mp fits
    obtain ⟨free, same⟩ := not_or.mp fits
    obtain ⟨due, action, tag, report⟩ := not_not.mp same
    exact none_merges j c ⟨held, Bool.eq_false_iff.mpr may, Bool.eq_false_iff.mpr free, due, action, tag, report⟩
  have placing : ∀ i, lowest i → s.placePost p b = (placed i, { slot := i, merged := false, outcomes := [] }) :=
    fun i ⟨none_merges, unoccupied, lower⟩ => placePost_lowest law (apart none_merges) unoccupied lower
  have placedLead : ∀ i : Fin 4, ((placed i).slots.get p).withinLead i = decide ((b.due - x.pos).toNat ≤ x.lead) := fun i => by
    have slots : (placed i).slots.get p = x.joined i b.content := PerPort.get_set_same ..
    rw [slots]
    exact withinLead_placed (x := x.joined i b.content) (c := b.content) (by simp [Slots.joined])
  refine ⟨fun later => ⟨fun i c fits => ?_, fun i takes beyond => ?_, fun i takes within => ?_⟩,
    fun now => ⟨fun i c fits => ?_, fun i takes => ?_⟩, fun i j older none_merges full age => ?_⟩
  · exact posted (merging i c fits) (commitAfterPost_merged _ p b _ later rfl) rfl
  · refine posted (placing i takes) (commitAfterPost_beyond _ p b _ later ?_) rfl
    exact (placedLead i).trans (decide_eq_false (Nat.not_le.mpr beyond))
  · refine posted (placing i takes) (commitAfterPost_lead _ p b _ later rfl ?_) (commitSlot_notices _ p .lead i)
    exact (placedLead i).trans (decide_eq_true within)
  · refine posted (merging i c fits) ((commitAfterPost_now _ p b _ now).trans ?_) (commitSlots_notices _ p .now x.age)
    rw [PerPort.get_set_same]
  · refine posted (placing i takes) ((commitAfterPost_now _ p b _ now).trans ?_) (commitSlots_notices _ p .now (x.age ++ [i]))
    rw [PerPort.get_set_same]
  · intro fullCommit y unoccupied lower nowState lead all
    have place := placePost_overFull (b := b) law (apart none_merges) full age unoccupied lower
    have quiet : fullCommit.1.wires.notices.get p = s.wires.notices.get p := commitSlot_notices s p .full i
    have within : (nowState.slots.get p).withinLead j = decide ((b.due - y.pos).toNat ≤ y.lead) := by
      have slots : nowState.slots.get p = y.joined j b.content := PerPort.get_set_same ..
      rw [slots]
      exact withinLead_placed (x := y.joined j b.content) (c := b.content) (by simp [Slots.joined])
    refine ⟨fun matched => ?_, fun later beyond => ?_, fun later near => ?_, fun now => ?_⟩
    · obtain ⟨c, held⟩ := Option.ne_none_iff_exists'.mp (full i)
      have emptied : y = x.empty i := commitSlot_slots_of_codesMatch s p .full i c held (matched c held)
      obtain ⟨listed_once, -, -⟩ := law
      rw [age] at listed_once
      obtain ⟨absent, -⟩ := List.nodup_cons.mp listed_once
      rw [emptied, emptied_slot] at unoccupied
      have here : i = j := by
        by_contra other
        rw [if_neg other] at unoccupied
        exact full j unoccupied
      have left : (i :: older).filter (fun k => decide (k ≠ i)) = older := by
        rw [List.filter_cons_of_neg (by simp)]
        exact List.filter_eq_self.mpr fun k listed => decide_eq_true fun same => absent (same ▸ listed)
      rw [emptied]
      exact ⟨here.symm, (congrArg (List.filter _) age).trans left, rfl, rfl⟩
    · have reply := posted place
        (commitAfterPost_beyond _ p b _ later (within.trans (decide_eq_false (Nat.not_le.mpr beyond)))) quiet
      rw [List.append_nil] at reply
      exact reply
    · exact posted place (commitAfterPost_lead _ p b _ later rfl (within.trans (decide_eq_true near)))
        ((commitSlot_notices _ p .lead j).trans quiet)
    · refine posted place ((commitAfterPost_now _ p b _ now).trans ?_) ((commitSlots_notices _ p .now (y.age ++ [j])).trans quiet)
      rw [PerPort.get_set_same]
      rfl

end Sys2Proof.Machine

/-! PROOFS. The sensor inputs: raw changes, filter expiries and writes of SENSOR_FILTER (O37). -/

namespace Sys2Proof.Machine

/-- The edge that the pending change of a sensor would become (R106). -/
def State.pendingEdge (s : State) (k : SensorNo) (c : PendingChange) : AcceptedEdge :=
  { sensor := k, edge := if (s.sensor[k]).filtered then .falling else .rising, reading := c.reading, time := c.start }

theorem selects_iff (x : EdgeSelect) (e : Edge) :
    x.selects e = true ↔ x = .both ∨ x = (match e with | .rising => .rising | .falling => .falling) := by
  cases x <;> cases e <;> decide

theorem spacingRefuses_iff (last : Option (Word32 × BitVec 8)) (spacing : Nat) (r : Reading) :
    spacingRefuses last spacing r = true
      ↔ ∃ x, last = some x ∧ x.2 = r.frame ∧ modularDistance r.pos x.1 < spacing := by
  unfold spacingRefuses
  cases last with
  | none => simp
  | some x => simp

/-- A pending change that completes is an edge, selected and tested (R106 to R108). -/
theorem completeFilter_edgeMade (s : State) (k : SensorNo) (c : PendingChange) (pend : (s.sensor[k]).pend = some c) :
    EdgeMade s k c (s.completeFilter k) := by
  have edge : edgeTo (!(s.sensor[k]).filtered) = if (s.sensor[k]).filtered then .falling else .rising := by
    cases (s.sensor[k]).filtered <;> rfl
  have chosen : (s.control.params.sensorEdge[k]).selects (edgeTo (!(s.sensor[k]).filtered)) = true
      ↔ s.control.params.sensorEdge[k] = .both
        ∨ s.control.params.sensorEdge[k] = (if (s.sensor[k]).filtered then .falling else .rising) := by
    rw [selects_iff]
    cases (s.sensor[k]).filtered <;> exact Iff.rfl
  have tested := spacingRefuses_iff (s.sensor[k]).last (s.control.params.sensorSpacing[k]) c.reading
  have own (x : Sensor) : (s.setSensor k x).sensor[k] = x := by simp
  unfold State.completeFilter State.testSpacing
  rw [pend]
  simp only [own, State.setSensor_control, State.setSensor_wires]
  refine ⟨fun other => ?_, fun sel near => ?_, fun sel far => ?_⟩
  · rw [if_neg (fun h => other (chosen.mp h))]
    rfl
  · rw [if_pos (chosen.mpr sel), if_pos (tested.mpr near)]
    simp [State.setSensor]
  · rw [if_pos (chosen.mpr sel), if_neg (fun h => far (tested.mp h)), edge]
    simp [State.setSensor, State.setWires]

theorem filterDue_of_pend {now : Word32} {x : Sensor} {c : PendingChange} (pend : x.pend = some c) :
    x.filterDue now = true ↔ x.filter ≤ (now - c.start).toNat := by
  unfold Sensor.filterDue
  rw [pend]
  exact decide_eq_true_iff

theorem completeIfDue_due (s : State) (k : SensorNo) (c : PendingChange) (pend : (s.sensor[k]).pend = some c)
    (late : (s.sensor[k]).filter ≤ (s.now - c.start).toNat) : EdgeMade s k c (s.completeIfDue k) := by
  unfold State.completeIfDue
  rw [if_pos ((filterDue_of_pend pend).mpr late)]
  exact completeFilter_edgeMade s k c pend

theorem completeIfDue_early (s : State) (k : SensorNo) (early : (s.sensor[k]).pend = none
    ∨ ∃ c, (s.sensor[k]).pend = some c ∧ (s.now - c.start).toNat < (s.sensor[k]).filter) : s.completeIfDue k = s := by
  refine if_neg fun due => ?_
  obtain none_ | ⟨c, pend, early⟩ := early
  · unfold Sensor.filterDue at due
    rw [none_] at due
    exact absurd due (by simp)
  · exact absurd ((filterDue_of_pend pend).mp due) (Nat.not_le.mpr early)

/-- Settles O37: every branch ends in whether the filter timer of the pending change has run. -/
theorem sensorInputsFilterAndTestEdges : Obligations.SensorInputsFilterAndTestEdges := by
  unfold Obligations.SensorInputsFilterAndTestEdges
  intro s k running x reading departed r
  have raw (level : Bool) : exec (.sensorRawChange k level) s = .next (s.rawChange k level) := by
    simp only [exec, execSensorRawChange, running, Option.isSome_none, Bool.false_eq_true, if_false]
  have pend : (r.sensor[k]).pend = some departed := by simp [r]
  have filter : (r.sensor[k]).filter = x.filter := by simp [r, x]
  have left : s.rawChange k (!x.filtered) = r.completeIfDue k := by
    unfold State.rawChange
    rw [if_neg (by simp [x])]
    rfl
  have written {v : Nat} {q : List BlockMessage} (old : OldestWrite (.sensorFilter k) v s.wires.toLog q) :
      exec (.writeSensorFilter k) s = .next (State.completeIfDue
        { s with sensor := s.sensor.set k { x with filter := v }, wires := { s.wires with toLog := q } } k) := by
    simp only [exec, execWriteSensorFilter, whenRunning_running _ s running]
    rw [takeWrite_oldest (h := old)]
    · rfl
    · intro u v
      cases u <;> simp
  refine ⟨?_, fun slow => ?_, fun fast => ?_, fun c waits late => ?_, fun early => ?_, fun v q old => ?_, fun no => ?_⟩
  · rw [raw]
    unfold State.rawChange
    rw [if_pos (show x.filtered = (s.sensor[k]).filtered from rfl)]
    rfl
  · rw [raw, left, completeIfDue_early r k (.inr ⟨departed, pend, ?_⟩)]
    rw [filter]
    show (s.now - s.now).toNat < x.filter
    rw [BitVec.sub_self]
    exact slow
  · rw [raw, left]
    exact ⟨_, rfl, completeIfDue_due r k departed pend (by rw [filter, fast]; exact Nat.zero_le _)⟩
  · exact ⟨_, whenRunning_running _ s running, completeIfDue_due s k c waits late⟩
  · simp only [exec, execSensorFilterExpiry, whenRunning_running _ s running]
    rw [completeIfDue_early s k early]
  · intro u
    have own : u.sensor[k] = { x with filter := v } := by simp [u]
    refine ⟨fun early => ?_, fun c waits late => ?_⟩
    · rw [written old]
      exact congrArg _ (completeIfDue_early u k (by rw [own]; exact early))
    · exact ⟨_, written old, completeIfDue_due u k c (by rw [own]; exact waits) (by rw [own]; exact late)⟩
  · simp only [exec, execWriteSensorFilter, whenRunning_running _ s running]
    rw [takeWrite_noOldest (h := no)]
    intro u v
    cases u <;> simp

end Sys2Proof.Machine

/-! PROOFS. Entries of the Capture Log (O38). -/

namespace Sys2Proof.Machine

/-- The closing test lets the oldest records go that no port waits for (R112). -/
theorem pruneRecords_eq (rs : List Capture) : pruneRecords rs = held rs := by
  unfold held
  induction rs with
  | nil => rfl
  | cons c rest ih =>
    unfold pruneRecords
    rw [List.dropWhile_cons]
    simp only [decide_eq_true_eq, ih]

theorem prune_eq (g : CaptureLog) : g.prune = { g with records := held g.records } := by
  unfold CaptureLog.prune
  rw [pruneRecords_eq]

/-- Charging one port for a record that leaves changes its lost count and tells it (R113). -/
theorem chargeLost_eq (s : State) (c : Capture) (p : Port) : ∃ v n,
    s.chargeLost c p = { s with log := { s.log with lost := v }, wires := { s.wires with notices := n } }
    ∧ (∀ q, q ≠ p → v.get q = s.log.lost.get q ∧ n.get q = s.wires.notices.get q)
    ∧ v.get p = (if c.outstanding.get p then satInc (s.log.lost.get p) else s.log.lost.get p)
    ∧ n.get p = s.wires.notices.get p ++ (if c.outstanding.get p then
        [{ source := .captureLog, own := false, notice := { Notice.bare .captureLost with
            seq := some c.seq, count := some (satInc (s.log.lost.get p)).toNat } }] else []) := by
  unfold State.chargeLost
  split
  · refine ⟨_, _, rfl, fun q other => ⟨PerPort.get_set_other _ _ _ _ other, PerPort.get_set_other _ _ _ _ other⟩, ?_, ?_⟩
    · exact PerPort.get_set_same ..
    · exact PerPort.get_set_same ..
  · exact ⟨s.log.lost, s.wires.notices, rfl, fun q _ => ⟨rfl, rfl⟩, rfl, (List.append_nil _).symm⟩

/-- Charging ports one after another charges each once. -/
theorem chargeAll_eq (c : Capture) (ps : List Port) (once : ps.Nodup) (s : State) : ∃ v n,
    ps.foldl (fun t p => t.chargeLost c p) s
      = { s with log := { s.log with lost := v }, wires := { s.wires with notices := n } }
    ∧ (∀ q, q ∉ ps → v.get q = s.log.lost.get q ∧ n.get q = s.wires.notices.get q)
    ∧ (∀ q ∈ ps, v.get q = (if c.outstanding.get q then satInc (s.log.lost.get q) else s.log.lost.get q)
      ∧ n.get q = s.wires.notices.get q ++ (if c.outstanding.get q then
        [{ source := .captureLog, own := false, notice := { Notice.bare .captureLost with
            seq := some c.seq, count := some (satInc (s.log.lost.get q)).toNat } }] else [])) := by
  induction ps generalizing s with
  | nil => exact ⟨s.log.lost, s.wires.notices, rfl, fun q _ => ⟨rfl, rfl⟩, fun q no => absurd no (by simp)⟩
  | cons p ps ih =>
    obtain ⟨fresh, once⟩ := List.nodup_cons.mp once
    obtain ⟨v, n, first, others, lost, told⟩ := chargeLost_eq s c p
    obtain ⟨v', n', rest, untouched, charged⟩ := ih once (s.chargeLost c p)
    rw [first] at rest untouched charged
    refine ⟨v', n', by rw [List.foldl_cons, first, rest], fun q hq => ?_, fun q hq => ?_⟩
    · obtain ⟨notP, notPs⟩ := not_or.mp (fun h => hq (List.mem_cons.mpr h))
      rw [(untouched q notPs).1, (untouched q notPs).2]
      exact others q notP
    · obtain rfl | later := List.mem_cons.mp hq
      · rw [(untouched q fresh).1, (untouched q fresh).2]
        exact ⟨lost, told⟩
      · have notP : q ≠ p := fun same => fresh (same ▸ later)
        rw [(charged q later).1, (charged q later).2]
        dsimp only
        rw [(others q notP).1, (others q notP).2]
        exact ⟨rfl, rfl⟩

/-- The overwrite of an entry that has to remove a record: the oldest goes, charged to the ports waiting for it (R113, R118). -/
theorem overwrite_removes (s : State) (o : Capture) (rest : List Capture) (records : s.log.records = o :: rest)
    (full : s.log.records.length = 64 ∨ s.log.overwriteDue = true) : ∃ v n,
    s.overwrite = { s with log := { s.log with records := held rest, lost := v }, wires := { s.wires with notices := n } }
    ∧ ∀ p, v.get p = (if o.outstanding.get p then satInc (s.log.lost.get p) else s.log.lost.get p)
      ∧ n.get p = s.wires.notices.get p ++ (if o.outstanding.get p then
        [{ source := .captureLog, own := false, notice := { Notice.bare .captureLost with
            seq := some o.seq, count := some (satInc (s.log.lost.get p)).toNat } }] else []) := by
  obtain ⟨v, n, all, -, charged⟩ := chargeAll_eq o Port.all (by decide) s
  refine ⟨v, n, ?_, fun p => charged p (by cases p <;> decide)⟩
  unfold State.overwrite
  rw [records]
  dsimp only
  rw [if_pos, all, prune_eq]
  · rfl
  · rw [← records]
    obtain len | due := full
    · rw [len]; simp [Config.logCapacity]
    · rw [due]; rfl

/-- An entry after its overwrite: the record at the new end, the closing test, the capture handed on in RUN (R110 to R114). -/
theorem handCapture_eq (t : State) (e : AcceptedEdge) :
    (t.setLog (t.log.enter e)).handCapture (t.log.newRecord e) = { t with
      log := { t.log with
        records := held (t.log.records ++ [t.log.newRecord e]), next := t.log.next + 1
        cursor := t.log.cursor.map t.log.cursorAtEntry, overwriteDue := false }
      wires := { t.wires with handOffs := t.wires.handOffs ++ (if t.log.mode = .run then
        [{ seq := t.log.next, sensor := e.sensor, edge := e.edge, reading := e.reading, time := e.time }] else []) } } := by
  have entered : t.log.enter e = { t.log with
      records := held (t.log.records ++ [t.log.newRecord e]), next := t.log.next + 1
      cursor := t.log.cursor.map t.log.cursorAtEntry, overwriteDue := false } := prune_eq _
  rw [entered]
  unfold State.handCapture
  by_cases run : t.log.mode = .run
  · rw [if_pos run]
    exact if_pos run
  · rw [if_neg run, List.append_nil]
    exact if_neg run

/-- Settles O38: the overwrite, where one is due, and then the record at the new end. -/
theorem acceptedEdgesAreEntered : Obligations.AcceptedEdgesAreEntered := by
  unfold Obligations.AcceptedEdgesAreEntered
  intro s i e running law there g
  obtain ⟨room, -, -, lags⟩ := law
  let r : State := { s with wires := { s.wires with edges := s.wires.edges.eraseIdx i } }
  have taken : exec (.captureEntry i) s = .next (r.enterCapture e) := by
    simp only [exec, execCaptureEntry, whenRunning_running _ s running, there]
    rfl
  have cursors (p : Port) : (g.cursor.map g.cursorAtEntry).get p
      = if (g.next - g.cursor.get p).toNat = 2147483648 then g.cursor.get p + 1 else g.cursor.get p := by
    rw [PerPort.get_map]
    unfold CaptureLog.cursorAtEntry
    have lag : g.lag (g.cursor.get p) ≤ Config.cursorLagBound := lags p
    refine if_congr ⟨fun far => Nat.le_antisymm lag far, fun same => ?_⟩ rfl rfl
    exact Nat.le_of_eq same.symm
  have outstanding (p : Port) : (g.newRecord e).outstanding.get p = (g.subscription.get p).getLsbD e.sensor :=
    PerPort.get_map ..
  by_cases due : ∃ o rest, (g.records.length = 64 ∨ g.overwriteDue = true) ∧ g.records = o :: rest
  · obtain ⟨o, rest, full, records⟩ := due
    obtain ⟨v, n, removes, charged⟩ := overwrite_removes r o rest records full
    have entered := handCapture_eq r.overwrite e
    rw [removes] at entered
    refine ⟨_, g.newRecord e, held rest, taken, rfl, rfl, rfl, rfl, rfl, outstanding, ?_⟩
    unfold State.enterCapture
    rw [removes]
    dsimp only
    rw [entered]
    refine ⟨rfl, cursors, fun few => absurd few ?_, fun o' rest' _ records' => ?_⟩
    · rintro (⟨short, quiet⟩ | none_)
      · obtain len | due := full
        · exact absurd len (Nat.ne_of_lt short)
        · exact absurd (due.symm.trans quiet) (by decide)
      · exact absurd (none_.symm.trans records) (by simp)
    · obtain ⟨rfl, rfl⟩ := List.cons.inj (records'.symm.trans records)
      exact ⟨rfl, charged⟩
  · have removes : r.overwrite = r := by
      cases records : g.records with
      | nil => unfold State.overwrite; rw [show r.log.records = [] from records]
      | cons o rest =>
        have few := fun h => due ⟨o, rest, h, records⟩
        obtain ⟨notFull, quiet⟩ := not_or.mp few
        refine overwrite_room r ?_ (by simpa using quiet)
        exact Nat.lt_of_le_of_ne room notFull
    have entered := handCapture_eq r e
    refine ⟨_, g.newRecord e, g.records, taken, rfl, rfl, rfl, rfl, rfl, outstanding, ?_⟩
    unfold State.enterCapture
    rw [removes]
    dsimp only
    rw [entered]
    exact ⟨rfl, cursors, fun _ => ⟨rfl, rfl, rfl⟩, fun o rest full records => absurd ⟨o, rest, full, records⟩ due⟩

end Sys2Proof.Machine

/-! PROOFS. Subscriptions and reads of captures (O39). -/

namespace Sys2Proof.Machine

/-! ## What an examination returns and leaves (R117) -/

/-- The records that wait for a port. -/
def waitingFor (p : Port) (rs : List Capture) : List Capture := rs.filter fun c => c.outstanding.get p

theorem waitingFor_cons_pos {p : Port} {c : Capture} (h : c.outstanding.get p = true) (rs : List Capture) :
    waitingFor p (c :: rs) = c :: waitingFor p rs := List.filter_cons_of_pos h

theorem waitingFor_cons_neg {p : Port} {c : Capture} (h : ¬c.outstanding.get p = true) (rs : List Capture) :
    waitingFor p (c :: rs) = waitingFor p rs := List.filter_cons_of_neg h

theorem mem_waitingFor {p : Port} {c : Capture} {rs : List Capture} :
    c ∈ waitingFor p rs ↔ c ∈ rs ∧ c.outstanding.get p = true := List.mem_filter

theorem examine_returned (p : Port) (n : Nat) (rs : List Capture) :
    (examine p n rs).returned = (waitingFor p rs).take n := by
  induction rs generalizing n with
  | nil => simp [examine, waitingFor]
  | cons c rest ih =>
    cases n with
    | zero => simp [examine]
    | succ n =>
      unfold examine
      split
      · rename_i waits
        rw [waitingFor_cons_pos waits, List.take_succ_cons, ← ih n]
      · rename_i quiet
        rw [waitingFor_cons_neg quiet, ← ih (n + 1)]

/-- The records returned no longer wait for the reader, and every other record is as it was. -/
theorem examine_left_map (p : Port) (n : Nat) (rs : List Capture) (once : rs.Nodup) :
    (examine p n rs).left = rs.map fun c => if c ∈ (waitingFor p rs).take n then c.without p else c := by
  induction rs generalizing n with
  | nil => simp [examine]
  | cons c rest ih =>
    obtain ⟨fresh, once⟩ := List.nodup_cons.mp once
    cases n with
    | zero => simp [examine]
    | succ n =>
      unfold examine
      split
      · rename_i waits
        rw [waitingFor_cons_pos waits, List.take_succ_cons]
        dsimp only
        rw [List.map_cons, if_pos (List.mem_cons_self ..), ih n once]
        refine congrArg _ (List.map_congr_left fun d hd => ?_)
        have other : d ≠ c := fun same => fresh (same ▸ hd)
        simp only [List.mem_cons, other, false_or]
      · rename_i quiet
        rw [waitingFor_cons_neg quiet]
        dsimp only
        have own : c ∉ (waitingFor p rest).take (n + 1) := fun h => fresh (mem_waitingFor.mp (List.mem_of_mem_take h)).1
        rw [List.map_cons, if_neg own, ih (n + 1) once]

theorem examine_more (p : Port) (n : Nat) (rs : List Capture) :
    ((examine p n rs).left.drop (examine p n rs).count).any (fun c => c.outstanding.get p)
      = decide (n < (waitingFor p rs).length) := by
  induction rs generalizing n with
  | nil => simp [examine, waitingFor]
  | cons c rest ih =>
    cases n with
    | zero =>
      rw [Bool.eq_iff_iff, decide_eq_true_iff, List.length_pos_iff_exists_mem]
      simp only [examine, List.drop_zero, List.any_eq_true, mem_waitingFor]
    | succ n =>
      unfold examine
      split
      · rename_i waits
        rw [waitingFor_cons_pos waits]
        dsimp only
        rw [List.drop_succ_cons, ih n]
        simp
      · rename_i quiet
        rw [waitingFor_cons_neg quiet]
        dsimp only
        rw [List.drop_succ_cons, ih (n + 1)]

/-- A step of the count moves past one record more. -/
theorem past_succ (next : Word32) (len k : Nat) :
    next - BitVec.ofNat 32 (len + 1) + BitVec.ofNat 32 (k + 1) = next - BitVec.ofNat 32 len + BitVec.ofNat 32 k := by
  have step (m : Nat) : BitVec.ofNat 32 (m + 1) = BitVec.ofNat 32 m + 1 := by rw [BitVec.ofNat_add]; rfl
  rw [step, step]
  bv_omega

/-- An examination stops past the last record it returned, or at N where it met fewer than asked. -/
theorem examine_past (p : Port) (next : Word32) (n : Nat) (rs : List Capture) (seqs : Consecutive next rs) :
    next - BitVec.ofNat 32 rs.length + BitVec.ofNat 32 (examine p n rs).count
      = if (waitingFor p rs).length < n then next
        else ((waitingFor p rs).take n).getLast?.elim (next - BitVec.ofNat 32 rs.length) fun c => c.seq + 1 := by
  induction rs generalizing n with
  | nil => cases n <;> simp [examine, waitingFor]
  | cons c rest ih =>
    cases n with
    | zero => simp [examine]
    | succ n =>
      unfold examine
      split
      · rename_i waits
        rw [waitingFor_cons_pos waits, List.take_succ_cons, List.length_cons, List.length_cons]
        dsimp only
        rw [past_succ, ih n seqs.tail]
        by_cases few : (waitingFor p rest).length < n
        · rw [if_pos few, if_pos (Nat.succ_lt_succ few)]
        · rw [if_neg few, if_neg (fun h => few (Nat.lt_of_succ_lt_succ h)), List.getLast?_cons]
          cases ((waitingFor p rest).take n).getLast? with
          | some d => rfl
          | none =>
            have seq : c.seq = next - BitVec.ofNat 32 (rest.length + 1) := seqs.1
            have := past_succ next rest.length 0
            simp only [Option.elim_none, Option.getD_none, Option.elim_some, seq]
            simpa using this.symm
      · rename_i quiet
        rw [waitingFor_cons_neg quiet, List.length_cons]
        dsimp only
        rw [past_succ, ih (n + 1) seqs.tail]
        by_cases few : (waitingFor p rest).length < n + 1
        · rw [if_pos few, if_pos few]
        · rw [if_neg few, if_neg few]
          cases last : ((waitingFor p rest).take (n + 1)).getLast? with
          | some d => rfl
          | none =>
            rw [List.getLast?_eq_none_iff, List.take_eq_nil_iff] at last
            obtain h | h := last
            · exact absurd h (by simp)
            · rw [h] at few
              exact absurd (Nat.succ_pos n) few

/-! ## The records below a cursor (R111, R117 step 1) -/

theorem Consecutive.lag_le {next : Word32} {rs : List Capture} (seqs : Consecutive next rs) (small : rs.length < 2 ^ 32)
    (c : Capture) (mem : c ∈ rs) : (next - c.seq).toNat ≤ rs.length := by
  obtain ⟨i, hi, rfl⟩ := List.mem_iff_getElem.mp mem
  rw [(consecutive_iff _ _).mp seqs i hi, sub_ofNat_lag _ _ (by omega)]
  exact Nat.sub_le ..

theorem Consecutive.nodup {next : Word32} {rs : List Capture} (seqs : Consecutive next rs) (small : rs.length < 2 ^ 32) :
    rs.Nodup := by
  induction rs with
  | nil => exact List.nodup_nil
  | cons c rest ih =>
    have short : rest.length < 2 ^ 32 := Nat.lt_of_succ_lt small
    refine List.nodup_cons.mpr ⟨fun again => ?_, ih seqs.tail short⟩
    have lag := seqs.tail.lag_le short c again
    rw [seqs.1, sub_ofNat_lag _ (rest.length + 1) small] at lag
    exact Nat.not_succ_le_self _ lag

theorem raisedCursor_eq {g : CaptureLog} (p : Port) (law : LogLaw g) :
    g.raisedCursor p = g.next - BitVec.ofNat 32 (g.records.drop (g.below p)).length := by
  have raised : (g.next - g.raisedCursor p).toNat = min g.records.length (g.next - g.cursor.get p).toNat :=
    raisedCursor_lag g p law.1
  have len : (g.records.drop (g.below p)).length = (g.next - g.raisedCursor p).toNat := by
    have : g.below p = g.records.length - (g.next - g.raisedCursor p).toNat := rfl
    rw [List.length_drop]
    omega
  rw [len, BitVec.ofNat_toNat, BitVec.setWidth_eq]
  bv_omega

/-- No record below the raised cursor waits for its port. -/
theorem below_quiet {g : CaptureLog} (p : Port) (law : LogLaw g) (c : Capture) (mem : c ∈ g.records.take (g.below p)) :
    ¬c.outstanding.get p = true := by
  intro waits
  obtain ⟨room, seqs, above, -⟩ := (logLaw_iff g).mp law
  simp only [Config.logCapacity] at room
  obtain ⟨i, hi, rfl⟩ := List.mem_iff_getElem.mp mem
  rw [List.length_take] at hi
  rw [List.getElem_take] at waits
  have lag := above _ (List.getElem_mem _) p waits
  rw [(consecutive_iff _ _).mp seqs i (by omega), sub_ofNat_lag _ _ (by omega)] at lag
  have raised : (g.next - g.raisedCursor p).toNat = min g.records.length (g.next - g.cursor.get p).toNat :=
    raisedCursor_lag g p law.1
  have : g.below p = g.records.length - (g.next - g.raisedCursor p).toNat := rfl
  omega

theorem waitingFor_above {g : CaptureLog} (p : Port) (law : LogLaw g) :
    waitingFor p (g.records.drop (g.below p)) = waitingFor p g.records := by
  conv_rhs => rw [← List.take_append_drop (g.below p) g.records]
  have none_ : waitingFor p (g.records.take (g.below p)) = [] := List.filter_eq_nil_iff.mpr (below_quiet p law)
  unfold waitingFor at none_ ⊢
  rw [List.filter_append, none_, List.nil_append]

/-! ## A read -/

/-- The log after a read of at most `n` captures by port `p` (R117). -/
theorem afterRead_eq {g : CaptureLog} (p : Port) (n : Nat) (asked : 1 ≤ n) (law : LogLaw g) :
    g.afterRead p (g.examined p n) = { g with
      records := held (g.records.map fun c =>
        if c ∈ (waitingFor p g.records).take n then { c with outstanding := c.outstanding.set p false } else c)
      cursor := g.cursor.set p (if (waitingFor p g.records).length < n then g.next
        else (((waitingFor p g.records).take n).getLast?.elim g.next fun c => c.seq + 1))
      lost := g.lost.set p 0 } := by
  obtain ⟨room, seqs, -, -⟩ := (logLaw_iff g).mp law
  simp only [Config.logCapacity] at room
  have once := seqs.nodup (by omega)
  have left : g.records.take (g.below p) ++ (g.examined p n).left
      = g.records.map fun c => if c ∈ (waitingFor p g.records).take n then c.without p else c := by
    conv_rhs => rw [← List.take_append_drop (g.below p) g.records]
    rw [List.map_append, List.take_append_drop, ← waitingFor_above p law]
    unfold CaptureLog.examined
    rw [examine_left_map p n _ (once.sublist (List.drop_sublist ..))]
    refine congrArg (· ++ _) ((List.map_id _).symm.trans (List.map_congr_left fun c mem => ?_))
    have other : c ∉ (waitingFor p (g.records.drop (g.below p))).take n := fun back => by
      rw [waitingFor_above p law] at back
      exact below_quiet p law c mem (mem_waitingFor.mp (List.mem_of_mem_take back)).2
    exact (if_neg other).symm
  have past : g.raisedCursor p + BitVec.ofNat 32 (g.examined p n).count = if (waitingFor p g.records).length < n then g.next
      else (((waitingFor p g.records).take n).getLast?.elim g.next fun c => c.seq + 1) := by
    rw [raisedCursor_eq p law]
    unfold CaptureLog.examined
    rw [examine_past p g.next n _ (seqs.suffix (List.drop_suffix ..)), waitingFor_above p law]
    by_cases few : (waitingFor p g.records).length < n
    · rw [if_pos few, if_pos few]
    · rw [if_neg few, if_neg few]
      cases last : ((waitingFor p g.records).take n).getLast? with
      | some d => rfl
      | none =>
        rw [List.getLast?_eq_none_iff, List.take_eq_nil_iff] at last
        obtain h | h := last
        · omega
        · rw [h, List.length_nil] at few
          omega
  unfold CaptureLog.afterRead
  rw [prune_eq]
  dsimp only
  rw [left, past]
  rfl

/-- A read of a full log that lets its oldest record leave (R118). -/
theorem readFreesOldest_iff {g : CaptureLog} (p : Port) (n : Nat) (asked : 1 ≤ n) (law : LogLaw g) :
    g.readFreesOldest p (g.examined p n) = true ↔ g.records.length = 64 ∧ ∃ o rest, g.records = o :: rest
      ∧ o.outstanding.get p = true ∧ o.outstanding.set p false = PortSet.empty := by
  have room : g.records.length ≤ 64 := law.1
  have returned : (g.examined p n).returned = (waitingFor p g.records).take n := by
    unfold CaptureLog.examined
    rw [examine_returned, waitingFor_above p law]
  obtain ⟨n, rfl⟩ : ∃ m, n = m + 1 := ⟨n - 1, by omega⟩
  unfold CaptureLog.readFreesOldest
  rw [returned]
  constructor
  · intro frees
    cases taken : (waitingFor p g.records).take (n + 1) with
    | nil => rw [taken] at frees; exact absurd frees (by simp)
    | cons c more =>
      rw [taken] at frees
      simp only [Bool.and_eq_true, decide_eq_true_eq] at frees
      obtain ⟨⟨full, head⟩, empty⟩ := frees
      have mem : c ∈ waitingFor p g.records := List.mem_of_mem_take (taken ▸ List.mem_cons_self ..)
      obtain ⟨rest, records⟩ := List.head?_eq_some_iff.mp head
      exact ⟨Nat.le_antisymm room full, c, rest, records, (mem_waitingFor.mp mem).2, empty⟩
  · rintro ⟨full, o, rest, records, waits, empty⟩
    have taken : (waitingFor p g.records).take (n + 1) = o :: (waitingFor p rest).take n := by
      rw [records, waitingFor_cons_pos waits, List.take_succ_cons]
    rw [taken]
    have len : Config.logCapacity ≤ g.records.length := Nat.le_of_eq full.symm
    have head : g.records.head? = some o := by rw [records]; rfl
    have none_ : (o.without p).outstanding = PortSet.empty := empty
    simp only [len, head, none_, decide_true, Bool.and_self]

/-- The body of READ_CAPTURES: one byte, from 1 to 6. -/
theorem parseReadCaptures_iff (body : List Byte) (n : Nat) :
    parseReadCaptures body = some n ↔ ∃ b : Byte, body = [b] ∧ b.toNat = n ∧ 1 ≤ n ∧ n ≤ 6 := by
  unfold parseReadCaptures
  constructor
  · intro h
    obtain ⟨⟨len, few, most⟩, same⟩ := Option.ite_none_right_eq_some.mp h
    obtain rfl := Option.some.inj same
    obtain ⟨b, rfl⟩ := List.length_eq_one_iff.mp len
    exact ⟨b, rfl, rfl, few, most⟩
  · rintro ⟨b, rfl, rfl, few, most⟩
    exact if_pos ⟨rfl, few, most⟩

theorem parseSubscribe_iff (body : List Byte) (x : SensorSet) : parseSubscribe body = some x ↔ body = [x] := by
  unfold parseSubscribe
  constructor
  · intro h
    obtain ⟨len, same⟩ := Option.ite_none_right_eq_some.mp h
    obtain rfl := Option.some.inj same
    obtain ⟨b, rfl⟩ := List.length_eq_one_iff.mp len
    rfl
  · rintro rfl
    rfl

/-- Settles O39: the checks of the bodies, and what a subscription and a read leave of the log. -/
theorem subscriptionsAndReadsOfCaptures : Obligations.SubscriptionsAndReadsOfCaptures := by
  unfold Obligations.SubscriptionsAndReadsOfCaptures
  intro s p w g
  refine ⟨fun waits => ⟨fun bad => ?_, fun x body => ?_⟩, fun waits => ⟨fun bad => ?_, fun n body few most law => ?_⟩⟩
  · have none_ : parseSubscribe w.body = none := Option.eq_none_iff_forall_ne_some.mpr fun x h =>
      bad (by rw [(parseSubscribe_iff _ x).mp h]; rfl)
    exact serve_kept waits _ (.refuse .badField) (by rw [subscribeRequest, none_])
  · intro gone
    have parsed : parseSubscribe w.body = some x := (parseSubscribe_iff _ x).mpr body
    have dropped : Capture.droppedBy p (s.log.subscription.get p &&& ~~~x) = gone := by
      funext c
      have bit : (s.log.subscription.get p &&& ~~~x).getLsbD c.sensor
          = ((s.log.subscription.get p).getLsbD c.sensor && !x.getLsbD c.sensor) := by simp
      exact congrArg (· && c.outstanding.get p) bit
    refine serve_unnoticed waits (subscribeRequest p) _ (.ok _) ?_ ?_
    · unfold subscribeRequest
      rw [parsed]
      dsimp only
      rw [dropped, prune_eq]
      rfl
    · rfl
  · have none_ : parseReadCaptures w.body = none := Option.eq_none_iff_forall_ne_some.mpr fun m h => by
      obtain ⟨b, body, rfl, few, most⟩ := (parseReadCaptures_iff _ m).mp h
      obtain rfl | many := bad b body
      · exact absurd few (by decide)
      · omega
    exact serve_kept waits _ (.refuse .badField) (by rw [readCapturesRequest, none_])
  · intro mine back meets
    have parsed : parseReadCaptures w.body = some n.toNat := (parseReadCaptures_iff _ _).mpr ⟨n, body, rfl, few, most⟩
    have frees := readFreesOldest_iff p n.toNat few law
    have after := afterRead_eq p n.toNat few law
    have returned : (g.examined p n.toNat).returned = back := by
      unfold CaptureLog.examined
      rw [examine_returned, waitingFor_above p law]
      rfl
    have more : ((g.examined p n.toNat).left.drop (g.examined p n.toNat).count).any (fun c => c.outstanding.get p)
        = decide (n.toNat < mine.length) := by
      unfold CaptureLog.examined
      rw [examine_more, waitingFor_above p law]
      rfl
    refine ⟨s.log.overwriteDue || (!s.wires.edges.isEmpty && s.log.readFreesOldest p (s.log.examined p n.toNat)), ?_,
      serve_unnoticed waits _ _ (.ok _) ?_ rfl⟩
    · rw [Bool.or_eq_true, Bool.and_eq_true, frees, Bool.not_eq_true', List.isEmpty_eq_false_iff]
    · unfold readCapturesRequest
      rw [parsed]
      dsimp only
      rw [after]
      refine Prod.ext rfl (congrArg Reply.ok ?_)
      unfold captureReply
      rw [returned, more]
      by_cases pending : n.toNat < mine.length
      · rw [if_pos pending, decide_eq_true pending]; rfl
      · rw [if_neg pending, decide_eq_false pending]; rfl

end Sys2Proof.Machine

/-! PROOFS. Notices counted, read and masked (O47). -/

namespace Sys2Proof.Machine

/-- A kind counted: its count goes up to 255, from none to 1, and the other counts stay (R159). -/
theorem mem_countKind_iff (k : NoticeKind) (l : List (NoticeKind × Nat))
    (ordered : l.Pairwise (fun a b => a.1.code < b.1.code)) (j : NoticeKind) (m : Nat) :
    (j, m) ∈ countKind k l ↔ (j ≠ k ∧ (j, m) ∈ l)
      ∨ (j = k ∧ ((∃ i, (j, i) ∈ l ∧ m = min (i + 1) 255) ∨ ((∀ i, (j, i) ∉ l) ∧ m = 1))) := by
  induction l with
  | nil => simp [countKind]
  | cons y rest ih =>
    obtain ⟨h, n⟩ := y
    obtain ⟨before, ordered⟩ := List.pairwise_cons.mp ordered
    have absent {c : NoticeKind} (low : c.code ≤ h.code) (i : Nat) : (c, i) ∉ rest := fun mem =>
      Nat.not_lt.mpr low (before _ mem)
    unfold countKind
    split
    · rename_i same
      subst same
      have gone := absent (Nat.le_refl h.code)
      by_cases own : j = h
      · subst own
        simp [gone, satIncAt, Config.pendingCeiling]
      · simp [own]
    · rename_i differ
      split
      · rename_i lower
        have gone := absent (Nat.le_of_lt lower)
        by_cases own : j = k
        · subst own
          simp [gone, Ne.symm differ]
        · simp [own]
      · rename_i notLower
        rw [List.mem_cons, ih ordered]
        by_cases own : j = k
        · subst own
          simp [Ne.symm differ]
        · simp [own]

theorem detailAfter_eq (held : Option Notice) (n : Notice) : detailAfter held n = (match held with
    | none => some n
    | some d => if d.kind.priority ≤ n.kind.priority then some n else some d) := by
  unfold detailAfter
  rfl

/-- The alert line judged shows the pending set against the mask, but not in INIT (R161). -/
theorem judged_alert (m : Mode) (x : NoticeState) :
    (x.judged m).alert = true ↔ m ≠ .init ∧ ∃ k ∈ x.pendingSet, x.mask.getLsbD k.1.code = true := by
  unfold NoticeState.judged inMask
  dsimp only
  rw [Bool.and_eq_true, decide_eq_true_iff, List.any_eq_true]

/-- A notice that every one before it lets pass is taken. -/
theorem exec_noticeTaken (s : State) (p : Port) (pre : List PostedNotice) (n : PostedNotice) (post : List PostedNotice)
    (running : s.inReset = none) (queue : s.wires.notices.get p = pre ++ n :: post)
    (pass : ∀ e ∈ pre, e.letsPass n = true) :
    exec (.noticeTaken p pre.length) s = .next ({ s with
      notices := s.notices.set p ((s.notices.get p).take s.control.mode n.notice)
      wires := { s.wires with notices := s.wires.notices.set p (pre ++ post) } }) := by
  have there : (pre ++ n :: post)[pre.length]? = some n := by simp
  have before : (pre ++ n :: post).take pre.length = pre := List.take_left' rfl
  have left : (pre ++ n :: post).eraseIdx pre.length = pre ++ post := by
    rw [List.eraseIdx_append_of_length_le (Nat.le_refl _), Nat.sub_self, List.eraseIdx_cons_zero]
  simp only [exec, execNoticeTaken, whenRunning_running _ s running, queue, there, before, left]
  rw [if_pos (List.all_eq_true.mpr pass)]
  rfl

theorem letsPass_of_differ {e n : PostedNotice} (source : e.source ≠ n.source)
    (order : n.notice.kind = .entryAbandoned → e.notice.kind ≠ .modeChanged) : e.letsPass n = true := by
  unfold PostedNotice.letsPass
  rw [decide_eq_true source, Bool.true_and]
  cases told : n.notice.kind == .entryAbandoned
  · simp
  · have := order (eq_of_beq told)
    simp [this]

/-- The body of SET_NOTICE_MASK: a mask without bit 0. -/
theorem parseMask_iff (body : List Byte) (m : Word16) : parseMask body = some m ↔ body = be16 m ∧ m.getLsbD 0 = false := by
  unfold parseMask
  constructor
  · intro h
    obtain ⟨⟨len, bit⟩, same⟩ := Option.ite_none_right_eq_some.mp h
    obtain rfl := Option.some.inj same
    obtain ⟨a, b, rfl⟩ := List.length_eq_two.mp len
    exact ⟨(be16_append a b).symm, bit⟩
  · rintro ⟨rfl, bit⟩
    have back : word16At (be16 m) 0 = m := word16At_be16 m []
    rw [back]
    exact if_pos ⟨rfl, bit⟩

/-- Settles O47: a notice by what its taking does to the set, the detail and the line, and the two requests by their bodies. -/
theorem noticesAreCountedReadAndMasked : Obligations.NoticesAreCountedReadAndMasked := by
  unfold Obligations.NoticesAreCountedReadAndMasked
  intro s p x judged
  refine ⟨fun pre n post running queue sources order law => ?_, fun w waits => ⟨fun bad => ?_, fun body => ?_⟩,
    fun w waits => ⟨fun bad => ?_, fun m body bit => ?_⟩⟩
  · refine ⟨_, exec_noticeTaken s p pre n post running queue fun e mem =>
      letsPass_of_differ (sources e mem) fun told => order told e mem, ?_⟩
    dsimp only
    rw [PerPort.get_set_same]
    exact ⟨rfl, mem_countKind_iff _ _ law.1, detailAfter_eq .., judged_alert .., take_noticeLaw _ _ _ law.core⟩
  · exact serve_kept waits _ (.refuse .badField) (if_neg bad)
  · have emptied : x.emptied s.control.mode = { x with pendingSet := [], detail := none, alert := false } := by
      unfold NoticeState.emptied NoticeState.judged
      simp
    refine serve_unnoticed waits (readNoticesRequest p) _ (.ok _) ?_ ?_
    · unfold readNoticesRequest
      rw [if_pos body, emptied]
      rfl
    · rfl
  · have none_ : parseMask w.body = none := Option.eq_none_iff_forall_ne_some.mpr fun m h => by
      obtain ⟨body, bit⟩ := (parseMask_iff _ m).mp h
      exact absurd ((bad m body).symm.trans bit) (by decide)
    exact serve_kept waits _ (.refuse .badField) (by rw [setMaskRequest, none_])
  · refine ⟨({ x with mask := m }.judged s.control.mode).alert, serve_unnoticed waits (setMaskRequest p) _ (.ok _) ?_ ?_, ?_⟩
    · unfold setMaskRequest
      rw [(parseMask_iff _ m).mpr ⟨body, bit⟩]
      rfl
    · rfl
    · exact judged_alert ..

end Sys2Proof.Machine

/-! PROOFS. The Port Interface: transactions, replies, request frames and RESET_PORT (O48, O50, O49, O51). -/

namespace Sys2Proof.Machine

/-! ## Transactions (R167 to R169, R173) -/

/-- The saturating increment of a one-byte count stops at 255. -/
theorem satInc_byte (x : Byte) : satInc x = if x.toNat = 255 then x else x + 1 := by
  have top : x = BitVec.allOnes 8 ↔ x.toNat = 255 := BitVec.toNat_eq
  simp only [satInc, top]

theorem exec_selectFall (s : State) (p : Port) (running : s.inReset = none) (released : (s.ports.get p).selected = false) :
    exec (.selectFall p) s = .next (s.setPort p (if s.control.mode = .init then
      { s.ports.get p with selected := true, refusing := true } else (s.ports.get p).opened)) := by
  simp only [exec, execSelectFall, released, State.portsClosed, running]
  by_cases init : s.control.mode = .init
  · simp [init]
  · simp [init]

theorem exec_selectRelease (s : State) (p : Port) (selected : (s.ports.get p).selected = true)
    (notArmed : p = .A → s.control.softArmed = false) :
    exec (.selectRelease p) s = .next (s.setPort p
      (if (s.ports.get p).refusing then (s.ports.get p).refusedClosed else (s.ports.get p).closed)) := by
  have stays : ¬(p = .A ∧ s.control.softArmed = true ∧ s.inReset = none) := fun ⟨own, armed, _⟩ =>
    absurd (armed.symm.trans (notArmed own)) (by decide)
  simp only [exec, execSelectRelease, selected, if_true]
  rw [if_neg stays]

/-- Settles O48: a fall by the mode and the state of the port, a release by whether the port refused the transaction. -/
theorem selectOpensAndCutsTransactions : Obligations.SelectOpensAndCutsTransactions := by
  unfold Obligations.SelectOpensAndCutsTransactions
  intro s p running r falls releases
  refine ⟨fun released => ⟨fun init => ?_, fun open_ idle => ?_, fun open_ working => ?_⟩, fun selected => ?_, fun released => ?_,
    fun selected notArmed => ⟨fun refusing working done => ?_, fun refusing other => ?_, fun taken => ⟨fun idle => ?_,
      fun receiving => ?_, fun working => ?_, fun replying => ?_⟩⟩, fun refusing => if_pos refusing, fun taken ready => ?_,
    fun taken other => ?_⟩
  · exact (exec_selectFall s p running released).trans (by rw [if_pos init]; rfl)
  · refine (exec_selectFall s p running released).trans ?_
    rw [if_neg open_, PortRec.opened, show (s.ports.get p).state = .idle from idle]
    rfl
  · refine (exec_selectFall s p running released).trans ?_
    rw [if_neg open_, PortRec.opened, show (s.ports.get p).state = .working from working, satInc_byte]
    rfl
  · simp only [exec, execSelectFall, show (s.ports.get p).selected = true from selected, if_true]
  · simp only [exec, execSelectRelease, show (s.ports.get p).selected = false from released, Bool.false_eq_true, if_false]
  · refine (exec_selectRelease s p selected notArmed).trans ?_
    rw [if_pos refusing, PortRec.refusedClosed, if_pos ⟨working, done⟩]
    rfl
  · refine (exec_selectRelease s p selected notArmed).trans ?_
    rw [if_pos refusing, PortRec.refusedClosed, if_neg ?_]
    · rfl
    · rintro ⟨working, none_⟩
      obtain work | idle := other
      · exact work none_
      · exact absurd (working.symm.trans idle) (by decide)
  · refine (exec_selectRelease s p selected notArmed).trans ?_
    rw [if_neg (by rw [show (s.ports.get p).refusing = false from taken]; decide), PortRec.closed,
      show (s.ports.get p).state = .idle from idle]
    rfl
  · refine (exec_selectRelease s p selected notArmed).trans ?_
    rw [if_neg (by rw [show (s.ports.get p).refusing = false from taken]; decide), PortRec.closed,
      show (s.ports.get p).state = .receiving from receiving, satInc_byte]
    rfl
  · refine (exec_selectRelease s p selected notArmed).trans ?_
    rw [if_neg (by rw [show (s.ports.get p).refusing = false from taken]; decide), PortRec.closed,
      show (s.ports.get p).state = .working from working]
    rfl
  · refine (exec_selectRelease s p selected notArmed).trans ?_
    rw [if_neg (by rw [show (s.ports.get p).refusing = false from taken]; decide), PortRec.closed]
    obtain ready | sending := replying
    · rw [show (s.ports.get p).state = .replyReady from ready]; rfl
    · rw [show (s.ports.get p).state = .replying from sending]; rfl
  · unfold PortRec.nextByte
    rw [if_neg (by rw [taken]; decide), ready]
  · unfold PortRec.nextByte
    rw [if_neg (by rw [taken]; decide)]
    obtain state | state | state := other
    · rw [state]
    · rw [state]
    · rw [state]

/-! ## Replies (R165, R171 to R175) -/

theorem noticesPending_eq (s : State) (p : Port) : s.noticesPending p = decide ((s.notices.get p).pendingSet ≠ []) := rfl

/-- Done work whose own notices have all arrived completes. -/
theorem exec_replyReady_done (s : State) (p : Port) (w : Work) (st : Status) (body : List Byte) (running : s.inReset = none)
    (work : (s.ports.get p).work = some w) (done : w.phase = .done st body)
    (arrived : ∀ n ∈ s.wires.notices.get p, n.own = false) :
    exec (.replyReady p) s = .next (s.completeWork p w st body) := by
  have none_ : s.ownNoticeWaits p = false := List.any_eq_false.mpr fun n mem => by rw [arrived n mem]; decide
  simp only [exec, execReplyReady, whenRunning_running _ s running, work, done, none_, Bool.false_eq_true, if_false]

theorem exec_replySent (s : State) (p : Port) (n : Nat) (b : ReplyBuffer) (running : s.inReset = none)
    (state : (s.ports.get p).state = .replying) (reply : (s.ports.get p).reply = some b) :
    exec (.replySent p n) s = .next (s.setPort p ((s.ports.get p).clockedOut b n)) := by
  simp only [exec, execReplySent, whenRunning_running _ s running, reply, state, if_true]

/-- Settles O50: each command by the state of the port that it needs. -/
theorem repliesGoOut : Obligations.RepliesGoOut := by
  unfold Obligations.RepliesGoOut
  intro s p running r becomes
  refine ⟨fun w st body work done arrived => ⟨fun whole => ?_, fun cut free => ?_, fun cut busy => ?_⟩, fun other => ?_,
    fun own => ?_, fun ready => ?_, fun other => ?_, fun b n state reply => ⟨fun more => ?_, fun last => ?_, fun taken more => ?_⟩,
    fun n other => ?_, fun w waits => ⟨fun bad => ?_, fun empty => ?_⟩⟩
  · refine (exec_replyReady_done s p w st body running work done arrived).trans ?_
    unfold State.completeWork
    rw [if_neg (by rw [show (s.ports.get p).cut = false from whole]; decide)]
    rfl
  · refine (exec_replyReady_done s p w st body running work done arrived).trans ?_
    unfold State.completeWork PortRec.discarded
    rw [if_pos cut, if_neg (by rw [show (s.ports.get p).refusing = false from free]; decide)]
    rfl
  · refine (exec_replyReady_done s p w st body running work done arrived).trans ?_
    unfold State.completeWork PortRec.discarded
    rw [if_pos cut, if_pos busy]
    rfl
  · simp only [exec, execReplyReady, whenRunning_running _ s running]
    obtain none_ | ⟨w, work, open_⟩ := other
    · rw [show (s.ports.get p).work = none from none_]
    · rw [show (s.ports.get p).work = some w from work]
      dsimp only
      split
      · rfl
      · rfl
      · rename_i st body done
        exact absurd done (open_ st body)
  · have waits : s.ownNoticeWaits p = true := List.any_eq_true.mpr own
    simp only [exec, execReplyReady, whenRunning_running _ s running, waits, if_true]
    split
    · rfl
    · split <;> rfl
  · refine Eq.trans (whenRunning_running _ s running) ?_
    exact congrArg _ (if_pos ready)
  · refine Eq.trans (whenRunning_running _ s running) ?_
    exact congrArg _ (if_neg other)
  · refine (exec_replySent s p n b running state reply).trans ?_
    unfold PortRec.clockedOut
    rw [if_neg (Nat.not_le.mpr more)]
    rfl
  · refine (exec_replySent s p n b running state reply).trans ?_
    unfold PortRec.clockedOut
    rw [if_pos last]
    rfl
  · unfold PortRec.nextByte
    rw [if_neg (by rw [taken]; decide), state, reply]
    simp [List.getD_eq_getElem?_getD, List.getElem?_eq_getElem more]
  · simp only [exec, execReplySent, whenRunning_running _ s running]
    split
    · rfl
    · exact congrArg _ (if_neg other)
  · exact serve_kept waits _ (.refuse .badField) (if_neg bad)
  · refine serve_unnoticed waits (portStatusRequest p) _ (.ok _) ?_ ?_
    · unfold portStatusRequest
      rw [if_pos empty]
      refine Prod.ext rfl (congrArg Reply.ok ?_)
      cases p <;> rfl
    · rfl

end Sys2Proof.Machine

/-! PROOFS. The bytes of a request frame (O49). -/

namespace Sys2Proof.Machine

/-- The kind of a frame is known exactly where a request has its code (10.4). -/
theorem ofCode_iff (n : Nat) (k : ReqKind) : ReqKind.ofCode n = some k ↔ k.code = n := by
  constructor
  · intro h
    have := List.find?_some h
    simpa using this
  · rintro rfl
    exact ReqKind.ofCode_code k

theorem ofCode_none {n : Nat} (unknown : ∀ k : ReqKind, k.code ≠ n) : ReqKind.ofCode n = none :=
  Option.eq_none_iff_forall_ne_some.mpr fun k h => unknown k ((ofCode_iff n k).mp h)

/-- The CRC that a frame carries is in its last two bytes (R174). -/
theorem be16_frameCrc (frame : List Byte) (long : 2 ≤ frame.length) :
    be16 (frameCrc frame) = frame.drop (frame.length - 2) := by
  have two : (frame.drop (frame.length - 2)).length = 2 := by rw [List.length_drop]; omega
  obtain ⟨a, b, last⟩ := List.length_eq_two.mp two
  have first (i : Nat) : frame.getD (frame.length - 2 + i) 0 = (frame.drop (frame.length - 2)).getD i 0 := by
    rw [List.getD_eq_getElem?_getD, List.getD_eq_getElem?_getD, List.getElem?_drop]
  have high := first 0
  rw [Nat.add_zero] at high
  unfold frameCrc word16At
  rw [be16_append, high, first 1, last]
  rfl

theorem crcMatches_iff (frame : List Byte) (long : 2 ≤ frame.length) : crcMatches frame = true
    ↔ be16 (crc16 (frame.take (frame.length - 2))) = frame.drop (frame.length - 2) := by
  rw [← be16_frameCrc frame long]
  unfold crcMatches
  rw [beq_iff_eq]
  exact ⟨fun same => by rw [same], be16_inj⟩

/-- The fields of a frame stand in its payload (R174). -/
theorem frame_fields {frame : List Byte} {len kind seq : Byte} {body : List Byte}
    (payload : frame.take (frame.length - 2) = len :: kind :: seq :: body) :
    frame.getD 1 0 = kind ∧ frame.getD 2 0 = seq ∧ frameBody frame = body := by
  have split := List.take_append_drop (frame.length - 2) frame
  rw [payload] at split
  unfold frameBody
  rw [payload]
  refine ⟨?_, ?_, rfl⟩
  · rw [← split]; rfl
  · rw [← split]; rfl

theorem answerAtPort_eq (s : State) (p : Port) (x : PortRec) (kind seq : Byte) (st : Status) :
    s.answerAtPort p x kind seq st = { s with ports := s.ports.set p { x with
      state := .replyReady
      reply := some { frame := replyFrame kind seq st (decide ((s.notices.get p).pendingSet ≠ [])) (s.ports.get p).dropped []
                      sent := 0 } } } := rfl

/-- Settles O49: the length byte, then whether the frame is complete, then the three checks of R170. -/
theorem requestFramesAreJudged : Obligations.RequestFramesAreJudged := by
  unfold Obligations.RequestFramesAreJudged
  intro s p bytes running r
  have taken (receives : r.receives = true) : exec (.requestFrame p bytes) s = .next (s.receive p r bytes) := by
    refine (whenRunning_running _ s running).trans ?_
    rw [if_pos receives]
  refine ⟨fun deaf => ?_, fun selected free state _ len rest bytesIn => ?_⟩
  · refine (whenRunning_running _ s running).trans (congrArg _ (if_neg fun receives => deaf ?_))
    simp only [PortRec.receives, Bool.and_eq_true, Bool.not_eq_true', beq_iff_eq] at receives
    obtain ⟨⟨selected, free⟩, state⟩ := receives
    exact ⟨selected, free, state⟩
  · intro frame payload reply told x
    have taken := taken (by rw [PortRec.receives, selected, free, state]; rfl)
    have received : s.receive p r bytes = if len.toNat < Config.minRequestBytes ∨ Config.maxRequestBytes < len.toNat then
        s.answerAtPort p { r with buffer := [len], framing := satInc r.framing } 0 0 .frameError
        else if frame.length < len.toNat then s.setPort p x else s.judgeFrame p x frame := by
      unfold State.receive
      rw [bytesIn]
    rw [received] at taken
    have good (few : 5 ≤ len.toNat) (most : len.toNat ≤ 128) :
        ¬(len.toNat < Config.minRequestBytes ∨ Config.maxRequestBytes < len.toNat) := by
      rintro (short | long)
      · exact Nat.not_lt.mpr few short
      · exact Nat.not_lt.mpr most long
    refine ⟨fun bad => ?_, fun few most short => ?_, fun kind seq body few most fields whole => ?_⟩
    · have outside : len.toNat < Config.minRequestBytes ∨ Config.maxRequestBytes < len.toNat := bad
      rw [if_pos outside, satInc_byte] at taken
      exact taken
    · have all : frame = len :: rest := List.take_of_length_le (Nat.le_of_lt short)
      rw [if_neg (good few most), if_pos (by rw [all]; exact short)] at taken
      exact taken
    · have long : 2 ≤ frame.length := by omega
      rw [if_neg (good few most), if_neg (by rw [whole]; exact Nat.lt_irrefl _)] at taken
      obtain ⟨isKind, isSeq, isBody⟩ := frame_fields fields
      have check := crcMatches_iff frame long
      unfold State.judgeFrame at taken
      rw [isKind, isSeq, isBody] at taken
      refine ⟨fun bad => ?_, fun crc => ⟨fun unknown => ?_, fun k known => ⟨fun sup other => ?_, fun allowed => ?_⟩⟩⟩
      · rw [if_neg (fun h => bad (check.mp h)), satInc_byte] at taken
        exact taken
      · rw [if_pos (check.mpr crc), ofCode_none unknown] at taken
        exact taken
      · rw [if_pos (check.mpr crc), (ofCode_iff _ k).mpr known] at taken
        dsimp only at taken
        rw [if_pos ⟨sup, other⟩] at taken
        exact taken
      · rw [if_pos (check.mpr crc), (ofCode_iff _ k).mpr known] at taken
        dsimp only at taken
        rw [if_neg] at taken
        · exact taken
        · rintro ⟨sup, other⟩
          obtain plain | own := allowed
          · exact absurd (sup.symm.trans plain) (by decide)
          · exact other own

end Sys2Proof.Machine

/-! PROOFS. RESET_PORT, part by part (O51). -/

namespace Sys2Proof.Machine

/-- A waiting RESET_PORT is accepted or refused by its body. -/
theorem exec_resetPort_waiting (s : State) (p : Port) (w : Work) (running : s.inReset = none) (kind : w.kind = .resetPort)
    (work : (s.ports.get p).work = some w) (phase : w.phase = .waiting) : exec (.resetPort p) s = .next (
      if w.body = [] then s.advanceReset p w 0 { templates := 0, slots := 0, entries := 0, lines := 0 }
      else s.setPhase p w (.done .badField [])) := by
  simp only [exec, execResetPort, whenRunning_running _ s running, work, kind, if_true, phase]

/-- The next part of an accepted RESET_PORT is taken and recorded. -/
theorem exec_resetPort_partly (s : State) (p : Port) (w : Work) (running : s.inReset = none) (kind : w.kind = .resetPort)
    (work : (s.ports.get p).work = some w) (stage : Nat) (c : PortResetCounts) (phase : w.phase = .partly stage c) :
    exec (.resetPort p) s = .next (s.advanceReset p w stage c) := by
  simp only [exec, execResetPort, whenRunning_running _ s running, work, kind, if_true, phase]

/-- The state after a part of RESET_PORT: what the part leaves, and the port with its work in the next phase. -/
theorem advanceReset_eq (s t : State) (p : Port) (w : Work) (stage : Nat) (c : PortResetCounts) (ph : WorkPhase)
    (part : s.portResetPart p stage c = (t, ph)) (ports : t.ports = s.ports) :
    s.advanceReset p w stage c
      = { t with ports := s.ports.set p { s.ports.get p with work := some { w with phase := ph } } } := by
  unfold State.advanceReset
  rw [part]
  show t.setPhase p w ph = _
  unfold State.setPhase State.setPort
  rw [ports]

/-- A place freed of the port's template is filtered by its owner (R138). -/
theorem dropTemplates_place (s : State) (p : Port) (n : TemplateNo) :
    (s.dropTemplates p).templates.place[n] = (s.templates.place[n]).filter fun m => m.fields.owner != p := by
  have mapped : (s.dropTemplates p).templates.place[n]
      = if placeOf p (s.templates.place[n]) then none else s.templates.place[n] := by simp [State.dropTemplates]
  rw [mapped]
  cases s.templates.place[n] with
  | none => rfl
  | some m =>
    by_cases own : m.fields.owner = p
    · simp [placeOf, own, Option.filter]
    · simp [placeOf, own, Option.filter]

/-- The lines of which a port holds a share lose it, and the others hold none of it (R42). -/
theorem changeLines_linesHeld (s : State) (p : Port) (l : LineNo) :
    (s.changeLines (s.linesHeld p) (LineRec.dropShare p)).line[l] = withoutShares (fun h => h.port == p) s.line[l] := by
  have held : hasLine (s.linesHeld p) l = (s.line[l]).heldBy p := hasLine_lineSetOf _ l
  rw [changeLines_line, held]
  by_cases own : (s.line[l]).heldBy p = true
  · rw [if_pos own]
    exact recode_dropShare p _ own
  · rw [if_neg own]
    refine (withoutShares_none fun h mem => ?_).symm
    exact Bool.eq_false_iff.mpr fun share => own (List.any_eq_true.mpr ⟨h, mem, share⟩)

theorem linesOf_linesHeld (s : State) (p : Port) :
    (linesOf (s.linesHeld p)).length = (allLines.filter fun l => (s.line[l]).heldBy p).length := by
  unfold linesOf
  rw [List.filter_congr fun l _ => hasLine_lineSetOf (fun l => (s.line[l]).heldBy p) l]

/-- Settles O51, a part at a time. -/
theorem resetPortClearsThePortPartByPart : Obligations.ResetPortClearsThePortPartByPart := by
  unfold Obligations.ResetPortClearsThePortPartByPart
  intro s p w c running kind work becomes
  have accepted := exec_resetPort_waiting s p w running kind work
  have next := exec_resetPort_partly s p w running kind work
  refine ⟨fun phase bad => ?_, fun phase empty => ?_, fun phase => ?_, fun phase => ?_, fun phase => ?_, fun phase => ?_,
    fun phase clear => ?_, fun phase waits => ?_⟩
  · rw [accepted phase, if_neg bad]
    rfl
  · refine ⟨s.dropTemplates p, s.templateCount p, ?_, rfl, rfl, dropTemplates_place s p⟩
    refine (accepted phase).trans (congrArg _ ?_)
    rw [if_pos empty]
    exact advanceReset_eq s _ p w 0 _ _ rfl rfl
  · refine (next _ c phase).trans (congrArg _ ?_)
    rw [← occupied_eq]
    exact advanceReset_eq s _ p w 1 c _ rfl rfl
  · refine (next _ c phase).trans (congrArg _ ?_)
    refine (advanceReset_eq s _ p w 2 c _ rfl rfl).trans ?_
    have owners : (s.table.live.filter fun e => decide (e.fields.owner ≠ p)) = s.table.live.filter fun e => e.fields.owner != p :=
      List.filter_congr fun e _ => by rw [bne, Bool.beq_eq_decide_eq, decide_not]
    unfold State.dropEntries
    rw [owners]
    rfl
  · have frame := changeLines_eq s (s.linesHeld p) (LineRec.dropShare p)
    refine ⟨s.changeLines (s.linesHeld p) (LineRec.dropShare p), ?_, frame, changeLines_linesHeld s p⟩
    refine (next _ c phase).trans (congrArg _ ?_)
    rw [← linesOf_linesHeld]
    refine advanceReset_eq s _ p w 3 c _ rfl ?_
    show (s.changeLines (s.linesHeld p) (LineRec.dropShare p)).ports = s.ports
    rw [frame]
  · refine (next _ c phase).trans (congrArg _ ?_)
    refine (advanceReset_eq s _ p w 4 c _ rfl rfl).trans ?_
    unfold CaptureLog.resetPort
    rw [prune_eq]
    rfl
  · intro x
    have may : s.noticePartMayRun p = true := List.all_eq_true.mpr fun n mem => by
      obtain ⟨slots, templates⟩ := clear n mem
      rw [decide_eq_true slots, decide_eq_true templates]
      rfl
    have part : s.portResetPart p 5 c = (s.setNotices p ((s.notices.get p).portReset s.control.mode), .done .ok c.bytes) :=
      if_pos may
    have reset : (s.notices.get p).portReset s.control.mode = x := by
      unfold NoticeState.portReset NoticeState.judged
      rw [List.any_nil, Bool.and_false]
      rfl
    refine (next _ c phase).trans (congrArg _ ?_)
    refine (advanceReset_eq s _ p w 5 c _ part rfl).trans ?_
    rw [reset]
    rfl
  · obtain ⟨n, mem, source⟩ := waits
    have mayNot : ¬s.noticePartMayRun p = true := fun may => by
      have := List.all_eq_true.mp may n mem
      obtain slots | templates := source
      · rw [slots] at this; exact absurd this (by decide)
      · rw [templates] at this; exact absurd this (by decide)
    have part : s.portResetPart p 5 c = (s, .partly 5 c) := if_neg mayNot
    refine (next _ c phase).trans (congrArg _ ?_)
    refine (advanceReset_eq s _ p w 5 c _ part rfl).trans ?_
    have same : some { w with phase := WorkPhase.partly 5 c } = (s.ports.get p).work := by rw [work, ← phase]
    rw [same, PerPort.set_get_self]

end Sys2Proof.Machine

/-! PROOFS. The findings at the Mode Controller (O44). -/

namespace Sys2Proof.Machine

/-- The finding taken is the oldest of its kind (log 18). -/
theorem takeFinding_oldest {k : RecordKind} {pre post : List Finding} {f : Finding} (kind : f.kind = k)
    (oldest : ∀ g ∈ pre, g.kind ≠ k) : takeFinding k (pre ++ f :: post) = some (f, pre ++ post) := by
  induction pre with
  | nil => exact if_pos kind
  | cons g pre ih =>
    have later : takeFinding k (pre ++ f :: post) = some (f, pre ++ post) := ih fun h mem => oldest h (List.mem_cons_of_mem _ mem)
    rw [List.cons_append, takeFinding, if_neg (oldest g (List.mem_cons_self ..)), later]
    rfl

/-- The finding that a command takes out of those on their way. -/
theorem exec_corruptionFinding (s : State) (k : RecordKind) (pre post : List Finding) (f : Finding) (running : s.inReset = none)
    (waiting : s.wires.findings = pre ++ f :: post) (kind : f.kind = k) (oldest : ∀ g ∈ pre, g.kind ≠ k) :
    exec (.corruptionFinding k) s
      = .next ((s.setWires { s.wires with findings := pre ++ post }).finding f) := by
  simp only [exec, execCorruptionFinding, whenRunning_running _ s running, waiting, takeFinding_oldest kind oldest]

/-- A cause taken leaves the corruption count and the parameters. -/
theorem takeCause_count (s : State) (cause : SafeCause) (line : Option LineNo) :
    (s.takeCause cause line).control.corruption = s.control.corruption
    ∧ (s.takeCause cause line).control.params = s.control.params := by
  cases mode : s.control.mode with
  | safe => rw [takeCause_safe s cause line mode]; exact ⟨rfl, rfl⟩
  | init =>
    have control := (takeCause_leavesInit s cause line mode).1
    rw [control]
    exact ⟨rfl, rfl⟩
  | config =>
    have control := (takeCause_entersSafe s cause line (.inl mode)).1
    rw [control]
    exact ⟨rfl, rfl⟩
  | run =>
    have control := (takeCause_entersSafe s cause line (.inr mode)).1
    rw [control]
    exact ⟨rfl, rfl⟩

/-- The state in which the count of a finding stands and its notice is on its way to every port (R154). -/
def State.findingCounted (s : State) (told : Option Notice) : State := { s with
  control := { s.control with corruption := min (s.control.corruption + 1) 15 }
  wires := { s.wires with notices := s.wires.notices.map fun q => q ++
    (told.elim [] fun n => [{ source := .modeController, own := false, notice := n }]) } }

theorem reportFinding_counted (s : State) (f : Finding) : (s.reportFinding f).countFinding = s.findingCounted f.notice := by
  unfold State.reportFinding State.findingCounted
  split
  · rename_i none_
    have same : (s.wires.notices.map fun q => q ++ []) = s.wires.notices :=
      PerPort.ext_get _ _ fun p => by rw [PerPort.get_map, List.append_nil]
    rw [none_]
    show _ = ({ s with control := _, wires := { s.wires with notices := s.wires.notices.map fun q => q ++ [] } } : State)
    rw [same]
    rfl
  · rename_i n some_
    rw [notifyAll_eq, some_]
    rfl

/-- A finding that raises no cause of its own, with the test of the count (R154, R155). -/
theorem finding_quiet (s : State) (f : Finding) (quiet : ∀ t : State, t.causeOfFinding f = t) :
    FindingTaken s (s.finding f) f.notice
      (if s.control.params.corruptLimit ≤ min (s.control.corruption + 1) 15 then [(.corruptLimit, none)] else []) := by
  have limit : (s.findingCounted f.notice).testLimit
      = if s.control.params.corruptLimit ≤ min (s.control.corruption + 1) 15
        then (s.findingCounted f.notice).takeCause .corruptLimit none else s.findingCounted f.notice := rfl
  unfold State.finding
  rw [reportFinding_counted, quiet, limit]
  split
  · exact ⟨takeCause_causeTaken _ _ _, takeCause_overrunAsks _ _ _⟩
  · rfl

/-- A line record found corrupt: RECORD_CORRUPT, and then the test of the count (R154, R155). -/
theorem finding_line (s : State) (l : LineNo) :
    FindingTaken s (s.finding (.line l)) none ((.recordCorrupt, some l) ::
      if s.control.params.corruptLimit ≤ min (s.control.corruption + 1) 15 then [(.corruptLimit, none)] else []) := by
  have counted : (s.reportFinding (.line l)).countFinding = s.findingCounted none := reportFinding_counted s (.line l)
  obtain ⟨count, params⟩ := takeCause_count (s.findingCounted none) .recordCorrupt (some l)
  have limit : ((s.findingCounted none).takeCause .recordCorrupt (some l)).testLimit
      = if s.control.params.corruptLimit ≤ min (s.control.corruption + 1) 15
        then ((s.findingCounted none).takeCause .recordCorrupt (some l)).takeCause .corruptLimit none
        else (s.findingCounted none).takeCause .recordCorrupt (some l) := by
    unfold State.testLimit
    rw [count, params]
    rfl
  unfold State.finding
  rw [counted]
  show FindingTaken s ((s.findingCounted none).takeCause .recordCorrupt (some l)).testLimit _ _
  rw [limit]
  split
  · exact ⟨_, takeCause_causeTaken _ _ _, takeCause_causeTaken _ _ _,
      (takeCause_overrunAsks _ _ _).trans (takeCause_overrunAsks _ _ _)⟩
  · exact ⟨takeCause_causeTaken _ _ _, takeCause_overrunAsks _ _ _⟩

/-- Settles O44: a finding by its kind, and the decay by whether a boundary is on its way. -/
theorem findingsAreCountedAndDecay : Obligations.FindingsAreCountedAndDecay := by
  unfold Obligations.FindingsAreCountedAndDecay
  intro s pre post running n limit r
  refine ⟨fun i waiting oldest => ⟨_, exec_corruptionFinding s .entry pre post _ running waiting rfl fun g mem kind => ?_,
      finding_quiet r (.entry i) fun _ => rfl⟩,
    fun m waiting oldest => ⟨_, exec_corruptionFinding s .template pre post _ running waiting rfl fun g mem kind => ?_,
      finding_quiet r (.template m) fun _ => rfl⟩,
    fun l waiting oldest => ⟨_, exec_corruptionFinding s .line pre post _ running waiting rfl fun g mem kind => ?_,
      finding_line r l⟩, fun none_ => ?_, fun some_ => ?_⟩
  · cases g with
    | entry j => exact oldest j mem
    | template _ => cases kind
    | line _ => cases kind
  · cases g with
    | template j => exact oldest j mem
    | entry _ => cases kind
    | line _ => cases kind
  · cases g with
    | line j => exact oldest j mem
    | entry _ => cases kind
    | template _ => cases kind
  · simp only [exec, execCorruptionDecay, whenRunning_running _ s running]
    rw [if_pos none_]
  · simp only [exec, execCorruptionDecay, whenRunning_running _ s running]
    rw [if_neg (by omega)]
    rfl

end Sys2Proof.Machine

/-! PROOFS. The scrubber (O43). -/

namespace Sys2Proof.Machine

/-- The scrubber as a visit leaves it (R152). -/
theorem visited_eq (c : ModeController) (now : Word32) (range : c.scrubPos < 320) : c.visited now = { c with
    visitStart := now
    scrubPos := if c.scrubPos = 319 then 0 else c.scrubPos + 1
    scrubRounds := if c.scrubPos = 319 then c.scrubRounds + 1 else c.scrubRounds } := by
  unfold ModeController.visited
  by_cases last : c.scrubPos = 319
  · rw [if_neg (by rw [last]; decide), if_pos last, if_pos last]
  · have more : c.scrubPos + 1 < Config.scrubRecords := by
      show c.scrubPos + 1 < 320
      omega
    rw [if_pos more, if_neg last, if_neg last]

/-- A visit changes nothing of the Mode Controller. -/
theorem exec_scrubVisit (s t : State) (running : s.inReset = none) (due : 32 ≤ (s.now - s.control.visitStart).toNat)
    (visit : s.visit s.control.scrubPos = t) (control : t.control = s.control) :
    exec .scrubVisit s = .next (t.setControl (s.control.visited s.now)) := by
  simp only [exec, execScrubVisit, whenRunning_running _ s running]
  have fires : timerDue s.now s.control.visitStart Config.visitInterval = true := decide_eq_true due
  rw [if_pos fires, visit, control]

section
variable (s : State)

theorem visit_entry (i : Fin 256) : s.visit i.val = s.visitEntry i := by
  unfold State.visit
  rw [if_pos i.isLt]
  congr 1
  exact Fin.ext (Nat.mod_eq_of_lt i.isLt)

theorem visit_place (n : TemplateNo) : s.visit (n.val + 256) = s.visitPlace n := by
  have bound := n.isLt
  unfold State.visit
  rw [if_neg (by omega), if_pos (by omega), Nat.add_sub_cancel]
  congr 1
  exact Fin.ext (Nat.mod_eq_of_lt bound)

theorem visit_line (l : LineNo) : s.visit (l.val + 288) = s.verifyLine l := by
  have bound := l.isLt
  unfold State.visit
  rw [if_neg (by omega), if_neg (by omega), Nat.add_sub_cancel]
  congr 1
  exact Fin.ext (Nat.mod_eq_of_lt bound)

theorem visitEntry_agrees (i : Fin 256) (agrees : ∀ e ∈ s.table.live, e.index = i → e.codeOk = true) : s.visitEntry i = s := by
  unfold State.visitEntry
  split
  · rfl
  · rename_i e there
    obtain ⟨mem, index⟩ := entryAt_some there
    rw [if_pos (agrees e mem index)]

theorem visitEntry_corrupt (law : TableLaw s.table) (e : Entry) (mem : e ∈ s.table.live) (corrupt : e.codeOk = false) :
    s.visitEntry e.index = s.removeCorrupt e := by
  unfold State.visitEntry
  rw [entryAt_live law mem]
  dsimp only
  rw [if_neg (by rw [corrupt]; decide)]

theorem visitPlace_agrees (n : TemplateNo) (agrees : ∀ m, s.templates.place[n] = some m → m.codeOk = true) :
    s.visitPlace n = s := by
  unfold State.visitPlace
  split
  · rfl
  · rename_i m there
    rw [if_pos (agrees m there)]

theorem visitPlace_corrupt (n : TemplateNo) (m : Template) (there : s.templates.place[n] = some m) (corrupt : m.codeOk = false) :
    s.visitPlace n = s.deleteCorrupt n := by
  unfold State.visitPlace
  rw [there]
  dsimp only
  rw [if_neg (by rw [corrupt]; decide)]

theorem verifyLine_agrees (l : LineNo) (agrees : (s.line[l]).codeOk = true) : s.verifyLine l = s := if_pos agrees

theorem verifyLine_corrupt (l : LineNo) (corrupt : (s.line[l]).codeOk = false) : s.verifyLine l = s.clearLine l :=
  if_neg (by rw [corrupt]; decide)

end

/-- A position that the scrubber takes names an index, a place or a line. -/
theorem scrubPos_cases {pos : Nat} (range : pos < 320) :
    (∃ i : Fin 256, pos = i.val) ∨ (∃ n : TemplateNo, pos = n.val + 256) ∨ ∃ l : LineNo, pos = l.val + 288 := by
  by_cases entry : pos < 256
  · exact .inl ⟨⟨pos, entry⟩, rfl⟩
  · by_cases place : pos < 288
    · exact .inr (.inl ⟨⟨pos - 256, by omega⟩, by show pos = pos - 256 + 256; omega⟩)
    · exact .inr (.inr ⟨⟨pos - 288, by omega⟩, by show pos = pos - 288 + 288; omega⟩)

/-- Settles O43: a visit by the kind of record that the position names. -/
theorem scrubberVisitsTheNextRecord : Obligations.ScrubberVisitsTheNextRecord := by
  unfold Obligations.ScrubberVisitsTheNextRecord
  intro s running range pos moved found
  have next : s.control.visited s.now = moved := visited_eq s.control s.now range
  refine ⟨fun early => ?_, fun due => ⟨fun entries places lines => ?_, fun e mem there corrupt law => ?_,
    fun n m at_ there corrupt => ?_, fun l at_ corrupt => ?_⟩⟩
  · simp only [exec, execScrubVisit, whenRunning_running _ s running]
    have waits : timerDue s.now s.control.visitStart Config.visitInterval = false := (timerDue_eq_false_iff _ _ _).mpr early
    rw [if_neg (by rw [waits]; decide)]
  · have same : s.visit s.control.scrubPos = s := by
      obtain ⟨i, at_⟩ | ⟨n, at_⟩ | ⟨l, at_⟩ := scrubPos_cases range
      · rw [at_, visit_entry]
        exact visitEntry_agrees s i fun e mem index => entries e mem (by rw [index]; exact at_.symm)
      · rw [at_, visit_place]
        exact visitPlace_agrees s n fun m there => places n m at_.symm there
      · rw [at_, visit_line]
        exact verifyLine_agrees s l (lines l at_.symm)
    rw [exec_scrubVisit s s running due same rfl, next]
    rfl
  · have visit : s.visit s.control.scrubPos = s.removeCorrupt e := by
      have at_ : s.control.scrubPos = e.index.val := there.symm
      rw [at_, visit_entry, visitEntry_corrupt s law e mem corrupt]
    have picked : (fun x : Entry => decide (x.index ≠ e.index)) = fun x => !(x.index == e.index) := by
      funext x
      rw [decide_not, Bool.beq_eq_decide_eq]
    let left := s.table.live.filter fun x => !(x.index == e.index)
    have removed : s.removeCorrupt e
        = (s.setTable { s.table with live := left, liveCount := recount left }).handFinding (.entry e.index) := by
      unfold State.removeCorrupt
      rw [picked]
    refine ⟨s.setTable { s.table with live := left, liveCount := recount left }, ?_, rfl, fun p => recount_get left p⟩
    rw [exec_scrubVisit s _ running due visit rfl, next, removed]
    rfl
  · have visit : s.visit s.control.scrubPos = s.deleteCorrupt n := by
      have at_ : s.control.scrubPos = n.val + 256 := at_.symm
      rw [at_, visit_place, visitPlace_corrupt s n m there corrupt]
    rw [exec_scrubVisit s _ running due visit rfl, next]
    rfl
  · have visit : s.visit s.control.scrubPos = s.clearLine l := by
      have at_ : s.control.scrubPos = l.val + 288 := at_.symm
      rw [at_, visit_line, verifyLine_corrupt s l corrupt]
    have frame := clearLine_eq s l
    have cuts := cutAll_eq s Port.all (singleLine l)
    have line := clearLine_line s l
    have keeps := clearLine_keeps s l
    have settle : settleAfter s ((s.clearLine l).setControl moved) l (s.line[l]).settle
        = settleAfter s (s.clearLine l) l (s.line[l]).settle := rfl
    refine ⟨_, exec_scrubVisit s _ running due visit keeps.2.2, ?_⟩
    rw [next, settle]
    generalize settleAfter s (s.clearLine l) l (s.line[l]).settle = k at line ⊢
    generalize s.clearLine l = t at frame line ⊢
    generalize s.cutAll Port.all (singleLine l) = u at cuts frame ⊢
    rw [frame, line, cuts]
    rfl

end Sys2Proof.Machine

/-! PROOFS. SET_PARAM: what a write of a parameter accepts and what it changes (O45). -/

namespace Sys2Proof.Machine

/-! ## One parameter written (R149 checks 3 and 4, R150) -/

/-- A write that is accepted exactly where R149 and R150 accept the value, and that changes that parameter alone. -/
structure WrittenAlone (c : ModeController) (id : ParamId) (n : Nat) (written : Option Params) : Prop where
  accepted : valueAccepted c id n → ∃ q, written = some q ∧ q.value id = n
    ∧ ∀ other, other ≠ id → q.value other = c.params.value other
  refused : ¬valueAccepted c id n → written = none

theorem inRange_iff (lo hi n v : Nat) : inRange lo hi n = some v ↔ (lo ≤ n ∧ n ≤ hi) ∧ n = v := by
  unfold inRange
  rw [Option.ite_none_right_eq_some, Option.some.injEq]

/-- A value out of range is accepted nowhere, and one in range wherever R150 adds no test. -/
theorem valueAccepted_iff (c : ModeController) (id : ParamId) (n : Nat) (limit : id ≠ .corruptLimit)
    (rank : ∀ r, id ≠ .portPriority r) : valueAccepted c id n ↔ id.range.1 ≤ n ∧ n ≤ id.range.2 :=
  ⟨fun ⟨low, high, _⟩ => ⟨low, high⟩, fun ⟨low, high⟩ =>
    ⟨low, high, fun h => absurd h limit, fun r h => absurd h (rank r)⟩⟩

/-- A write through a decoding of the value: accepted where the value decodes, the parameter then holding what was decoded. -/
theorem writtenAlone_map {c : ModeController} {id : ParamId} {n : Nat} {α : Type} {decode : Option α} {put : α → Params}
    (accepts : valueAccepted c id n ↔ ∃ v, decode = some v) (own : ∀ v, decode = some v → (put v).value id = n)
    (others : ∀ v other, other ≠ id → (put v).value other = c.params.value other) :
    WrittenAlone c id n (decode.map put) where
  accepted ok := by
    obtain ⟨v, decoded⟩ := accepts.mp ok
    exact ⟨put v, by rw [decoded]; rfl, own v decoded, others v⟩
  refused bad := by
    rw [Option.eq_none_iff_forall_ne_some.mpr fun v decoded => bad (accepts.mpr ⟨v, decoded⟩)]
    rfl

/-- A write of a number in a range. -/
theorem writtenAlone_inRange {c : ModeController} {id : ParamId} {n lo hi : Nat} {put : Nat → Params}
    (limit : id ≠ .corruptLimit) (rank : ∀ r, id ≠ .portPriority r) (range : id.range = (lo, hi))
    (own : lo ≤ n → n ≤ hi → (put n).value id = n)
    (others : ∀ v other, other ≠ id → (put v).value other = c.params.value other) :
    WrittenAlone c id n ((inRange lo hi n).map put) := by
  refine writtenAlone_map ?_ ?_ others
  · rw [valueAccepted_iff c id n limit rank, range]
    simp only [inRange_iff]
    exact ⟨fun inside => ⟨n, inside, rfl⟩, fun ⟨_, inside, _⟩ => inside⟩
  · rintro v decoded
    obtain ⟨⟨low, high⟩, rfl⟩ := (inRange_iff ..).mp decoded
    exact own low high

/-- A write of one of a few codes. -/
theorem writtenAlone_ofCode {c : ModeController} {id : ParamId} {n top : Nat} {α : Type} {ofCode : Nat → Option α}
    {code : α → Nat} {put : α → Params} (limit : id ≠ .corruptLimit) (rank : ∀ r, id ≠ .portPriority r)
    (range : id.range = (0, top)) (known : ∀ m, m ≤ top ↔ ∃ v, ofCode m = some v) (back : ∀ m v, ofCode m = some v → code v = m)
    (own : ∀ v, (put v).value id = code v)
    (others : ∀ v other, other ≠ id → (put v).value other = c.params.value other) :
    WrittenAlone c id n ((ofCode n).map put) := by
  refine writtenAlone_map ?_ (fun v decoded => (own v).trans (back n v decoded)) others
  rw [valueAccepted_iff c id n limit rank, range, ← known n]
  exact ⟨fun ⟨_, high⟩ => high, fun high => ⟨Nat.zero_le n, high⟩⟩

/-- A place of a vector other than the one written. -/
theorem set_other {α : Type} {m : Nat} (v : Vector α m) {i j : Fin m} (x : α) (h : j ≠ i) : (v.set i x)[j] = v[j] := by
  have apart : i.val ≠ j.val := fun same => h (Fin.ext same.symm)
  simp [apart]

theorem set_same {α : Type} {m : Nat} (v : Vector α m) (i : Fin m) (x : α) : (v.set i x)[i] = x := by simp

theorem motionSource_known (m : Nat) : m ≤ 2 ↔ ∃ v, MotionSource.ofCode m = some v := by
  match m with
  | 0 => exact ⟨fun _ => ⟨_, rfl⟩, fun _ => by decide⟩
  | 1 => exact ⟨fun _ => ⟨_, rfl⟩, fun _ => by decide⟩
  | 2 => exact ⟨fun _ => ⟨_, rfl⟩, fun _ => by decide⟩
  | m + 3 => exact ⟨fun high => by omega, fun ⟨_, unknown⟩ => by cases unknown⟩

theorem policy_known (m : Nat) : m ≤ 2 ↔ ∃ v, Policy.ofCode m = some v := by
  match m with
  | 0 => exact ⟨fun _ => ⟨_, rfl⟩, fun _ => by decide⟩
  | 1 => exact ⟨fun _ => ⟨_, rfl⟩, fun _ => by decide⟩
  | 2 => exact ⟨fun _ => ⟨_, rfl⟩, fun _ => by decide⟩
  | m + 3 => exact ⟨fun high => by omega, fun ⟨_, unknown⟩ => by cases unknown⟩

theorem historyPeriod_known (m : Nat) : m ≤ 4 ↔ ∃ v, HistoryPeriod.ofCode m = some v := by
  match m with
  | 0 => exact ⟨fun _ => ⟨_, rfl⟩, fun _ => by decide⟩
  | 1 => exact ⟨fun _ => ⟨_, rfl⟩, fun _ => by decide⟩
  | 2 => exact ⟨fun _ => ⟨_, rfl⟩, fun _ => by decide⟩
  | 3 => exact ⟨fun _ => ⟨_, rfl⟩, fun _ => by decide⟩
  | 4 => exact ⟨fun _ => ⟨_, rfl⟩, fun _ => by decide⟩
  | m + 5 => exact ⟨fun high => by omega, fun ⟨_, unknown⟩ => by cases unknown⟩

theorem edgeSelect_known (m : Nat) : m ≤ 3 ↔ ∃ v, EdgeSelect.ofCode m = some v := by
  match m with
  | 0 => exact ⟨fun _ => ⟨_, rfl⟩, fun _ => by decide⟩
  | 1 => exact ⟨fun _ => ⟨_, rfl⟩, fun _ => by decide⟩
  | 2 => exact ⟨fun _ => ⟨_, rfl⟩, fun _ => by decide⟩
  | 3 => exact ⟨fun _ => ⟨_, rfl⟩, fun _ => by decide⟩
  | m + 4 => exact ⟨fun high => by omega, fun ⟨_, unknown⟩ => by cases unknown⟩

theorem motionSource_back (m : Nat) (v : MotionSource) (h : MotionSource.ofCode m = some v) : v.code = m := by
  unfold MotionSource.ofCode at h
  split at h <;> cases h <;> rfl

theorem policy_back (m : Nat) (v : Policy) (h : Policy.ofCode m = some v) : v.code = m := by
  unfold Policy.ofCode at h
  split at h <;> cases h <;> rfl

theorem historyPeriod_back (m : Nat) (v : HistoryPeriod) (h : HistoryPeriod.ofCode m = some v) : v.code = m := by
  unfold HistoryPeriod.ofCode at h
  split at h <;> cases h <;> rfl

theorem edgeSelect_back (m : Nat) (v : EdgeSelect) (h : EdgeSelect.ofCode m = some v) : v.code = m := by
  unfold EdgeSelect.ofCode at h
  split at h <;> cases h <;> rfl

/-- The rank that is written belongs to no other rank (R150). -/
theorem holdsOtherRank_iff (q : Params) (x : Port) (r : Fin 4) : q.holdsOtherRank x r = true
    ↔ ∃ r', r' ≠ r ∧ q.value (.portPriority r') = x.code := by
  have same (o : Option Port) : o = some x ↔ rankCode o = x.code := by
    cases o with
    | none => cases x <;> decide
    | some y => cases x <;> cases y <;> decide
  unfold Params.holdsOtherRank
  simp only [List.any_eq_true, List.mem_finRange, true_and, Bool.and_eq_true, decide_eq_true_eq, beq_iff_eq]
  exact exists_congr fun k => and_congr_right fun _ => same _

theorem port_code_lt (x : Port) : x.code < 4 := by cases x <;> decide

theorem rankOfCode_some (x : Port) : rankOfCode x.code = some (some x) := by cases x <;> rfl

theorem rankOfCode_cases (n : Nat) : n = 4 ∧ rankOfCode n = some none ∨ (∃ x : Port, n = x.code) ∨ 4 < n ∧ rankOfCode n = none := by
  by_cases few : n < 4
  · refine .inr (.inl ?_)
    match n, few with
    | 0, _ => exact ⟨.A, rfl⟩
    | 1, _ => exact ⟨.B, rfl⟩
    | 2, _ => exact ⟨.C, rfl⟩
    | 3, _ => exact ⟨.D, rfl⟩
  · by_cases unranked : n = 4
    · exact .inl ⟨unranked, by rw [unranked]; rfl⟩
    · refine .inr (.inr ⟨by omega, ?_⟩)
      match n, few, unranked with
      | n + 5, _, _ => rfl

theorem writtenAlone_rank (c : ModeController) (r : Fin 4) (n : Nat) (k : Nat) :
    WrittenAlone c (.portPriority r) n (c.params.write (.portPriority r) n k) := by
  have others (o : Option Port) (other : ParamId) (h : other ≠ .portPriority r) :
      ({ c.params with portPriority := c.params.portPriority.set r o } : Params).value other = c.params.value other := by
    cases other with
    | portPriority j => exact congrArg rankCode (set_other _ _ fun same => h (by rw [same]))
    | _ => rfl
  have own (o : Option Port) :
      ({ c.params with portPriority := c.params.portPriority.set r o } : Params).value (.portPriority r) = rankCode o :=
    congrArg rankCode (set_same _ r o)
  unfold Params.write
  dsimp only
  obtain ⟨rfl, code⟩ | ⟨x, rfl⟩ | ⟨many, code⟩ := rankOfCode_cases n
  · rw [code]
    refine ⟨fun _ => ⟨_, rfl, own none, others none⟩, fun bad => absurd ?_ bad⟩
    exact ⟨Nat.zero_le _, Nat.le_refl _, (fun h => by cases h), fun _ _ few => absurd few (by decide)⟩
  · rw [rankOfCode_some]
    dsimp only
    have taken := holdsOtherRank_iff c.params x r
    refine ⟨fun ok => ?_, fun bad => ?_⟩
    · obtain ⟨-, -, -, unique⟩ := ok
      rw [if_neg fun held => ?_]
      · exact ⟨_, rfl, own (some x), others (some x)⟩
      · obtain ⟨j, apart, rank⟩ := taken.mp held
        exact apart (unique r rfl (port_code_lt x) j rank)
    · refine if_pos (taken.mpr (Classical.byContradiction fun none_ => bad ?_))
      refine ⟨Nat.zero_le _, Nat.le_of_lt (port_code_lt x), (fun h => by cases h), fun r' h _ j rank => ?_⟩
      cases h
      exact Classical.byContradiction fun apart => none_ ⟨j, apart, rank⟩
  · rw [code]
    refine ⟨fun ⟨_, high, _⟩ => absurd high (Nat.not_le.mpr many), fun _ => rfl⟩

/-- A write of any parameter (R149, R150). -/
theorem write_writtenAlone (c : ModeController) (id : ParamId) (n : Nat) :
    WrittenAlone c id n (c.params.write id n c.corruption) := by
  cases id with
  | internalRate =>
    refine writtenAlone_inRange (by decide) (by simp) rfl (fun _ _ => rfl) fun v other h => ?_
    cases other with
    | internalRate => exact absurd rfl h
    | _ => rfl
  | stallTime =>
    refine writtenAlone_inRange (by decide) (by simp) rfl (fun _ _ => rfl) fun v other h => ?_
    cases other with
    | stallTime => exact absurd rfl h
    | _ => rfl
  | speedWindow =>
    refine writtenAlone_inRange (by decide) (by simp) rfl (fun _ _ => rfl) fun v other h => ?_
    cases other with
    | speedWindow => exact absurd rfl h
    | _ => rfl
  | reverseLimit =>
    refine writtenAlone_inRange (by decide) (by simp) rfl (fun _ _ => rfl) fun v other h => ?_
    cases other with
    | reverseLimit => exact absurd rfl h
    | _ => rfl
  | commitLead =>
    refine writtenAlone_inRange (by decide) (by simp) rfl (fun _ _ => rfl) fun v other h => ?_
    cases other with
    | commitLead => exact absurd rfl h
    | _ => rfl
  | settle =>
    refine writtenAlone_inRange (by decide) (by simp) rfl (fun _ _ => rfl) fun v other h => ?_
    cases other with
    | settle => exact absurd rfl h
    | _ => rfl
  | faultThreshold =>
    refine writtenAlone_inRange (by decide) (by simp) rfl (fun _ _ => rfl) fun v other h => ?_
    cases other with
    | faultThreshold => exact absurd rfl h
    | _ => rfl
  | guard l =>
    refine writtenAlone_inRange (by simp) (by simp) rfl (fun _ _ => set_same ..) fun v other h => ?_
    cases other with
    | guard j => exact set_other _ _ fun same => h (by rw [same])
    | _ => rfl
  | rest l =>
    refine writtenAlone_inRange (by simp) (by simp) rfl (fun _ _ => set_same ..) fun v other h => ?_
    cases other with
    | rest j => exact set_other _ _ fun same => h (by rw [same])
    | _ => rfl
  | sensorFilter k =>
    refine writtenAlone_inRange (by simp) (by simp) rfl (fun _ _ => set_same ..) fun v other h => ?_
    cases other with
    | sensorFilter j => exact set_other _ _ fun same => h (by rw [same])
    | _ => rfl
  | sensorSpacing k =>
    refine writtenAlone_inRange (by simp) (by simp) rfl (fun _ _ => set_same ..) fun v other h => ?_
    cases other with
    | sensorSpacing j => exact set_other _ _ fun same => h (by rw [same])
    | _ => rfl
  | motionSource =>
    refine writtenAlone_ofCode (by decide) (by simp) rfl motionSource_known motionSource_back (fun _ => rfl) fun v other h => ?_
    cases other with
    | motionSource => exact absurd rfl h
    | _ => rfl
  | historyPeriod =>
    refine writtenAlone_ofCode (by decide) (by simp) rfl historyPeriod_known historyPeriod_back (fun _ => rfl) fun v other h => ?_
    cases other with
    | historyPeriod => exact absurd rfl h
    | _ => rfl
  | policy l =>
    refine writtenAlone_ofCode (by simp) (by simp) rfl policy_known policy_back (fun v => congrArg Policy.code (set_same ..))
      fun v other h => ?_
    cases other with
    | policy j => exact congrArg Policy.code (set_other _ _ fun same => h (by rw [same]))
    | _ => rfl
  | sensorEdge k =>
    refine writtenAlone_ofCode (by simp) (by simp) rfl edgeSelect_known edgeSelect_back (fun v => congrArg EdgeSelect.code (set_same ..))
      fun v other h => ?_
    cases other with
    | sensorEdge j => exact congrArg EdgeSelect.code (set_other _ _ fun same => h (by rw [same]))
    | _ => rfl
  | readback l =>
    refine writtenAlone_inRange (by simp) (by simp) rfl (fun _ high => ?_) fun v other h => ?_
    · refine (congrArg flagNat (set_same ..)).trans ?_
      match n, high with
      | 0, _ => rfl
      | 1, _ => rfl
    · cases other with
      | readback j => exact congrArg flagNat (set_other _ _ fun same => h (by rw [same]))
      | _ => rfl
  | quota p =>
    refine writtenAlone_inRange (by simp) (by simp) rfl (fun _ _ => PerPort.get_set_same ..) fun v other h => ?_
    cases other with
    | quota q => exact PerPort.get_set_other _ _ _ _ fun same => h (by rw [same])
    | _ => rfl
  | portPriority r => exact writtenAlone_rank c r n _
  | corruptLimit =>
    have others (v : Nat) (other : ParamId) (h : other ≠ .corruptLimit) :
        ({ c.params with corruptLimit := v } : Params).value other = c.params.value other := by
      cases other with
      | corruptLimit => exact absurd rfl h
      | _ => rfl
    unfold Params.write
    refine ⟨fun ⟨low, high, above, _⟩ => ?_, fun bad => ?_⟩
    · have decoded : inRange 1 15 n = some n := if_pos ⟨low, high⟩
      dsimp only
      rw [if_pos (above rfl), decoded]
      exact ⟨_, rfl, rfl, others n⟩
    · refine Option.eq_none_iff_forall_ne_some.mpr fun q written => bad ?_
      obtain ⟨above, mapped⟩ := Option.ite_none_right_eq_some.mp written
      obtain ⟨v, decoded, -⟩ := Option.map_eq_some_iff.mp mapped
      obtain ⟨⟨low, high⟩, -⟩ := (inRange_iff ..).mp decoded
      exact ⟨low, high, fun _ => above, fun r h => by cases h⟩

/-! ## The request -/

/-- The body of SET_PARAM (R149 check 1). -/
theorem parseSetParam_iff (body : List Byte) (id : ParamId) (n : Nat) : parseSetParam body = some (id, n)
    ↔ ∃ (i k : Byte) (v : Word32), body = i :: k :: be32 v ∧ ParamId.ofBytes i.toNat k.toNat = some id ∧ v.toNat = n := by
  unfold parseSetParam
  constructor
  · intro h
    obtain ⟨len, mapped⟩ := Option.ite_none_right_eq_some.mp h
    obtain ⟨id', known, same⟩ := Option.map_eq_some_iff.mp mapped
    cases same
    obtain ⟨i, b1, rfl, h1⟩ := peel8 len
    obtain ⟨k, b2, rfl, h2⟩ := peel8 h1
    obtain ⟨v, b3, rfl, h3⟩ := peel32 h2
    obtain rfl := List.length_eq_zero_iff.mp h3
    refine ⟨i, k, v, by rw [List.append_nil], known, ?_⟩
    exact congrArg BitVec.toNat (word32At_be32 v []).symm
  · rintro ⟨i, k, v, rfl, known, rfl⟩
    have len : (i :: k :: be32 v).length = 6 := rfl
    rw [if_pos len]
    have read : word32At (i :: k :: be32 v) 2 = v := word32_bytes v
    rw [read]
    exact congrArg (Option.map fun id => (id, v.toNat)) known

theorem writableIn_iff (id : ParamId) (m : Mode) : id.writableIn m = true
    ↔ m = .config ∨ (m = .run ∧ (id = .commitLead ∨ id = .faultThreshold ∨ id = .historyPeriod)) := by
  cases m with
  | run => cases id <;> simp [ParamId.writableIn, ParamId.writableInRun]
  | _ => simp [ParamId.writableIn]

end Sys2Proof.Machine

/-! PROOFS. SET_PARAM: the writes handed on (O45). -/

namespace Sys2Proof.Machine

/-- Nothing is handed to a block. -/
theorem handed_none (q : List BlockMessage) : q = q ++ [] := (List.append_nil q).symm

/-- The switch that a READBACK value stands for. -/
theorem readback_value {q : Params} {l : LineNo} {v : Word32} (own : q.value (.readback l) = v.toNat) :
    q.readback[l] = (v == 1) := by
  have flag : flagNat q.readback[l] = v.toNat := own
  have one : (v == 1) = decide (v.toNat = 1) := by
    rw [Bool.beq_eq_decide_eq]
    exact decide_eq_decide.mpr BitVec.toNat_eq
  rw [one, ← flag]
  cases q.readback[l] <;> rfl

theorem handWrite_notices (s : State) (id : ParamId) (q : Params) : (s.handWrite id q).wires.notices = s.wires.notices := by
  cases id <;> rfl

/-- Settles O45: the body, the mode and the value, and then what each parameter hands on. -/
theorem parametersAreWrittenAndHandedOn : Obligations.ParametersAreWrittenAndHandedOn := by
  unfold Obligations.ParametersAreWrittenAndHandedOn
  intro s w waits c refused
  refine ⟨fun unknown => ?_, fun i n v id body known => ?_⟩
  · have none_ : parseSetParam w.body = none := Option.eq_none_iff_forall_ne_some.mpr fun x h => by
      obtain ⟨i, n, v, body, known, -⟩ := (parseSetParam_iff _ x.1 x.2).mp h
      rw [unknown i n v body] at known
      cases known
    exact serve_kept waits _ (.refuse .badField) (by rw [setParamRequest, none_])
  · intro open_
    have parsed : parseSetParam w.body = some (id, v.toNat) := (parseSetParam_iff ..).mpr ⟨i, n, v, body, known, rfl⟩
    have writable : id.writableIn s.control.mode = true ↔ open_ := writableIn_iff id s.control.mode
    obtain ⟨accepted, bad⟩ := write_writtenAlone s.control id v.toNat
    refine ⟨fun closed => ?_, fun opened wrong => ?_, fun opened right => ?_⟩
    · refine serve_kept waits _ (.refuse .wrongMode) ?_
      unfold setParamRequest
      rw [parsed]
      exact if_neg fun h => closed (writable.mp h)
    · refine serve_kept waits _ (.refuse .badField) ?_
      unfold setParamRequest
      rw [parsed]
      dsimp only
      rw [if_pos (writable.mpr opened), bad wrong]
    · obtain ⟨q, written, own, others⟩ := accepted right
      refine ⟨(s.setControl { s.control with params := q }).handWrite id q, q, serve_unnoticed waits setParamRequest _
        (.ok (be32 v)) ?_ (handWrite_notices ..), own, others, ?_⟩
      · unfold setParamRequest
        rw [parsed]
        dsimp only
        rw [if_pos (writable.mpr opened), written]
        dsimp only
        rw [own, valueBytes, BitVec.ofNat_toNat, BitVec.setWidth_eq]
      · clear written others right bad accepted writable parsed opened refused
        cases id with
        | motionSource => exact ⟨rfl, ⟨rfl, rfl⟩, rfl, handed_none _, handed_none _, fun _ => handed_none _⟩
        | internalRate =>
          have written := congrArg (fun m => s.wires.toPosition ++ [.write (.internalRate m)]) own
          exact ⟨rfl, ⟨rfl, rfl⟩, written, handed_none _, handed_none _, fun _ => handed_none _⟩
        | stallTime =>
          have written := congrArg (fun m => s.wires.toPosition ++ [.write (.stallTime m)]) own
          exact ⟨rfl, ⟨rfl, rfl⟩, written, handed_none _, handed_none _, fun _ => handed_none _⟩
        | speedWindow =>
          have written := congrArg (fun m => s.wires.toPosition ++ [.write (.speedWindow m)]) own
          exact ⟨rfl, ⟨rfl, rfl⟩, written, handed_none _, handed_none _, fun _ => handed_none _⟩
        | commitLead =>
          have written (p : Port) := congrArg (fun m => s.wires.toSlots.get p ++ [.write (.commitLead m)]) own
          exact ⟨rfl, ⟨rfl, rfl⟩, handed_none _, handed_none _, handed_none _, fun p => (PerPort.get_map ..).trans (written p)⟩
        | historyPeriod => exact ⟨rfl, ⟨rfl, rfl⟩, handed_none _, rfl, handed_none _, fun _ => handed_none _⟩
        | rest l =>
          have written := congrArg (fun m => s.wires.toLines ++ [.write (.rest l m)]) own
          exact ⟨rfl, ⟨rfl, rfl⟩, handed_none _, written, handed_none _, fun _ => handed_none _⟩
        | readback l =>
          have written := congrArg (fun b => s.wires.toLines ++ [.write (.readback l b)]) (readback_value own)
          exact ⟨rfl, ⟨rfl, rfl⟩, handed_none _, written, handed_none _, fun _ => handed_none _⟩
        | sensorFilter k =>
          have written := congrArg (fun m => s.wires.toLog ++ [.write (.sensorFilter k m)]) own
          exact ⟨rfl, ⟨rfl, rfl⟩, handed_none _, handed_none _, written, fun _ => handed_none _⟩
        | reverseLimit => exact ⟨rfl, ⟨rfl, rfl⟩, handed_none _, handed_none _, handed_none _, fun _ => handed_none _⟩
        | settle => exact ⟨rfl, ⟨rfl, rfl⟩, handed_none _, handed_none _, handed_none _, fun _ => handed_none _⟩
        | faultThreshold => exact ⟨rfl, ⟨rfl, rfl⟩, handed_none _, handed_none _, handed_none _, fun _ => handed_none _⟩
        | sensorEdge k => exact ⟨rfl, ⟨rfl, rfl⟩, handed_none _, handed_none _, handed_none _, fun _ => handed_none _⟩
        | sensorSpacing k => exact ⟨rfl, ⟨rfl, rfl⟩, handed_none _, handed_none _, handed_none _, fun _ => handed_none _⟩
        | corruptLimit => exact ⟨rfl, ⟨rfl, rfl⟩, handed_none _, handed_none _, handed_none _, fun _ => handed_none _⟩
        | guard l => exact ⟨rfl, takeLimits_limitsTaken s _ rfl, handed_none _, handed_none _, handed_none _, fun _ => handed_none _⟩
        | policy l => exact ⟨rfl, takeLimits_limitsTaken s _ rfl, handed_none _, handed_none _, handed_none _, fun _ => handed_none _⟩
        | quota p => exact ⟨rfl, takeLimits_limitsTaken s _ rfl, handed_none _, handed_none _, handed_none _, fun _ => handed_none _⟩
        | portPriority r => exact ⟨rfl, takeLimits_limitsTaken s _ rfl, handed_none _, handed_none _, handed_none _, fun _ => handed_none _⟩

end Sys2Proof.Machine

/-! PROOFS. The requests that only read (O42). -/

namespace Sys2Proof.Machine

/-! ## The due order (R48) -/

section
variable (dist : Entry → Nat)

theorem mem_insertByDistance (e x : Entry) (es : List Entry) : x ∈ insertByDistance dist e es ↔ x = e ∨ x ∈ es := by
  induction es with
  | nil => simp [insertByDistance]
  | cons y ys ih =>
    unfold insertByDistance
    split
    · exact List.mem_cons
    · rw [List.mem_cons, ih, List.mem_cons]
      exact or_left_comm

theorem mem_orderByDistance (x : Entry) (es : List Entry) : x ∈ orderByDistance dist es ↔ x ∈ es := by
  have fold (out : List Entry) : x ∈ es.foldl (fun out e => insertByDistance dist e out) out ↔ x ∈ out ∨ x ∈ es := by
    induction es generalizing out with
    | nil => simp
    | cons e es ih =>
      rw [List.foldl_cons, ih, mem_insertByDistance, List.mem_cons, or_comm (a := x = e), or_assoc]
  exact (fold []).trans (by simp)

theorem insertByDistance_ordered (e : Entry) (es : List Entry) (ordered : es.Pairwise fun a b => dist a ≤ dist b) :
    (insertByDistance dist e es).Pairwise fun a b => dist a ≤ dist b := by
  induction es with
  | nil => exact List.pairwise_singleton _ _
  | cons y ys ih =>
    obtain ⟨first, later⟩ := List.pairwise_cons.mp ordered
    unfold insertByDistance
    split
    · rename_i nearer
      refine List.pairwise_cons.mpr ⟨fun x mem => ?_, ordered⟩
      obtain rfl | mem := List.mem_cons.mp mem
      · exact Nat.le_of_lt nearer
      · exact Nat.le_trans (Nat.le_of_lt nearer) (first x mem)
    · rename_i farther
      refine List.pairwise_cons.mpr ⟨fun x mem => ?_, ih later⟩
      obtain rfl | mem := (mem_insertByDistance dist e x ys).mp mem
      · exact Nat.le_of_not_lt farther
      · exact first x mem

theorem orderByDistance_ordered (es : List Entry) : (orderByDistance dist es).Pairwise fun a b => dist a ≤ dist b := by
  have fold (out : List Entry) (ordered : out.Pairwise fun a b => dist a ≤ dist b) :
      (es.foldl (fun out e => insertByDistance dist e out) out).Pairwise fun a b => dist a ≤ dist b := by
    induction es generalizing out with
    | nil => exact ordered
    | cons e es ih => exact ih _ (insertByDistance_ordered dist e out ordered)
  exact fold [] .nil

/-- The first of an ordered list to pass a test is nearest of all that pass it. -/
theorem find?_nearest {test : Entry → Bool} {es : List Entry} (ordered : es.Pairwise fun a b => dist a ≤ dist b) {e : Entry}
    (found : es.find? test = some e) (x : Entry) (mem : x ∈ es) (passes : test x = true) : dist e ≤ dist x := by
  induction es with
  | nil => cases mem
  | cons y ys ih =>
    obtain ⟨first, later⟩ := List.pairwise_cons.mp ordered
    rw [List.find?_cons] at found
    split at found
    · obtain rfl := Option.some.inj found
      obtain rfl | mem := List.mem_cons.mp mem
      · exact Nat.le_refl _
      · exact first x mem
    · rename_i fails
      obtain rfl | mem := List.mem_cons.mp mem
      · exact absurd (passes.symm.trans fails) (by decide)
      · exact ih later found mem

end

/-- The due distance that READ_TABLE_STATUS reports is the least of the armed entries, 0 without one (R66). -/
theorem firstArmedDistance_spec (t : Timetable) :
    ((∀ e ∈ t.live, e.fields.stage ≠ .armed) → t.firstArmedDistance = 0)
    ∧ (∀ e ∈ t.live, e.fields.stage = .armed → t.firstArmedDistance ≤ (e.fields.due - t.pos).toNat)
    ∧ ((∃ e ∈ t.live, e.fields.stage = .armed) →
        ∃ e ∈ t.live, e.fields.stage = .armed ∧ t.firstArmedDistance = (e.fields.due - t.pos).toNat) := by
  have ordered := orderByDistance_ordered (fun e : Entry => distance t.pos e.fields.due) t.live
  have mem (e : Entry) : e ∈ t.dueOrder ↔ e ∈ t.live := mem_orderByDistance _ e t.live
  unfold Timetable.firstArmedDistance
  cases found : t.dueOrder.find? fun e => e.fields.stage == .armed with
  | none =>
    have unarmed (e : Entry) (live : e ∈ t.live) (armed : e.fields.stage = .armed) : False :=
      List.find?_eq_none.mp found e ((mem e).mpr live) (beq_iff_eq.mpr armed)
    exact ⟨fun _ => rfl, fun e live armed => (unarmed e live armed).elim, fun ⟨e, live, armed⟩ => (unarmed e live armed).elim⟩
  | some e =>
    have live := (mem e).mp (List.mem_of_find?_eq_some found)
    have stage : (e.fields.stage == .armed) = true := List.find?_some (p := fun e : Entry => e.fields.stage == .armed) found
    have armed : e.fields.stage = .armed := beq_iff_eq.mp stage
    refine ⟨fun none_ => absurd armed (none_ e live), fun x other is => ?_, fun _ => ⟨e, live, armed, rfl⟩⟩
    exact find?_nearest _ ordered found x ((mem x).mpr other) (beq_iff_eq.mpr is)

/-! ## The bodies -/

theorem parseGetParam_iff (body : List Byte) (id : ParamId) :
    parseGetParam body = some id ↔ ∃ i n : Byte, body = [i, n] ∧ ParamId.ofBytes i.toNat n.toNat = some id := by
  unfold parseGetParam
  constructor
  · intro h
    obtain ⟨len, known⟩ := Option.ite_none_right_eq_some.mp h
    obtain ⟨i, n, rfl⟩ := List.length_eq_two.mp len
    exact ⟨i, n, rfl, known⟩
  · rintro ⟨i, n, rfl, known⟩
    exact known

theorem parseTemplateNo_iff (body : List Byte) (n : TemplateNo) : parseTemplateNo body = some n ↔ body = [byte n.val] := by
  unfold parseTemplateNo
  constructor
  · intro h
    obtain ⟨len, number⟩ := Option.ite_none_right_eq_some.mp h
    obtain ⟨b, rfl⟩ := List.length_eq_one_iff.mp len
    obtain ⟨few, same⟩ := Option.dite_none_right_eq_some.mp number
    cases same
    exact congrArg (fun x => [x]) (byte_toNat b).symm
  · rintro rfl
    have small : n.val % 256 = n.val := Nat.mod_eq_of_lt (Nat.lt_trans n.isLt (by decide))
    have read : natAt [byte n.val] 0 = n.val := by simp [natAt, byte, small]
    refine (if_pos rfl).trans ?_
    rw [dif_pos (by rw [read]; exact n.isLt)]
    exact congrArg some (Fin.ext read)

theorem parseTemplateNo_none {body : List Byte} (outside : ∀ n : Byte, body = [n] → 32 ≤ n.toNat) :
    parseTemplateNo body = none := Option.eq_none_iff_forall_ne_some.mpr fun n h => by
  have high := outside _ ((parseTemplateNo_iff body n).mp h)
  have small : n.val % 256 = n.val := Nat.mod_eq_of_lt (Nat.lt_trans n.isLt (by decide))
  have number : (byte n.val).toNat = n.val := by simp [byte, small]
  rw [number] at high
  exact absurd n.isLt (Nat.not_lt.mpr high)

theorem parseReadLines_iff (body : List Byte) (x : LineSet) : parseReadLines body = some x
    ↔ body = be32 x ∧ 1 ≤ (linesOf x).length ∧ (linesOf x).length ≤ 7 := by
  have read (x : Word32) : word32At (be32 x) 0 = x := word32At_be32 x []
  unfold parseReadLines
  constructor
  · intro h
    obtain ⟨⟨len, few, most⟩, same⟩ := Option.ite_none_right_eq_some.mp h
    obtain rfl := Option.some.inj same
    obtain ⟨v, rest, rfl, none_⟩ := peel32 (n := 0) len
    obtain rfl := List.length_eq_zero_iff.mp none_
    rw [List.append_nil] at few most ⊢
    rw [read] at few most ⊢
    exact ⟨rfl, few, most⟩
  · rintro ⟨rfl, few, most⟩
    rw [read]
    exact if_pos ⟨rfl, few, most⟩

/-! ## The health -/

theorem causeSet_byte (c : CauseSet) : c.byte.getLsbD 0 = c.safeIn ∧ c.byte.getLsbD 1 = c.overrun
    ∧ c.byte.getLsbD 2 = c.corruptLimit ∧ c.byte.getLsbD 3 = c.recordCorrupt ∧ c.byte.toNat < 16 := by
  obtain ⟨safeIn, overrun, limit, record⟩ := c
  revert safeIn overrun limit record
  decide

/-- Settles O42: each reading by its body and the record it reads. -/
theorem readingsAnswerWithTheMoment : Obligations.ReadingsAnswerWithTheMoment := by
  unfold Obligations.ReadingsAnswerWithTheMoment
  intro s p w
  refine ⟨fun waits empty => ?_, fun waits bad => ?_, fun i n id waits body known => ?_, fun waits unknown => ?_,
    fun waits bad => ?_, fun waits empty => ?_, fun waits => ⟨fun bad => ?_, fun h body law => ⟨fun e mem named mine => ?_,
      fun others => ?_⟩⟩, fun waits => ⟨fun bad => ?_, fun empty => ?_⟩, fun waits => ⟨fun bad => ?_, fun x body few most => ?_⟩,
    fun waits => ⟨fun bad => ?_, fun n body => ⟨fun free => ?_, fun m there => ?_⟩⟩⟩
  · exact serve_kept waits _ (.ok _) (congrArg (Prod.mk s) (if_pos empty))
  · exact serve_kept waits _ (.refuse .badField) (congrArg (Prod.mk s) (if_neg bad))
  · refine serve_kept waits _ (.ok _) (congrArg (Prod.mk s) ?_)
    dsimp only
    rw [(parseGetParam_iff _ id).mpr ⟨i, n, body, known⟩]
    rfl
  · have none_ : parseGetParam w.body = none := Option.eq_none_iff_forall_ne_some.mpr fun id h => by
      obtain ⟨i, n, body, known⟩ := (parseGetParam_iff _ id).mp h
      rw [unknown i n body] at known
      cases known
    refine serve_kept waits _ (.refuse .badField) (congrArg (Prod.mk s) ?_)
    dsimp only
    rw [none_]
  · exact serve_kept waits _ (.refuse .badField) (congrArg (Prod.mk s) (if_neg bad))
  · refine ⟨s.control.later.byte, lineSetOf fun l => s.line[l].fault == .failed, lineSetOf fun l => decide (s.line[l].force ≠ .none),
      ?_, causeSet_byte _, fun l => ⟨?_, ?_⟩⟩
    · refine serve_kept waits _ (.ok _) (congrArg (Prod.mk s) ((if_pos empty).trans (congrArg Reply.ok ?_)))
      unfold healthBytes
      cases s.pinSafeIn <;> rfl
    · exact (Bool.eq_iff_iff.mp (hasLine_lineSetOf _ l)).trans beq_iff_eq
    · exact (Bool.eq_iff_iff.mp (hasLine_lineSetOf _ l)).trans decide_eq_true_iff
  · exact serve_kept waits _ (.refuse .badField) (congrArg (Prod.mk s) (if_pos bad))
  · have reads : handleAt w.body 0 = h := by rw [body]; exact handleAt_handleBytes h []
    refine serve_kept waits _ (.ok _) (congrArg (Prod.mk s) ((if_neg (by rw [body]; exact fun bad => bad rfl)).trans ?_))
    rw [reads, ← named, resolve_live law mem]
    exact if_pos mine
  · have reads : handleAt w.body 0 = h := by rw [body]; exact handleAt_handleBytes h []
    refine serve_kept waits _ (.refuse .noSuchEntry) (congrArg (Prod.mk s) ((if_neg (by rw [body]; exact fun bad => bad rfl)).trans ?_))
    rw [reads]
    cases found : s.table.resolve h with
    | none => rfl
    | some e =>
      obtain ⟨mem, named⟩ := resolve_some law found
      obtain ⟨notA, foreign⟩ := others e mem named
      exact if_neg (not_or.mpr ⟨notA, foreign⟩)
  · exact serve_kept waits _ (.refuse .badField) (congrArg (Prod.mk s) (if_neg bad))
  · refine ⟨s.table.firstArmedDistance, ?_, firstArmedDistance_spec s.table⟩
    refine serve_kept waits _ (.ok _) (congrArg (Prod.mk s) ((if_pos empty).trans (congrArg Reply.ok ?_)))
    unfold tableStatusBytes
    rw [occupied_eq]
    rfl
  · have none_ : parseReadLines w.body = none := Option.eq_none_iff_forall_ne_some.mpr fun x h => by
      obtain ⟨body, few, most⟩ := (parseReadLines_iff _ x).mp h
      obtain none_ | many := bad x body
      · omega
      · omega
    refine serve_kept waits _ (.refuse .badField) (congrArg (Prod.mk s) ?_)
    dsimp only
    rw [none_]
  · refine serve_kept waits _ (.ok _) (congrArg (Prod.mk s) ?_)
    dsimp only
    rw [(parseReadLines_iff _ x).mpr ⟨body, few, most⟩]
  · refine serve_kept waits _ (.refuse .badField) (congrArg (Prod.mk s) ?_)
    dsimp only
    rw [parseTemplateNo_none bad]
  · refine serve_kept waits _ (.refuse .noSuchTemplate) (congrArg (Prod.mk s) ?_)
    dsimp only
    rw [(parseTemplateNo_iff _ n).mpr body]
    dsimp only
    rw [free]
  · refine serve_kept waits _ (.ok _) (congrArg (Prod.mk s) ?_)
    dsimp only
    rw [(parseTemplateNo_iff _ n).mpr body]
    dsimp only
    rw [there]
    rfl

end Sys2Proof.Machine

/-! PROOFS. Hand-offs to the templates (O40). -/

namespace Sys2Proof.Machine

/-- A proposal leaves the templates as they are, or as its consultation leaves them. -/
theorem propose_templatesCut (s : State) (n : Proposal) : TemplatesCut s (s.propose n).1 := by
  obtain ⟨st, refused⟩ | ⟨st, refused⟩ | ⟨displaced, -, placed⟩ := propose_cases s n
  · rw [refused]
    exact .refl s
  · rw [refused]
    exact consult_templatesCut s n.lines
  · rw [placed]
    refine TemplatesCut.trans _ _ _ (consult_templatesCut s n.lines) (.of_templates ?_)
    rw [congrArg State.templates (placeProposal_frame (s.consult n.lines) n displaced)]

/-- A proposal placed nowhere leaves the state. -/
theorem placeProposal_refused {s : State} {n : Proposal} {displaced : List (Entry × LineSet)} {st : Status}
    (refused : (s.placeProposal n displaced).2 = .no st) : (s.placeProposal n displaced).1 = s := by
  unfold State.placeProposal at refused ⊢
  dsimp only at refused ⊢
  split
  · rfl
  · rename_i free
    rw [free] at refused
    cases refused

/-- A refused proposal whose line records agree with their codes, or that meets no running table, changes nothing. -/
theorem propose_refused_same {s : State} {n : Proposal} {st : Status} (refused : (s.propose n).2 = .no st)
    (sound : s.table.mode ≠ .run ∨ CodesMatch s n.lines) : (s.propose n).1 = s := by
  obtain shut | codes := sound
  · unfold State.propose
    rw [if_pos shut]
  · obtain ⟨st', outcome⟩ | ⟨st', outcome⟩ | ⟨displaced, -, outcome⟩ := propose_cases s n
    · rw [outcome]
    · rw [outcome, consult_ok s n.lines codes]
    · rw [outcome, consult_ok s n.lines codes] at refused ⊢
      exact placeProposal_refused refused

theorem deleteCorrupt_place (s : State) (n k : TemplateNo) (other : k ≠ n) :
    (s.deleteCorrupt n).templates.place[k] = s.templates.place[k] := by
  have place : (s.deleteCorrupt n).templates.place = s.templates.place.set n none := rfl
  rw [place]
  simp [Fin.val_ne_of_ne (Ne.symm other)]

/-- The examination of a place whose template accepts the capture and agrees with its code. -/
theorem examinePlace_sound {h : HandOff} {s : State} {n : TemplateNo} {m : Template} (there : s.templates.place[n] = some m)
    (hits : m.fields.acceptsCapture h = true) (sound : m.codeOk = true) :
    State.examinePlace h s n = s.instantiate n m.fields h := by
  unfold State.examinePlace
  simp only [there, hits, sound, if_true]

theorem examinePlace_corrupt {h : HandOff} {s : State} {n : TemplateNo} {m : Template} (there : s.templates.place[n] = some m)
    (hits : m.fields.acceptsCapture h = true) (corrupt : m.codeOk = false) :
    State.examinePlace h s n = s.deleteCorrupt n := by
  unfold State.examinePlace
  simp only [there, hits, corrupt, if_true, Bool.false_eq_true, if_false]

/-- No examination makes a place accept the capture that did not. -/
theorem examinePlace_quietElsewhere {h : HandOff} {s : State} (n : TemplateNo) {k : TemplateNo} (other : k ≠ n)
    (quiet : QuietPlace h s k) : QuietPlace h (State.examinePlace h s n) k := by
  unfold State.examinePlace
  split
  · exact quiet
  · rename_i m there
    split
    · split
      · have proposed := quiet_of_templatesCut (propose_templatesCut s (m.fields.proposal n h)) quiet
        unfold State.instantiate
        dsimp only
        split
        · exact proposed
        · intro x found
          rw [instanceFailed_place _ _ _ _ _ _ other] at found
          exact proposed x found
      · intro x found
        rw [deleteCorrupt_place _ _ _ other] at found
        exact quiet x found
    · exact quiet

/-- Settles O40: the places one after another, and with one match only its own examination. -/
theorem handOffsMakeInstances : Obligations.HandOffsMakeInstances := by
  unfold Obligations.HandOffsMakeInstances
  intro s h rest running queue r hits
  have examined := exec_captureHandOff s h rest running queue
  have quiet {k : TemplateNo} (none_ : ∀ m, s.templates.place[k] = some m → ¬hits m) : QuietPlace h r k := fun m there =>
    Bool.eq_false_iff.mpr fun accepts => none_ m there ((acceptsCapture_iff _ _).mp accepts)
  refine ⟨fun none_ => ?_, examined, fun n m there here others => ?_⟩
  · rw [examined]
    exact congrArg _ (examinePlaces_quiet h r allPlaces fun k _ => quiet (none_ k))
  · intro f due a
    have accepts : f.acceptsCapture h = true := (acceptsCapture_iff _ _).mpr here
    have before (k : TemplateNo) (other : k ≠ n) : QuietPlace h r k := quiet fun m found => others k m other found
    have only : exec .captureHandOff s = .next (State.examinePlace h r n) := by
      rw [examined]
      exact congrArg _ (examinePlaces_only h r n before fun k other => examinePlace_quietElsewhere n other (before k other))
    have proposed : r.propose (f.proposal n h) = a := rfl
    have instance_ (sound : m.codeOk = true) : State.examinePlace h r n = r.instantiate n f h :=
      examinePlace_sound there accepts sound
    refine ⟨fun corrupt => ?_, fun i d sound admitted => ?_, fun st sound refused codes => ?_⟩
    · rw [only, examinePlace_corrupt (s := r) there accepts corrupt]
      rfl
    · rw [only, instance_ sound]
      unfold State.instantiate
      rw [proposed]
      dsimp only
      rw [admitted]
    · have same : a.1 = r := propose_refused_same refused codes
      rw [only, instance_ sound]
      unfold State.instantiate
      rw [proposed]
      dsimp only
      rw [refused, same]
      unfold State.instanceFailed
      have place : r.templates.place[n] = some m := there
      rw [place]
      rfl

end Sys2Proof.Machine

/-! PROOFS. Templates defined, deleted and suspended (O41). -/

namespace Sys2Proof.Machine

theorem heldByOther_iff (p : Port) (o : Option Template) : heldByOther p o = true ↔ ∃ m, o = some m ∧ m.fields.owner ≠ p := by
  unfold heldByOther
  cases o with
  | none => simp
  | some m => simp

theorem templatesShut_iff (m : Mode) : (m ≠ .config ∧ m ≠ .run) ↔ ¬(m = .config ∨ m = .run) := by rw [not_or]

/-- The body of SET_TEMPLATE_STATE (R126). -/
theorem parseTemplateState_iff (body : List Byte) (n : TemplateNo) (active : Bool) :
    parseTemplateState body = some (n, active)
      ↔ ∃ v : Byte, body = [byte n.val, v] ∧ v.toNat ≤ 1 ∧ active = decide (v.toNat = 0) := by
  unfold parseTemplateState
  constructor
  · intro h
    obtain ⟨⟨len, small⟩, number⟩ := Option.ite_none_right_eq_some.mp h
    obtain ⟨b, v, rfl⟩ := List.length_eq_two.mp len
    obtain ⟨few, same⟩ := Option.dite_none_right_eq_some.mp number
    cases same
    exact ⟨v, congrArg (fun x => [x, v]) (byte_toNat b).symm, small, rfl⟩
  · rintro ⟨v, rfl, small, rfl⟩
    have few : n.val % 256 = n.val := Nat.mod_eq_of_lt (Nat.lt_trans n.isLt (by decide))
    have read : natAt [byte n.val, v] 0 = n.val := by simp [natAt, byte, few]
    refine (if_pos ⟨rfl, small⟩).trans ?_
    rw [dif_pos (by rw [read]; exact n.isLt)]
    exact congrArg (fun k => some (k, decide (v.toNat = 0))) (Fin.ext read)

/-! ## DEFINE_TEMPLATE (R123, R124) -/

section
variable {p : Port} {body : List Byte} {s : State} {b : TemplateBody} (open_ : s.templates.mode = .config ∨ s.templates.mode = .run)
  (parsed : parseTemplate body = some b)
include open_ parsed

theorem defineRequest_heldByOther (other : ∃ m, s.templates.place[b.num] = some m ∧ m.fields.owner ≠ p) :
    defineRequest p body s = (s, .refuse .heldByOther) := by
  unfold defineRequest
  rw [if_neg fun shut => (templatesShut_iff _).mp shut open_, parsed]
  dsimp only
  rw [if_pos ((heldByOther_iff ..).mpr other)]

variable (free : ¬∃ m, s.templates.place[b.num] = some m ∧ m.fields.owner ≠ p) (codes : CodesMatch s b.lines)
include free codes

theorem defineRequest_notLeased {l : LineNo} (lowest : IsLowest b.lines (fun l => !(s.line[l]).heldBy p) l) :
    defineRequest p body s = (s, { status := .notLeased, body := [byte l.val] }) := by
  have same := consult_ok s b.lines codes
  have own (m : Template) (there : s.templates.place[b.num] = some m) : m.fields.owner = p :=
    Classical.byContradiction fun other => free ⟨m, there, other⟩
  have refused := defineRequest_unleased p body s b l open_ parsed own (by rw [same]; exact lowest)
  rw [same] at refused
  exact refused

variable (leases : AllLeased s p b.lines)
include leases

theorem defineRequest_lineFailed {l : LineNo}
    (lowest : IsLowest b.lines (fun l => decide ((s.line[l]).fault = .failed)) l) :
    defineRequest p body s = (s, { status := .lineFailed, body := [byte l.val] }) := by
  have first : s.firstFailed b.lines = some l := find?_lowest _ _ _ lowest
  unfold defineRequest
  rw [if_neg fun shut => (templatesShut_iff _).mp shut open_, parsed]
  dsimp only
  rw [if_neg fun held => free ((heldByOther_iff ..).mp held), consult_ok s b.lines codes]
  simp only [firstUnleased_none leases, first]

theorem defineRequest_defined (sound : ∀ l : LineNo, hasLine b.lines l = true → (s.line[l]).fault = .ok) :
    defineRequest p body s = (s.setPlace b.num (some (b.template p)),
      Reply.ok [byte b.num.val, flagByte (s.templates.place[b.num]).isSome]) := by
  have none_failed : s.firstFailed b.lines = none := find?_linesOf_none _ _ fun l named => by rw [sound l named]; rfl
  unfold defineRequest
  rw [if_neg fun shut => (templatesShut_iff _).mp shut open_, parsed]
  dsimp only
  rw [if_neg fun held => free ((heldByOther_iff ..).mp held), consult_ok s b.lines codes]
  simp only [firstUnleased_none leases, none_failed]

end

/-- Settles O41: the three requests by their checks. -/
theorem templatesAreDefinedDeletedAndSuspended : Obligations.TemplatesAreDefinedDeletedAndSuspended := by
  unfold Obligations.TemplatesAreDefinedDeletedAndSuspended
  intro s p w open_ put other
  refine ⟨fun waits => ⟨fun shut => ?_, fun opened bad => ?_, fun b opened parsed => ⟨fun held => ?_, fun free codes =>
      ⟨fun l lowest => ?_, fun l leases lowest => ?_, fun leases sound => ?_⟩⟩⟩,
    fun waits => ⟨fun bad => ?_, fun n body => ⟨fun none_ => ?_, fun held => ?_, fun m there own => ?_⟩⟩,
    fun waits => ⟨fun bad => ?_, fun n v body range => ?_⟩⟩
  · exact serve_kept waits _ (.refuse .wrongMode) (if_pos ((templatesShut_iff _).mpr shut))
  · refine serve_kept waits _ (.refuse .badField) ?_
    unfold defineRequest
    rw [if_neg fun shut => (templatesShut_iff _).mp shut opened, bad]
  · exact serve_kept waits _ (.refuse .heldByOther) (defineRequest_heldByOther opened parsed held)
  · exact serve_kept waits _ _ (defineRequest_notLeased opened parsed free codes lowest)
  · exact serve_kept waits _ _ (defineRequest_lineFailed opened parsed free codes leases lowest)
  · intro f
    refine serve_unnoticed waits (defineRequest p) _ (.ok _)
      ((defineRequest_defined opened parsed free codes leases sound).trans (Prod.ext rfl (congrArg Reply.ok ?_))) rfl
    cases s.templates.place[b.num] <;> rfl
  · refine serve_kept waits _ (.refuse .badField) ?_
    unfold deleteRequest
    rw [parseTemplateNo_none bad]
  · refine serve_kept waits _ (.refuse .noSuchTemplate) ?_
    unfold deleteRequest
    rw [(parseTemplateNo_iff _ n).mpr body]
    dsimp only
    rw [none_]
  · obtain ⟨m, there, foreign⟩ := held
    refine serve_kept waits _ (.refuse .heldByOther) ?_
    unfold deleteRequest
    rw [(parseTemplateNo_iff _ n).mpr body]
    dsimp only
    rw [there]
    exact if_pos foreign
  · refine serve_unnoticed waits (deleteRequest p) (s.setPlace n none) (.ok _) ?_ rfl
    unfold deleteRequest
    rw [(parseTemplateNo_iff _ n).mpr body]
    dsimp only
    rw [there]
    exact if_neg (not_not_intro own)
  · have none_ : parseTemplateState w.body = none := Option.eq_none_iff_forall_ne_some.mpr fun x h => by
      obtain ⟨v, body, small, -⟩ := (parseTemplateState_iff _ x.1 x.2).mp h
      have number : (byte x.1.val).toNat = x.1.val := by
        simp [byte, Nat.mod_eq_of_lt (Nat.lt_trans x.1.isLt (by decide : 32 < 256))]
      obtain high | high := bad _ v body
      · rw [number] at high
        exact absurd x.1.isLt (Nat.not_lt.mpr high)
      · omega
    refine serve_kept waits _ (.refuse .badField) ?_
    unfold templateStateRequest
    rw [none_]
  · have asked : decide (v.toNat = 0) = (v == 0) := by
      rw [Bool.beq_eq_decide_eq]
      exact decide_eq_decide.mpr ⟨fun h => BitVec.eq_of_toNat_eq h, fun h => by rw [h]; rfl⟩
    have small : v.toNat ≤ 1 := by
      obtain rfl | rfl := range
      · exact Nat.zero_le _
      · exact Nat.le_refl _
    have parsed : parseTemplateState w.body = some (n, v == 0) :=
      (parseTemplateState_iff ..).mpr ⟨v, body, small, asked.symm⟩
    refine ⟨fun active shut => ?_, fun taken => ?_⟩
    · refine serve_kept waits _ (.refuse .wrongMode) ?_
      unfold templateStateRequest
      rw [parsed]
      exact if_pos ⟨beq_iff_eq.mpr active, (templatesShut_iff _).mpr shut⟩
    · have opens : ¬((v == 0) = true ∧ s.templates.mode ≠ .config ∧ s.templates.mode ≠ .run) := by
        rintro ⟨active, shut⟩
        obtain rfl | opened := taken
        · exact absurd active (by decide)
        · exact (templatesShut_iff _).mp shut opened
      refine ⟨fun none_ => ?_, fun ⟨m, there, foreign⟩ => ?_, fun m there own => ?_⟩
      · refine serve_kept waits _ (.refuse .noSuchTemplate) ?_
        unfold templateStateRequest
        rw [parsed]
        dsimp only
        rw [if_neg opens, none_]
      · refine serve_kept waits _ (.refuse .heldByOther) ?_
        unfold templateStateRequest
        rw [parsed]
        dsimp only
        rw [if_neg opens, there]
        exact if_pos foreign
      · intro f
        refine serve_unnoticed waits (templateStateRequest p) (put n (some { fields := f, code := f })) (.ok _) ?_ rfl
        unfold templateStateRequest
        rw [parsed]
        dsimp only
        rw [if_neg opens, there]
        dsimp only
        rw [if_neg (not_not_intro own)]
        refine Prod.ext rfl (congrArg Reply.ok ?_)
        cases m.fields.active <;> rfl

end Sys2Proof.Machine

/-! PROOFS. LEAD commits at a step and at a write of COMMIT_LEAD (O29). -/

namespace Sys2Proof.Machine

/-! ## What a slot that stays occupied keeps -/

/-- Every slot of port `p` occupied in the second state was occupied in the first, with the same content but its lines. -/
def SlotsStay (p : Port) (s t : State) : Prop := ∀ (i : Fin 4) c, (t.slots.get p).slot[i] = some c →
  ∃ b, (s.slots.get p).slot[i] = some b ∧ c = { b with lines := c.lines }

section
variable (p : Port)

theorem SlotsStay.refl (s : State) : SlotsStay p s s := fun _ c h => ⟨c, h, rfl⟩

theorem SlotsStay.trans (s t u : State) (h : SlotsStay p s t) (k : SlotsStay p t u) : SlotsStay p s u := fun i c there => by
  obtain ⟨b, before, same⟩ := k i c there
  obtain ⟨a, first, fields⟩ := h i b before
  exact ⟨a, first, by rw [same, fields]⟩

variable {p}

theorem SlotsStay.of_slots {s t : State} (same : t.slots = s.slots) : SlotsStay p s t := fun _ c h => ⟨c, same ▸ h, rfl⟩

variable (p)

theorem cut_slotsStay (s : State) (q : Port) (x : LineSet) : SlotsStay p s (s.cut q x) := by
  intro i c there
  by_cases own : p = q
  · subst own
    have after : (s.cut p x).slots.get p = Slots.cut x (s.slots.get p) := PerPort.get_set_same ..
    rw [after, cut_slot] at there
    exact cutSlot_fields there
  · have after : (s.cut q x).slots.get p = s.slots.get p := PerPort.get_set_other _ _ _ _ own
    rw [after] at there
    exact ⟨c, there, rfl⟩

theorem consult_slotsStay (s : State) (x : LineSet) : SlotsStay p s (s.consult x) := by
  have cuts : SlotsStay p s (s.cutLines (s.mismatched (linesOf x))) :=
    foldl_keeps (SlotsStay p) _ (SlotsStay.refl p) (SlotsStay.trans p) (fun u l =>
      foldl_keeps (SlotsStay p) _ (SlotsStay.refl p) (SlotsStay.trans p) (fun u q => cut_slotsStay p u q (singleLine l)) _ u) _ s
  exact SlotsStay.trans p _ _ _ cuts (.of_slots (by rw [(consult_verified s x).frame]; rfl))

theorem propose_slotsStay (s : State) (n : Proposal) : SlotsStay p s (s.propose n).1 := by
  obtain same | consulted := propose_slots s n
  · exact .of_slots same
  · exact SlotsStay.trans p _ _ _ (consult_slotsStay p s n.lines) (.of_slots consulted)

theorem commitSlot_slotsStay (s : State) (reason : CommitReason) (i : Fin 4) : SlotsStay p s (s.commitSlot p reason i).1 := by
  cases content : (s.slots.get p).slot[i] with
  | none =>
    rw [commitSlot_empty s p reason i content]
    exact .refl p s
  | some c =>
    rw [commitSlot_occupied s p reason i c content]
    refine SlotsStay.trans p _ _ _ (fun j d there => ?_) (propose_slotsStay p _ (c.proposal p))
    rw [State.setSlots_slots, PerPort.get_set_same, emptied_slot] at there
    split at there
    · cases there
    · exact ⟨d, there, rfl⟩

theorem commitSlots_slotsStay (s : State) (reason : CommitReason) (is : List (Fin 4)) :
    SlotsStay p s (s.commitSlots p reason is).1 := by
  induction is generalizing s with
  | nil => exact .refl p s
  | cons i rest ih => exact SlotsStay.trans p _ _ _ (commitSlot_slotsStay p s reason i) (ih _)

/-! ## Commits whose line records agree with their codes -/

/-- With matching codes a proposal leaves the line records. -/
theorem propose_line_of_codesMatch (s : State) (n : Proposal) (codes : CodesMatch s n.lines) : (s.propose n).1.line = s.line := by
  obtain ⟨st, refused⟩ | ⟨st, refused⟩ | ⟨displaced, -, placed⟩ := propose_cases s n
  · rw [refused]
  · rw [refused, consult_ok s n.lines codes]
  · rw [placed, consult_ok s n.lines codes, congrArg State.line (placeProposal_frame s n displaced)]

/-- Every occupied slot's lines agree with their codes. -/
def SlotsMatch (p : Port) (s : State) : Prop := ∀ (i : Fin 4) c, (s.slots.get p).slot[i] = some c → CodesMatch s c.lines

/-- With matching codes a commit leaves every other slot and the line records as they are. -/
theorem commitSlot_others {s : State} (reason : CommitReason) (i : Fin 4) (codes : SlotsMatch p s) :
    SlotsMatch p (s.commitSlot p reason i).1
    ∧ ∀ j, j ≠ i → ((s.commitSlot p reason i).1.slots.get p).slot[j] = (s.slots.get p).slot[j] := by
  cases content : (s.slots.get p).slot[i] with
  | none =>
    rw [commitSlot_empty s p reason i content]
    exact ⟨codes, fun _ _ => rfl⟩
  | some c =>
    have slots := commitSlot_slots_of_codesMatch s p reason i c content (codes i c content)
    have line : (s.commitSlot p reason i).1.line = s.line := by
      rw [commitSlot_occupied s p reason i c content]
      exact propose_line_of_codesMatch (s.setSlots p ((s.slots.get p).empty i)) (c.proposal p) (codes i c content)
    refine ⟨fun j d there => ?_, fun j other => ?_⟩
    · unfold CodesMatch
      rw [line]
      rw [slots, emptied_slot] at there
      split at there
      · cases there
      · exact codes j d there
    · rw [slots, emptied_slot, if_neg (Ne.symm other)]

theorem commitSlots_others {s : State} (reason : CommitReason) (is : List (Fin 4)) (codes : SlotsMatch p s) (j : Fin 4)
    (other : j ∉ is) : ((s.commitSlots p reason is).1.slots.get p).slot[j] = (s.slots.get p).slot[j] := by
  induction is generalizing s with
  | nil => rfl
  | cons i rest ih =>
    obtain ⟨apart, other⟩ := not_or.mp (fun h => other (List.mem_cons.mpr h))
    obtain ⟨codes, first⟩ := commitSlot_others p reason i codes
    exact (ih codes other).trans (first j apart)

/-! ## The outcomes posted (R84) -/

theorem foldl_notify_eq {α : Type} (src : NoticeSource) (notice : α → Notice) (xs : List α) (s : State) :
    xs.foldl (fun t x => t.notify src p (notice x)) s = { s with wires := { s.wires with
      notices := s.wires.notices.set p (s.wires.notices.get p ++
        xs.map fun x => { source := src, own := false, notice := notice x }) } } := by
  induction xs generalizing s with
  | nil => rw [List.map_nil, List.append_nil, PerPort.set_get_self]; rfl
  | cons x xs ih =>
    rw [List.foldl_cons, ih]
    have told : (s.notify src p (notice x)).wires.notices
        = s.wires.notices.set p (s.wires.notices.get p ++ [{ source := src, own := false, notice := notice x }]) := rfl
    rw [told, PerPort.get_set_same, PerPort.set_set, List.append_assoc]
    rfl

/-! ## LEAD commits (R82 to R84) -/

theorem withinLead_eq (x : Slots) (i : Fin 4) :
    x.withinLead i = (x.slot[i]).elim false fun c => decide ((c.due - x.pos).toNat ≤ x.lead) := by
  unfold Slots.withinLead
  cases x.slot[i] <;> rfl

/-- The slots that a LEAD commit takes, oldest first. -/
def Slots.leadSlots (x : Slots) : List (Fin 4) :=
  x.age.filter fun i => (x.slot[i]).elim false fun c => decide ((c.due - x.pos).toNat ≤ x.lead)

theorem leadCommits_eq (s : State) : s.leadCommits p = { (s.commitSlots p .lead (s.slots.get p).leadSlots).1 with
    wires := { (s.commitSlots p .lead (s.slots.get p).leadSlots).1.wires with
      notices := (s.commitSlots p .lead (s.slots.get p).leadSlots).1.wires.notices.set p
        ((s.commitSlots p .lead (s.slots.get p).leadSlots).1.wires.notices.get p ++
          (s.commitSlots p .lead (s.slots.get p).leadSlots).2.map fun o =>
            { source := .slots, own := false, notice := o.leadNotice }) } } := by
  have taken : (s.slots.get p).age.filter (s.slots.get p).withinLead = (s.slots.get p).leadSlots :=
    List.filter_congr fun i _ => withinLead_eq _ i
  have unfolded : s.leadCommits p = (s.commitSlots p .lead ((s.slots.get p).age.filter (s.slots.get p).withinLead)).2.foldl
      (fun t o => t.notify .slots p o.leadNotice)
      (s.commitSlots p .lead ((s.slots.get p).age.filter (s.slots.get p).withinLead)).1 := rfl
  rw [unfolded, taken]
  exact foldl_notify_eq p .slots CommitOutcome.leadNotice _ _

theorem leadCommits_slots (s : State) :
    (s.leadCommits p).slots = (s.commitSlots p .lead (s.slots.get p).leadSlots).1.slots := by rw [leadCommits_eq]

variable {p}

theorem mem_leadSlots {x : Slots} (law : SlotsLaw x) {i : Fin 4} {c : SlotContent} (there : x.slot[i] = some c) :
    i ∈ x.leadSlots ↔ (c.due - x.pos).toNat ≤ x.lead := by
  obtain ⟨-, listed, -⟩ := law
  unfold Slots.leadSlots
  rw [List.mem_filter, there, listed i, there]
  simp

/-- After a LEAD commit every slot stands beyond the lead. -/
theorem leadCommits_beyond {s : State} (law : SlotsLaw (s.slots.get p)) (i : Fin 4) (c : SlotContent)
    (there : ((s.leadCommits p).slots.get p).slot[i] = some c) :
    (s.slots.get p).lead < (c.due - (s.slots.get p).pos).toNat := by
  rw [leadCommits_slots] at there
  obtain ⟨b, before, same⟩ := commitSlots_slotsStay p s .lead _ i c there
  have due : c.due = b.due := by rw [same]
  refine Nat.lt_of_not_le fun near => ?_
  have gone := commitSlots_slot s p .lead (s.slots.get p).leadSlots i (.inl ((mem_leadSlots law before).mpr (due ▸ near)))
  rw [gone] at there
  cases there

theorem leadCommits_kept {s : State} (law : SlotsLaw (s.slots.get p)) (codes : SlotsMatch p s) (i : Fin 4) (c : SlotContent)
    (there : (s.slots.get p).slot[i] = some c) (far : (s.slots.get p).lead < (c.due - (s.slots.get p).pos).toNat) :
    ((s.leadCommits p).slots.get p).slot[i] = some c := by
  rw [leadCommits_slots, commitSlots_others p .lead _ codes i fun near =>
    absurd ((mem_leadSlots law there).mp near) (Nat.not_le.mpr far)]
  exact there

theorem leadCommits_none {s : State} (law : SlotsLaw (s.slots.get p)) (far : ∀ (i : Fin 4) c, (s.slots.get p).slot[i] = some c →
    (s.slots.get p).lead < (c.due - (s.slots.get p).pos).toNat) : s.leadCommits p = s := by
  have none_ : (s.slots.get p).leadSlots = [] := List.eq_nil_iff_forall_not_mem.mpr fun i mem => by
    have occupied := (law.2.1 i).mp (List.mem_of_mem_filter mem)
    obtain ⟨c, there⟩ := Option.isSome_iff_exists.mp occupied
    exact absurd ((mem_leadSlots law there).mp mem) (Nat.not_le.mpr (far i c there))
  rw [leadCommits_eq, none_]
  have same : s.wires.notices.set p (s.wires.notices.get p ++ []) = s.wires.notices := by
    rw [List.append_nil, PerPort.set_get_self]
  exact congrArg (fun v => ({ s with wires := { s.wires with notices := v } } : State)) same

end

/-- Settles O29: a step and a write each move the port's slots and then commit by LEAD. -/
theorem leadCommitsTheSlotsWithinIt : Obligations.LeadCommitsTheSlotsWithinIt := by
  unfold Obligations.LeadCommitsTheSlotsWithinIt
  intro s p running law x lead
  have commits (r : State) (y : Slots) (is : r.slots.get p = y) (lines : r.line = s.line) (law : SlotsLaw y) :
      lead r (r.leadCommits p) := by
    subst is
    refine ⟨fun i c => leadCommits_beyond law i c, fun codes i c => leadCommits_kept law (fun j d there => ?_) i c,
      leadCommits_none law, leadCommits_eq p r⟩
    unfold CodesMatch
    rw [lines]
    exact codes j d there
  refine ⟨fun pos asks rest queue => ?_, fun v q old => ?_, fun no => ?_⟩
  · refine ⟨_, ?_, commits { s with
      slots := s.slots.set p { x with pos := pos }
      wires := { s.wires with slotsMotion := s.wires.slotsMotion.set p rest } } { x with pos := pos }
        (PerPort.get_set_same ..) rfl law⟩
    simp only [exec, execStepAtSlots, whenRunning_running _ s running, queue]
    rfl
  · let r : State := { s with
      slots := s.slots.set p { x with lead := v }
      wires := { s.wires with toSlots := s.wires.toSlots.set p q } }
    refine ⟨if x.mode = .run then r.leadCommits p else r, ?_, fun run => ?_, fun other => if_neg other⟩
    · simp only [exec, execWriteCommitLead, whenRunning_running _ s running]
      rw [takeWrite_oldest (h := old)]
      · rfl
      · intro u v
        cases u <;> simp
    · rw [if_pos run]
      exact commits r { x with lead := v } (PerPort.get_set_same ..) rfl law
  · simp only [exec, execWriteCommitLead, whenRunning_running _ s running]
    rw [takeWrite_noOldest (h := no)]
    intro u v
    cases u <;> simp

end Sys2Proof.Machine

/-! PROOFS. What the defaults and the fires of a forward step do, entry by entry (for O18 and O19). -/

namespace Sys2Proof.Machine

/-! ## Entries changed in their places, one after another (R45, R51) -/

/-- What is left of an entry when those that a test hits are each left as `left` says. -/
def leftOf (hit : Entry → Bool) (left : Entry → Option Entry) (e : Entry) : Option Entry :=
  if hit e then left e else some e

/-- A step on the entry `e` of a table with distinct indices leaves of it what `left` says, and counts that count. -/
structure LeavesOf (left : Entry → Option Entry) (e : Entry) (s t : State) : Prop where
  live : ∀ {before after}, s.table.live = before ++ e :: after → ((before ++ e :: after).map Entry.index).Nodup →
    t.table.live = before ++ ((left e).toList ++ after)
  counted : ∀ {before after}, s.table.live = before ++ e :: after → ((before ++ e :: after).map Entry.index).Nodup →
    s.liveCounted → t.liveCounted

/-- With the entries before `rest` dealt with, the steps on those of `rest` that the test hits change each in its place, and
counts that count go on counting. -/
theorem foldl_leavesOf {hit : Entry → Bool} {left : Entry → Option Entry} {f : State → Entry → State}
    (index : ∀ e x, left e = some x → x.index = e.index) (step : ∀ s e, hit e = true → LeavesOf left e s (f s e))
    (rest before : List Entry) (s : State) (split : s.table.live = before ++ rest)
    (distinct : ((before ++ rest).map Entry.index).Nodup) (counted : s.liveCounted) :
    ((rest.filter hit).foldl f s).table.live = before ++ rest.filterMap (leftOf hit left)
    ∧ ((rest.filter hit).foldl f s).liveCounted := by
  induction rest generalizing before s with
  | nil => exact ⟨split, counted⟩
  | cons e rest ih =>
    cases matched : hit e with
    | false =>
      have stays : leftOf hit left e = some e := by simp [leftOf, matched]
      rw [List.filter_cons_of_neg (by simp [matched]), List.filterMap_cons_some stays, List.append_cons]
      exact ih (before ++ [e]) s (by rw [split, List.append_cons]) (by rwa [← List.append_cons]) counted
    | true =>
      have leaves : (e :: rest).filterMap (leftOf hit left) = (left e).toList ++ rest.filterMap (leftOf hit left) := by
        cases out : left e <;> simp [leftOf, matched, out]
      have places : ((left e).toList.map Entry.index).Sublist [e.index] := by
        cases out : left e with
        | none => simp
        | some x => simp [index e x out]
      rw [List.filter_cons_of_pos matched, List.foldl_cons, leaves, ← List.append_assoc]
      refine ih (before ++ (left e).toList) (f s e) ?live ?distinct ((step s e matched).counted split distinct counted)
      case live => rw [(step s e matched).live split distinct, List.append_assoc]
      case distinct =>
        refine distinct.sublist ?_
        simp only [List.map_append, List.map_cons, List.append_assoc]
        exact (places.append (List.Sublist.refl _)).append_left _

/-! ## Defaults (R60) -/

/-- What a default leaves of a HELD entry: it is armed, or dropped. -/
def defaultLeaves (e : Entry) : Option Entry :=
  match e.fields.stage with
  | .armed => some e
  | .held _ .fire => some e.arm
  | .held _ .drop => none

theorem defaultLeaves_index (e x : Entry) (h : defaultLeaves e = some x) : x.index = e.index := by
  unfold defaultLeaves at h
  split at h
  · cases h; rfl
  · cases h; rfl
  · cases h

theorem applyDefault_leaves (s : State) (e : Entry) : LeavesOf defaultLeaves e s (s.applyDefault e) := by
  cases stage : e.fields.stage with
  | armed =>
    have stays : defaultLeaves e = some e := by simp [defaultLeaves, stage]
    have same : s.applyDefault e = s := by simp [State.applyDefault, stage]
    rw [same]
    exact ⟨fun split _ => by rw [stays]; exact split, fun _ _ counted => counted⟩
  | held d dflt =>
    cases dflt with
    | fire =>
      have armed : defaultLeaves e = some e.arm := by simp [defaultLeaves, stage]
      have put : (s.applyDefault e).table = (s.putEntry e.arm).table := by
        unfold State.applyDefault
        rw [stage]
        rfl
      refine ⟨fun split distinct => ?_, fun split distinct counted => ?_⟩
      · rw [put, armed]
        exact putEntry_live split distinct e.arm rfl
      · unfold State.liveCounted
        rw [put]
        exact putEntry_liveCounted split distinct e.arm rfl rfl counted
    | drop =>
      have dropped : defaultLeaves e = none := by simp [defaultLeaves, stage]
      have removed : (s.applyDefault e).table = (s.removeEntry e).table := by
        unfold State.applyDefault
        rw [stage]
        rfl
      refine ⟨fun split distinct => ?_, fun split distinct counted => ?_⟩
      · rw [removed, dropped]
        exact removeEntry_live split distinct
      · unfold State.liveCounted
        rw [removed]
        exact removeEntry_liveCounted split distinct counted

/-- A default changes the entries with their counts and tells the owner. -/
theorem applyDefault_frame (s : State) (e : Entry) : ∃ v, s.applyDefault e = { s with
      table := { s.table with live := (s.applyDefault e).table.live, liveCount := (s.applyDefault e).table.liveCount }
      wires := { s.wires with notices := v } }
    ∧ ∀ p, v.get p = s.wires.notices.get p ++ decisionTold p e := by
  unfold State.applyDefault decisionTold
  cases e.fields.stage with
  | armed => exact ⟨s.wires.notices, rfl, fun p => (List.append_nil _).symm⟩
  | held d dflt =>
    have told (n : Notice) (p : Port) : (s.wires.notices.set e.fields.owner (s.wires.notices.get e.fields.owner
          ++ [timetablePosted n])).get p
        = s.wires.notices.get p ++ if e.fields.owner = p then [timetablePosted n] else [] := by
      rw [PerPort.get_set]
      by_cases own : p = e.fields.owner
      · subst own; simp
      · simp [own, Ne.symm own]
    cases dflt with
    | fire => exact ⟨_, rfl, told _⟩
    | drop => exact ⟨_, rfl, told _⟩

theorem applyDefaults_frame (es : List Entry) (s : State) : ∃ v, es.foldl State.applyDefault s = { s with
      table := { s.table with
        live := (es.foldl State.applyDefault s).table.live, liveCount := (es.foldl State.applyDefault s).table.liveCount }
      wires := { s.wires with notices := v } }
    ∧ ∀ p, v.get p = s.wires.notices.get p ++ es.flatMap (decisionTold p) := by
  induction es generalizing s with
  | nil => exact ⟨s.wires.notices, rfl, fun p => (List.append_nil _).symm⟩
  | cons e es ih =>
    obtain ⟨v, first, told⟩ := applyDefault_frame s e
    obtain ⟨w, rest, more⟩ := ih (s.applyDefault e)
    refine ⟨w, ?_, fun p => ?_⟩
    · rw [List.foldl_cons]
      generalize es.foldl State.applyDefault (s.applyDefault e) = u at rest ⊢
      generalize s.applyDefault e = t at first rest
      rw [rest, first]
    · rw [more p, List.flatMap_cons, ← List.append_assoc, ← told p]
      generalize s.applyDefault e = t at first ⊢
      rw [first]

/-! ## One entry fires (R57, R89, R100 to R102) -/

/-- An action reaches a line as R32 and R89 say. -/
theorem deliver_eq (s : State) (a : LineAction) (l : LineNo) : s.deliver a l
    = ({ s with line := s.line.set l (actedOn s.now a s.line[l]) }, lineOutcome s.now a s.line[l]) := by
  unfold State.deliver actedOn lineOutcome
  by_cases forced : (s.line[l]).force ≠ .none
  · have same : s.line.set l s.line[l] = s.line := by simp
    rw [if_pos forced, if_pos forced, if_pos forced, same]
  · rw [if_neg forced, if_neg forced, if_neg forced]
    rfl

/-- The lines of a list after an action. -/
def linesOfActed (now : Word32) (a : LineAction) (ls : List LineNo) (v : Vector LineRec 32) : Vector LineRec 32 :=
  Vector.ofFn fun l => if l ∈ ls then actedOn now a v[l] else v[l]

theorem linesOfActed_get (now : Word32) (a : LineAction) (ls : List LineNo) (v : Vector LineRec 32) (l : LineNo) :
    (linesOfActed now a ls v)[l] = if l ∈ ls then actedOn now a v[l] else v[l] := by simp [linesOfActed]

theorem lineVector_ext {v w : Vector LineRec 32} (h : ∀ l : LineNo, v[l] = w[l]) : v = w :=
  Vector.ext fun i hi => h ⟨i, hi⟩

theorem deliverAll_eq (a : LineAction) (ls : List LineNo) (once : ls.Nodup) (s : State) : s.deliverAll a ls
    = ({ s with line := linesOfActed s.now a ls s.line }, ls.map fun l => (l, lineOutcome s.now a s.line[l])) := by
  induction ls generalizing s with
  | nil =>
    have same : linesOfActed s.now a [] s.line = s.line := lineVector_ext fun l =>
      (linesOfActed_get ..).trans (if_neg List.not_mem_nil)
    rw [same]
    rfl
  | cons l ls ih =>
    obtain ⟨fresh, once⟩ := List.nodup_cons.mp once
    have others (m : LineNo) (mem : m ∈ ls) : (s.line.set l (actedOn s.now a s.line[l]))[m] = s.line[m] :=
      set_other _ _ fun same => fresh (same ▸ mem)
    have unfolded : s.deliverAll a (l :: ls)
        = (((s.deliver a l).1.deliverAll a ls).1, (l, (s.deliver a l).2) :: ((s.deliver a l).1.deliverAll a ls).2) := rfl
    rw [unfolded, deliver_eq, ih once]
    refine Prod.ext ?_ ?_
    · refine congrArg (fun v => ({ s with line := v } : State)) (lineVector_ext fun m => ?_)
      rw [linesOfActed_get, linesOfActed_get]
      dsimp only
      by_cases here : m = l
      · subst here
        rw [if_neg fresh, if_pos (List.mem_cons_self ..), set_same]
      · rw [set_other _ _ here]
        simp only [List.mem_cons, here, false_or]
    · exact congrArg (List.cons _) (List.map_congr_left fun m mem => by dsimp only; rw [others m mem])

/-- A line is suppressed exactly where it is forced (R32, R89). -/
theorem lineOutcome_suppressed (now : Word32) (a : LineAction) (r : LineRec) :
    (lineOutcome now a r == .suppressed) = decide (r.force ≠ .none) := by
  unfold lineOutcome
  by_cases forced : r.force ≠ .none
  · rw [if_pos forced, decide_eq_true forced]
    rfl
  · rw [if_neg forced, decide_eq_false forced]
    exact beq_eq_false_iff_ne.mpr (outcome_ne_suppressed _)

theorem flagNat_hasOutcome (o : LineOutcome) (ls : List LineNo) (g : LineNo → LineOutcome) (k : Nat) :
    k * flagNat (hasOutcome o (ls.map fun l => (l, g l))) = if o ∈ ls.map g then k else 0 := by
  have same : hasOutcome o (ls.map fun l => (l, g l)) = decide (o ∈ ls.map g) := by
    rw [Bool.eq_iff_iff, decide_eq_true_iff]
    simp only [hasOutcome, List.any_map, List.any_eq_true, List.mem_map, Function.comp_apply, beq_iff_eq]
  rw [same]
  by_cases mem : o ∈ ls.map g
  · rw [decide_eq_true mem, if_pos mem]
    exact Nat.mul_one k
  · rw [decide_eq_false mem, if_neg mem]
    exact Nat.mul_zero k

/-- A notice appended to those on their way to one port. -/
theorem notices_append (v : PerPort (List PostedNotice)) (p q : Port) (ns : List PostedNotice) :
    (v.set q (v.get q ++ ns)).get p = v.get p ++ if q = p then ns else [] := by
  rw [PerPort.get_set]
  by_cases own : p = q
  · subst own; simp
  · simp [own, Ne.symm own]

section
variable (s : State) (now : Word32) (f : EntryFields) (v : Vector LineRec 32)

/-- What an action came to on each line of an entry. -/
def firedOutcomes : List (LineNo × LineOutcome) := (linesOf f.lines).map fun l => (l, lineOutcome now f.action v[l])

/-- FIRED as a fire posts it (R100, R101). -/
def firedTold : List PostedNotice :=
  if f.report then [timetablePosted { entryTold .fired f with
    reason := some (outcomeSet (firedOutcomes now f v)), count := some (firedOutcomes now f v).length }] else []

/-- FIRE_SUPPRESSED as a fire posts it (R102). -/
def suppressedTold : List PostedNotice :=
  if ((linesOf f.lines).filter fun l => decide ((v[l]).force ≠ .none)) = [] then [] else
    [timetablePosted { entryTold .fireSuppressed f with
      line := ((linesOf f.lines).filter fun l => decide ((v[l]).force ≠ .none)).head?
      count := some ((linesOf f.lines).filter fun l => decide ((v[l]).force ≠ .none)).length }]

theorem fireTold_eq : fireTold now f v = firedTold now f v ++ suppressedTold f v := by
  have set (o : LineOutcome) (k : Nat) : k * flagNat (hasOutcome o (firedOutcomes now f v))
      = if o ∈ (linesOf f.lines).map (fun l => lineOutcome now f.action v[l]) then k else 0 := flagNat_hasOutcome ..
  unfold fireTold firedTold suppressedTold outcomeSet
  rw [← Nat.one_mul (flagNat (hasOutcome .applied _)), set, set, set]
  unfold firedOutcomes
  dsimp only
  rw [List.length_map, List.length_map]

/-- The state with more notices on their way to one port. -/
def State.told (t : State) (p : Port) (ns : List PostedNotice) : State :=
  { t with wires := { t.wires with notices := t.wires.notices.set p (t.wires.notices.get p ++ ns) } }

theorem told_nil (p : Port) : s.told p [] = s := by
  unfold State.told
  rw [List.append_nil, PerPort.set_get_self]

theorem told_told (p : Port) (ns ms : List PostedNotice) : (s.told p ns).told p ms = s.told p (ns ++ ms) := by
  unfold State.told
  rw [PerPort.get_set_same, PerPort.set_set, List.append_assoc]

theorem notifyFired_eq : s.notifyFired f (firedOutcomes now f v) = s.told f.owner (firedTold now f v) := by
  unfold State.notifyFired firedTold
  split
  · rfl
  · rw [told_nil]

theorem notifySuppressed_eq : s.notifySuppressed f (firedOutcomes now f v) = s.told f.owner (suppressedTold f v) := by
  have filtered : (firedOutcomes now f v).filter (fun x => x.2 == .suppressed)
      = ((linesOf f.lines).filter fun l => decide ((v[l]).force ≠ .none)).map fun l => (l, lineOutcome now f.action v[l]) := by
    unfold firedOutcomes
    rw [List.filter_map]
    exact congrArg _ (List.filter_congr fun l _ => lineOutcome_suppressed now f.action v[l])
  unfold State.notifySuppressed suppressedTold
  dsimp only
  rw [filtered]
  cases (linesOf f.lines).filter fun l => decide ((v[l]).force ≠ .none) with
  | nil => exact (told_nil s _).symm
  | cons l ls =>
    rw [if_neg (List.cons_ne_nil _ _), List.map_cons]
    dsimp only
    rw [List.length_cons, List.length_map]
    rfl

end

/-- An entry that fires, sound: its lines are acted on, it leaves, its owner is told (R57, R89, R100 to R102). -/
theorem fireEntry_sound (s : State) (e : Entry) (sound : e.codeOk = true) : s.fireEntry e
    = (({ s with line := linesActed s.now e.fields s.line } : State).removeEntry e).told e.fields.owner
        (fireTold s.now e.fields s.line) := by
  have acted : linesOfActed s.now e.fields.action (linesOf e.fields.lines) s.line = linesActed s.now e.fields s.line :=
    lineVector_ext fun l => by
      rw [linesOfActed_get]
      simp only [mem_linesOf, linesActed, Fin.getElem_fin, Vector.getElem_ofFn]
  have delivered := deliverAll_eq e.fields.action (linesOf e.fields.lines) (linesOf_nodup _) s
  rw [acted] at delivered
  unfold State.fireEntry
  rw [if_pos sound, delivered]
  dsimp only
  have outcomes : (linesOf e.fields.lines).map (fun l => (l, lineOutcome s.now e.fields.action s.line[l]))
      = firedOutcomes s.now e.fields s.line := rfl
  rw [outcomes, notifyFired_eq, notifySuppressed_eq, told_told, ← fireTold_eq]

theorem fireEntry_corrupt (s : State) (e : Entry) (corrupt : e.codeOk = false) : s.fireEntry e = s.removeCorrupt e := by
  unfold State.fireEntry
  rw [if_neg (by rw [corrupt]; decide)]

theorem fireEntry_leaves (s : State) (e : Entry) : LeavesOf (fun _ => none) e s (s.fireEntry e) := by
  cases sound : e.codeOk with
  | true =>
    have table : (s.fireEntry e).table = (s.removeEntry e).table := by rw [fireEntry_sound s e sound]; rfl
    refine ⟨fun split distinct => ?_, fun split distinct counted => ?_⟩
    · rw [table]
      exact removeEntry_live split distinct
    · unfold State.liveCounted
      rw [table]
      exact removeEntry_liveCounted split distinct counted
  | false =>
    rw [fireEntry_corrupt s e sound]
    exact ⟨fun split distinct => removeCorrupt_live split distinct, fun _ _ _ => removeCorrupt_liveCounted s e⟩

/-- The lines after one entry has fired. -/
def linesFired (now : Word32) (e : Entry) (v : Vector LineRec 32) : Vector LineRec 32 :=
  if e.codeOk then linesActed now e.fields v else v

/-- A fire changes the entries with their counts, the lines, the notices and the findings. -/
theorem fireEntry_frame (s : State) (e : Entry) : ∃ v, s.fireEntry e = { s with
      table := { s.table with live := (s.fireEntry e).table.live, liveCount := (s.fireEntry e).table.liveCount }
      line := linesFired s.now e s.line
      wires := { s.wires with notices := v, findings := s.wires.findings ++ corruptFindings [e] } }
    ∧ ∀ p, v.get p = s.wires.notices.get p
        ++ if e.codeOk = true ∧ e.fields.owner = p then fireTold s.now e.fields s.line else [] := by
  cases sound : e.codeOk with
  | true =>
    have lines : linesFired s.now e s.line = linesActed s.now e.fields s.line := if_pos sound
    have found : corruptFindings [e] = [] := by simp [corruptFindings, sound]
    have told := notices_append s.wires.notices
    have fired := fireEntry_sound s e sound
    rw [lines, found, List.append_nil]
    generalize fireTold s.now e.fields s.line = ns at fired ⊢
    generalize linesActed s.now e.fields s.line = acted at fired ⊢
    refine ⟨s.wires.notices.set e.fields.owner (s.wires.notices.get e.fields.owner ++ ns), ?_, fun p => ?_⟩
    · rw [fired]
      rfl
    · rw [told p e.fields.owner ns]
      simp
  | false =>
    have lines : linesFired s.now e s.line = s.line := if_neg (by rw [sound]; decide)
    have found : corruptFindings [e] = [.entry e.index] := by simp [corruptFindings, sound]
    refine ⟨s.wires.notices, ?_, fun p => by simp⟩
    rw [lines, found, fireEntry_corrupt s e sound]
    rfl

/-- Several entries fire one after another. -/
theorem fires_frame (es : List Entry) (s : State) : ∃ v, es.foldl State.fireEntry s = { s with
      table := { s.table with
        live := (es.foldl State.fireEntry s).table.live, liveCount := (es.foldl State.fireEntry s).table.liveCount }
      line := linesAfterFires s.now s.line es
      wires := { s.wires with notices := v, findings := s.wires.findings ++ corruptFindings es } }
    ∧ ∀ p, v.get p = s.wires.notices.get p ++ firesTold s.now p s.line es := by
  induction es generalizing s with
  | nil =>
    refine ⟨s.wires.notices, ?_, fun p => (List.append_nil _).symm⟩
    have found : corruptFindings [] = [] := rfl
    rw [found, List.append_nil]
    rfl
  | cons e es ih =>
    obtain ⟨v, first, told⟩ := fireEntry_frame s e
    obtain ⟨w, rest, more⟩ := ih (s.fireEntry e)
    refine ⟨w, ?_, fun p => ?_⟩
    · rw [List.foldl_cons, corruptFindings_cons]
      generalize es.foldl State.fireEntry (s.fireEntry e) = u at rest ⊢
      generalize s.fireEntry e = t at first rest
      rw [rest, first, ← List.append_assoc]
      rfl
    · rw [more p]
      generalize s.fireEntry e = t at first ⊢
      have notices : t.wires.notices.get p = v.get p := by rw [first]
      have now : t.now = s.now := by rw [first]
      have lines : t.line = linesFired s.now e s.line := by rw [first]
      rw [notices, now, lines, told p, List.append_assoc]
      rfl

end Sys2Proof.Machine

/-! PROOFS. Forward steps at the Timetable (O18, O19). -/

namespace Sys2Proof.Machine

/-! ## The entries across a forward step (R56, R57, R60) -/

theorem decidesAt_iff (pos : Word32) (e : Entry) : e.decidesAt pos = true ↔ ∃ d, e.fields.stage = .held pos d := by
  unfold Entry.decidesAt Stage.decision
  cases e.fields.stage with
  | armed => simp
  | held p d => simp

theorem firesAt_iff (pos : Word32) (e : Entry) : e.firesAt pos = true ↔ e.fields.stage = .armed ∧ e.fields.due = pos := by
  unfold Entry.firesAt
  rw [Bool.and_eq_true, beq_iff_eq, beq_iff_eq]

/-- An entry that its default arms has its due elsewhere, so that the step does not fire it. -/
def DecidedApart (pos : Word32) (live : List Entry) : Prop := ∀ e ∈ live, e.decidesAt pos = true → e.fields.due ≠ pos

theorem arm_firesAt {pos : Word32} {e : Entry} (apart : e.fields.due ≠ pos) : e.arm.firesAt pos = false :=
  Bool.eq_false_iff.mpr fun h => apart ((firesAt_iff pos e.arm).mp h).2

theorem filter_defaulted {pos : Word32} {live : List Entry} (apart : DecidedApart pos live) :
    (live.filterMap (leftOf (Entry.decidesAt pos) defaultLeaves)).filter (Entry.firesAt pos)
      = live.filter (Entry.firesAt pos) := by
  rw [List.filter_filterMap, ← List.filterMap_eq_filter]
  refine List.filterMap_congr fun e mem => ?_
  unfold leftOf
  cases decided : e.decidesAt pos with
  | false =>
    simp only [Bool.false_eq_true, if_false]
    cases e.firesAt pos <;> simp [Option.filter, Option.guard, *]
  | true =>
    obtain ⟨d, stage⟩ := (decidesAt_iff pos e).mp decided
    have quiet : e.firesAt pos = false := Bool.eq_false_iff.mpr fun h => by
      rw [((firesAt_iff pos e).mp h).1] at stage
      cases stage
    have armed := arm_firesAt (apart e mem decided)
    rw [if_pos rfl]
    cases d with
    | fire => simp [defaultLeaves, stage, Option.filter, Option.guard, quiet, armed]
    | drop => simp [defaultLeaves, stage, Option.guard, quiet]

theorem afterForwardStep_eq {pos : Word32} {live : List Entry} (apart : DecidedApart pos live) :
    (live.filterMap (leftOf (Entry.decidesAt pos) defaultLeaves)).filterMap (leftOf (Entry.firesAt pos) fun _ => none)
      = live.filterMap (afterForwardStep pos) := by
  rw [List.filterMap_filterMap]
  refine List.filterMap_congr fun e mem => ?_
  cases stage : e.fields.stage with
  | armed =>
    have undecided : e.decidesAt pos = false := Bool.eq_false_iff.mpr fun h => by
      obtain ⟨d, held⟩ := (decidesAt_iff pos e).mp h
      rw [stage] at held
      cases held
    by_cases due : e.fields.due = pos
    · have fires := (firesAt_iff pos e).mpr ⟨stage, due⟩
      simp [leftOf, undecided, fires, afterForwardStep, stage, due]
    · have quiet : e.firesAt pos = false := Bool.eq_false_iff.mpr fun h => due ((firesAt_iff pos e).mp h).2
      simp [leftOf, undecided, quiet, afterForwardStep, stage, due]
  | held d dflt =>
    have quiet : e.firesAt pos = false := Bool.eq_false_iff.mpr fun h => by
      rw [((firesAt_iff pos e).mp h).1] at stage
      cases stage
    by_cases here : d = pos
    · subst here
      have decided := (decidesAt_iff d e).mpr ⟨dflt, stage⟩
      have armed := arm_firesAt (apart e mem decided)
      cases dflt with
      | fire =>
        simp [leftOf, decided, defaultLeaves, armed, afterForwardStep, stage]
        rfl
      | drop => simp [leftOf, decided, defaultLeaves, afterForwardStep, stage]
    · have undecided : e.decidesAt pos = false := Bool.eq_false_iff.mpr fun h => by
        obtain ⟨k, held⟩ := (decidesAt_iff pos e).mp h
        rw [stage] at held
        cases held
        exact here rfl
      simp [leftOf, undecided, quiet, afterForwardStep, stage, here]

theorem leftOf_indices (hit : Entry → Bool) {left : Entry → Option Entry} (index : ∀ e x, left e = some x → x.index = e.index)
    (live : List Entry) : ((live.filterMap (leftOf hit left)).map Entry.index).Sublist (live.map Entry.index) := by
  induction live with
  | nil => exact .slnil
  | cons e live ih =>
    cases out : leftOf hit left e with
    | none =>
      rw [List.filterMap_cons_none out, List.map_cons]
      exact ih.cons _
    | some x =>
      have same : x.index = e.index := by
        unfold leftOf at out
        split at out
        · exact index e x out
        · cases out; rfl
      rw [List.filterMap_cons_some out, List.map_cons, List.map_cons, same]
      exact ih.cons_cons _

/-- What the defaults and fires of a forward step come to before its close (R56, R57, R60). -/
theorem forwardStep_acts (r : State) (pos : Word32) (law : TableLaw r.table) (apart : DecidedApart pos r.table.live) :
    ∃ (c : PerPort Nat) (v : PerPort (List PostedNotice)), (r.applyDefaults pos).fireDue pos = { r with
      table := { r.table with live := r.table.live.filterMap (afterForwardStep pos), liveCount := c }
      line := linesAfterFires r.now r.line (r.table.live.filter (Entry.firesAt pos))
      wires := { r.wires with
        notices := v, findings := r.wires.findings ++ corruptFindings (r.table.live.filter (Entry.firesAt pos)) } }
    ∧ (∀ p, c.get p = ownedBy (r.table.live.filterMap (afterForwardStep pos)) p)
    ∧ ∀ p, v.get p = r.wires.notices.get p ++ (r.table.live.filter (Entry.decidesAt pos)).flatMap (decisionTold p)
        ++ firesTold r.now p r.line (r.table.live.filter (Entry.firesAt pos)) := by
  obtain ⟨-, distinct, -, counted⟩ := law
  obtain ⟨live, counted⟩ := foldl_leavesOf (f := State.applyDefault) defaultLeaves_index
    (fun s e _ => applyDefault_leaves s e) r.table.live [] r rfl distinct counted
  obtain ⟨v, decides, told⟩ := applyDefaults_frame (r.table.live.filter (Entry.decidesAt pos)) r
  have unfolded : r.applyDefaults pos = (r.table.live.filter (Entry.decidesAt pos)).foldl State.applyDefault r := rfl
  rw [← unfolded] at live counted decides
  rw [List.nil_append] at live
  generalize r.applyDefaults pos = u at live counted decides ⊢
  have distinct : (u.table.live.map Entry.index).Nodup := by
    rw [live]
    exact distinct.sublist (leftOf_indices _ defaultLeaves_index _)
  obtain ⟨left, counted⟩ := foldl_leavesOf (hit := Entry.firesAt pos) (f := State.fireEntry) (fun _ _ h => by cases h)
    (fun s e _ => fireEntry_leaves s e) u.table.live [] u rfl distinct counted
  obtain ⟨w, fires, more⟩ := fires_frame (u.table.live.filter (Entry.firesAt pos)) u
  have unfolded : u.fireDue pos = (u.table.live.filter (Entry.firesAt pos)).foldl State.fireEntry u := rfl
  rw [← unfolded] at left counted fires
  generalize u.fireDue pos = t at left counted fires ⊢
  have now : u.now = r.now := by rw [decides]
  have lines : u.line = r.line := by rw [decides]
  have findings : u.wires.findings = r.wires.findings := by rw [decides]
  have notices (p : Port) : u.wires.notices.get p = v.get p := by rw [decides]
  have due : u.table.live.filter (Entry.firesAt pos) = r.table.live.filter (Entry.firesAt pos) := by
    rw [live, filter_defaulted apart]
  rw [List.nil_append, live, afterForwardStep_eq apart] at left
  rw [due] at fires more
  rw [now, lines, findings, left] at fires
  refine ⟨t.table.liveCount, w, ?_, fun p => ?_, fun p => ?_⟩
  · rw [fires]
    dsimp only
    rw [decides]
  · exact (counted p).trans (by rw [left])
  · rw [more p, now, lines, notices p, told p]

/-! ## The lines that a step leaves (R32, R36) -/

theorem linesActed_get (now : Word32) (f : EntryFields) (v : Vector LineRec 32) (l : LineNo) :
    (linesActed now f v)[l] = if hasLine f.lines l then actedOn now f.action v[l] else v[l] := by simp [linesActed]

theorem actedOn_keeps (now : Word32) (a : LineAction) (r : LineRec) :
    (actedOn now a r).force = r.force ∧ (actedOn now a r).settle = r.settle ∧ (actedOn now a r).readback = r.readback := by
  unfold actedOn
  split <;> exact ⟨rfl, rfl, rfl⟩

theorem linesFired_keeps (now : Word32) (e : Entry) (v : Vector LineRec 32) (l : LineNo) :
    ((linesFired now e v)[l]).force = (v[l]).force ∧ ((linesFired now e v)[l]).settle = (v[l]).settle
    ∧ ((linesFired now e v)[l]).readback = (v[l]).readback := by
  unfold linesFired
  split
  · rw [linesActed_get]
    split
    · exact actedOn_keeps now e.fields.action v[l]
    · exact ⟨rfl, rfl, rfl⟩
  · exact ⟨rfl, rfl, rfl⟩

/-- A fire changes no settle check and no switch of a line. -/
theorem linesAfterFires_keeps (now : Word32) (v : Vector LineRec 32) (es : List Entry) (l : LineNo) :
    ((linesAfterFires now v es)[l]).settle = (v[l]).settle ∧ ((linesAfterFires now v es)[l]).readback = (v[l]).readback := by
  induction es generalizing v with
  | nil => exact ⟨rfl, rfl⟩
  | cons e es ih =>
    obtain ⟨settle, readback⟩ := ih (linesFired now e v)
    obtain ⟨-, settle', readback'⟩ := linesFired_keeps now e v l
    exact ⟨settle.trans settle', readback.trans readback'⟩

/-- A line that no fired entry names, or that is forced, stays as it was (R32). -/
theorem linesAfterFires_untouched (now : Word32) (v : Vector LineRec 32) (es : List Entry) (l : LineNo)
    (free : (∀ e ∈ es, hasLine e.fields.lines l = false) ∨ (v[l]).force ≠ .none) : (linesAfterFires now v es)[l] = v[l] := by
  induction es generalizing v with
  | nil => rfl
  | cons e es ih =>
    have same : (linesFired now e v)[l] = v[l] := by
      unfold linesFired
      split
      · rw [linesActed_get]
        obtain unnamed | forced := free
        · rw [unnamed e (List.mem_cons_self ..)]
          rfl
        · unfold actedOn
          rw [if_pos forced, ite_self]
      · rfl
    refine (ih (linesFired now e v) ?_).trans same
    rw [same]
    exact free.imp_left fun unnamed x mem => unnamed x (List.mem_cons_of_mem _ mem)

end Sys2Proof.Machine

/-! PROOFS. The forward step as a whole, and the step at which one entry is due (O18, O19). -/

namespace Sys2Proof.Machine

theorem afterForwardStep_same {pos : Word32} {e : Entry} (undecided : e.decidesAt pos = false) (quiet : e.firesAt pos = false) :
    afterForwardStep pos e = some e := by
  unfold afterForwardStep
  cases stage : e.fields.stage with
  | armed =>
    refine if_neg fun due => ?_
    rw [(firesAt_iff pos e).mpr ⟨stage, due⟩] at quiet
    cases quiet
  | held d dflt =>
    refine if_neg fun here => ?_
    subst here
    rw [(decidesAt_iff d e).mpr ⟨dflt, stage⟩] at undecided
    cases undecided

/-- A forward step that may be taken (R56): what it leaves, the settle checks judged at its close. -/
theorem forwardStep_taken (s : State) (pos : Word32) (asks : Bool) (rest : List MotionEvent)
    (ready : StepReady s true pos asks rest) (law : TableLaw s.table) (apart : DecidedApart pos s.table.live) :
    let r := SteppedTo s pos asks rest
    let due := s.table.live.filter (Entry.firesAt pos)
    ∃ t, exec .stepAtTimetable s = .next t
      ∧ t = { r with
          table := { r.table with live := s.table.live.filterMap (afterForwardStep pos), liveCount := t.table.liveCount }
          line := t.line
          wires := { r.wires with notices := t.wires.notices, findings := s.wires.findings ++ corruptFindings due } }
      ∧ (∀ p, t.table.liveCount.get p = ownedBy t.table.live p)
      ∧ (∀ l : LineNo, t.line[l] = { (linesAfterFires s.now s.line due)[l] with
          settle := settleAfter s t l (s.line[l]).settle })
      ∧ (∀ p, t.wires.notices.get p = s.wires.notices.get p
          ++ (s.table.live.filter (Entry.decidesAt pos)).flatMap (decisionTold p) ++ firesTold s.now p s.line due)
      ∧ (∀ l : LineNo, (linesAfterFires s.now s.line due)[l] = s.line[l] → t.line[l] = s.line[l]) := by
  intro r due
  have taken := exec_stepAtTimetable s true pos asks rest ready
  rw [if_pos rfl] at taken
  obtain ⟨c, v, acts, counted, told⟩ := forwardStep_acts r pos law apart
  have unfolded : r.forwardStep pos = closeLines r ((r.applyDefaults pos).fireDue pos) := rfl
  rw [unfolded] at taken
  generalize (r.applyDefaults pos).fireDue pos = w at acts taken
  have frame := closeLines_beside r w
  have lines : w.line = linesAfterFires s.now s.line due := by rw [acts]; rfl
  have closed (l : LineNo) : (closeLines r w).line[l] = { (linesAfterFires s.now s.line due)[l] with
      settle := settleAfter s (closeLines r w) l (s.line[l]).settle } := by
    obtain ⟨settle, readback⟩ := linesAfterFires_keeps s.now s.line due l
    have close := closeLines_line r w l (by rw [acts]) (by rw [acts]) (by rw [lines]; exact readback)
    rw [lines, settle] at close
    exact close
  have kept (l : LineNo) (same : (linesAfterFires s.now s.line due)[l] = s.line[l]) : (closeLines r w).line[l] = s.line[l] := by
    rw [closeLines_get, closedLine_kept (by rw [acts]) (by rw [lines]; exact same), lines]
    exact same
  refine ⟨closeLines r w, taken, ?_, ?_, closed, ?_, kept⟩
  · generalize closeLines r w = t at frame
    rw [frame, acts]
    rfl
  · intro p
    generalize closeLines r w = t at frame
    rw [frame, acts]
    exact counted p
  · intro p
    generalize closeLines r w = t at frame
    rw [frame, acts]
    exact told p

/-- Settles O18: the step as a whole, its premise on decisions keeping what is decided apart from what is due. -/
theorem forwardStepFiresAndDecides : Obligations.ForwardStepFiresAndDecides := by
  unfold Obligations.ForwardStepFiresAndDecides
  intro s pos asks rest ready law before r decided due fired
  have apart : DecidedApart pos s.table.live := fun e mem decides => by
    obtain ⟨d, stage⟩ := (decidesAt_iff pos e).mp decides
    exact before e mem pos (by rw [stage]; rfl)
  obtain ⟨t, taken, frame, counted, lines, told, kept⟩ := forwardStep_taken s pos asks rest ready law apart
  refine ⟨t, taken, frame, counted, lines, told, fun l free => kept l (linesAfterFires_untouched _ _ _ l free),
    fun undecided undue => ?_⟩
  have live : s.table.live.filterMap (afterForwardStep pos) = s.table.live := by
    rw [List.filterMap_congr fun e mem => ?_, List.filterMap_some]
    refine afterForwardStep_same (Bool.eq_false_iff.mpr fun h => ?_) (Bool.eq_false_iff.mpr fun h => ?_)
    · exact List.filter_eq_nil_iff.mp undecided e mem h
    · exact List.filter_eq_nil_iff.mp undue e mem h
  have none_due : s.table.live.filter (Entry.firesAt pos) = [] := undue
  have none_decided : s.table.live.filter (Entry.decidesAt pos) = [] := undecided
  refine ⟨?_, lineVector_ext fun l => kept l ?_, PerPort.ext_get _ _ fun p => ?_⟩
  · rw [frame, live]
  · rw [none_due]
    rfl
  · rw [told p, none_due, none_decided]
    exact (List.append_nil _).trans (List.append_nil _)

/-! ## The step at which one entry is due -/

/-- The entries of a table with distinct indices that a test finds, where it finds one alone. -/
theorem filter_only {live : List Entry} (distinct : (live.map Entry.index).Nodup) {e : Entry} (mem : e ∈ live)
    {test : Entry → Bool} (passes : test e = true) (others : ∀ x ∈ live, x.index ≠ e.index → test x = false) :
    live.filter test = [e] := by
  obtain ⟨before, after, rfl⟩ := List.append_of_mem mem
  have apart := index_ne_of_split distinct
  have none_ (part : List Entry) (sub : ∀ x ∈ part, x ∈ before ++ after) (inside : ∀ x ∈ part, x ∈ before ++ e :: after) :
      part.filter test = [] := List.filter_eq_nil_iff.mpr fun x found h =>
    absurd (h.symm.trans (others x (inside x found) (apart x (sub x found)))) (by decide)
  rw [List.filter_append, List.filter_cons_of_pos passes, none_ before (fun x h => List.mem_append_left _ h)
    (fun x h => List.mem_append_left _ h), none_ after (fun x h => List.mem_append_right _ h)
    (fun x h => List.mem_append_right _ (List.mem_cons_of_mem _ h)), List.nil_append]

theorem arm_ne {pos : Word32} {e : Entry} (decided : e.decidesAt pos = true) : afterForwardStep pos e ≠ some e := by
  obtain ⟨d, stage⟩ := (decidesAt_iff pos e).mp decided
  unfold afterForwardStep
  simp only [stage, if_true]
  cases d with
  | fire =>
    intro same
    have stages := congrArg (fun o : Option Entry => o.elim Stage.armed fun x => x.fields.stage) same
    dsimp only [Option.elim_some] at stages
    rw [stage] at stages
    cases stages
  | drop => exact fun h => by cases h

theorem afterForwardStep_due {pos : Word32} {e : Entry} (armed : e.fields.stage = .armed) (due : e.fields.due = pos) :
    afterForwardStep pos e = none := by
  unfold afterForwardStep
  rw [armed]
  exact if_pos due

/-- Settles O19: the step, with one entry to fire and none to decide. -/
theorem dueEntryActsOnItsLines : Obligations.DueEntryActsOnItsLines := by
  unfold Obligations.DueEntryActsOnItsLines
  intro s pos asks rest e ready law mem armed due others delivered outs sup
  obtain ⟨-, distinct, -⟩ := id law
  have fires : e.firesAt pos = true := (firesAt_iff pos e).mpr ⟨armed, due⟩
  have undecided (x : Entry) (live : x ∈ s.table.live) : x.decidesAt pos = false := Bool.eq_false_iff.mpr fun decides => by
    by_cases here : x.index = e.index
    · have same := entryAt_live law live
      rw [here, entryAt_live law mem] at same
      obtain rfl := Option.some.inj same
      obtain ⟨d, stage⟩ := (decidesAt_iff pos e).mp decides
      rw [armed] at stage
      cases stage
    · exact arm_ne decides (others x live here)
  have none_decided : s.table.live.filter (Entry.decidesAt pos) = [] :=
    List.filter_eq_nil_iff.mpr fun x live => by rw [undecided x live]; decide
  have one_due : s.table.live.filter (Entry.firesAt pos) = [e] := filter_only distinct mem fires fun x live other =>
    Bool.eq_false_iff.mpr fun h => by
      obtain ⟨armed, due⟩ := (firesAt_iff pos x).mp h
      have gone := others x live other
      rw [afterForwardStep_due armed due] at gone
      cases gone
  obtain ⟨t, taken, frame, counted, lines, told, kept⟩ := forwardStep_taken s pos asks rest ready law fun x live decides => by
    rw [undecided x live] at decides
    cases decides
  rw [one_due] at frame lines told kept
  rw [none_decided] at told
  have acted (l : LineNo) : (linesAfterFires s.now s.line [e])[l] = (linesFired s.now e s.line)[l] := rfl
  refine ⟨t, taken, ?_, fun sound => ⟨fun l named free => ?_, fun l free => kept l ?_, fun p => ?_, ?_⟩,
    fun corrupt => ⟨?_, ?_, ?_, counted⟩⟩
  · have live : t.table.live = s.table.live.filterMap (afterForwardStep pos) := by rw [frame]
    rw [live, ← List.filterMap_eq_filter]
    refine List.filterMap_congr fun x mem' => ?_
    by_cases here : x.index = e.index
    · have same := entryAt_live law mem'
      rw [here, entryAt_live law mem] at same
      obtain rfl := Option.some.inj same
      rw [afterForwardStep_due armed due]
      simp [Option.guard]
    · rw [others x mem' here]
      simp [Option.guard, here]
  · rw [lines l, acted, linesFired, if_pos sound, linesActed_get, if_pos named, actedOn, if_neg (not_not_intro free)]
  · refine linesAfterFires_untouched _ _ _ l (free.imp_left fun unnamed x one => ?_)
    obtain rfl := List.mem_singleton.mp one
    exact unnamed
  · rw [told p]
    have fire : firesTold s.now p s.line [e] = if e.fields.owner = p then fireTold s.now e.fields s.line else [] := by
      unfold firesTold
      simp [sound, firesTold]
    rw [fire]
    show s.wires.notices.get p ++ [] ++ _ = _
    rw [List.append_nil]
    rfl
  · have none_ : corruptFindings [e] = [] := by simp [corruptFindings, sound]
    rw [frame, none_]
    exact List.append_nil _
  · refine lineVector_ext fun l => kept l ?_
    rw [acted, linesFired, if_neg (by rw [corrupt]; decide)]
  · refine PerPort.ext_get _ _ fun p => ?_
    rw [told p]
    have fire : firesTold s.now p s.line [e] = [] := by
      unfold firesTold
      simp [corrupt, firesTold]
    rw [fire]
    exact (List.append_nil _).trans (List.append_nil _)
  · have found : corruptFindings [e] = [.entry e.index] := by simp [corruptFindings, corrupt]
    rw [frame, found]

end Sys2Proof.Machine

/-! PROOFS. Entries that leave or shrink (R45, R51): what removals, defaults, cancellations, verdicts and cuts do to the table. -/

namespace Sys2Proof.Machine

/-! ## Entries that leave or shrink -/

/-- An entry rewritten in its place: the same index, handle, owner and due, on none but its lines. -/
structure Shrunk (e f : Entry) : Prop where
  index : f.index = e.index
  handle : f.fields.handle = e.fields.handle
  owner : f.fields.owner = e.fields.owner
  due : f.fields.due = e.fields.due
  lines : ∀ l, hasLine f.fields.lines l = true → hasLine e.fields.lines l = true

theorem Shrunk.refl (e : Entry) : Shrunk e e := ⟨rfl, rfl, rfl, rfl, fun _ h => h⟩

theorem Shrunk.trans {e f g : Entry} (h : Shrunk e f) (k : Shrunk f g) : Shrunk e g :=
  ⟨k.index.trans h.index, k.handle.trans h.handle, k.owner.trans h.owner, k.due.trans h.due,
    fun l hl => h.lines l (k.lines l hl)⟩

theorem arm_shrunk (e : Entry) : Shrunk e e.arm := ⟨rfl, rfl, rfl, rfl, fun _ h => h⟩

/-- The entries of the second list are entries of the first, in order, each as it was or shrunk. -/
def Thinner (live left : List Entry) : Prop :=
  ∃ f : Entry → Option Entry, (∀ e g, f e = some g → Shrunk e g) ∧ left = live.filterMap f

theorem Thinner.refl (live : List Entry) : Thinner live live :=
  ⟨some, fun e g h => by cases h; exact .refl e, List.filterMap_some.symm⟩

theorem Thinner.trans {a b d : List Entry} (h : Thinner a b) (k : Thinner b d) : Thinner a d := by
  obtain ⟨f, hf, rfl⟩ := h
  obtain ⟨g, hg, rfl⟩ := k
  refine ⟨fun e => (f e).bind g, fun e x hx => ?_, by rw [List.filterMap_filterMap]⟩
  obtain ⟨y, hy, hx⟩ := Option.bind_eq_some_iff.mp hx
  exact (hf e y hy).trans (hg y x hx)

theorem Thinner.filter (live : List Entry) (test : Entry → Bool) : Thinner live (live.filter test) :=
  ⟨Option.guard test, fun e g h => by
    obtain ⟨rfl, -⟩ := Option.guard_eq_some_iff.mp h; exact .refl _, by rw [List.filterMap_eq_filter]⟩

theorem Thinner.mem {a b : List Entry} (h : Thinner a b) {x : Entry} (hx : x ∈ b) : ∃ e ∈ a, Shrunk e x := by
  obtain ⟨f, hf, rfl⟩ := h
  obtain ⟨e, he, hx⟩ := List.mem_filterMap.mp hx
  exact ⟨e, he, hf e x hx⟩

/-- A view that shrinking keeps goes over to a sublist. -/
theorem Thinner.map_sublist {β : Type} {a b : List Entry} (h : Thinner a b) (view : Entry → β)
    (same : ∀ e g, Shrunk e g → view g = view e) : (b.map view).Sublist (a.map view) := by
  obtain ⟨f, hf, rfl⟩ := h
  induction a with
  | nil => exact List.Sublist.refl _
  | cons e a ih =>
    cases left : f e with
    | none => rw [List.filterMap_cons_none left]; exact ih.cons _
    | some g =>
      rw [List.filterMap_cons_some left, List.map_cons, List.map_cons, same e g (hf e g left)]
      exact ih.cons_cons _

theorem Thinner.ownedBy_le {a b : List Entry} (h : Thinner a b) (p : Port) : ownedBy b p ≤ ownedBy a p := by
  have owners := h.map_sublist (fun e => e.fields.owner) fun _ _ k => k.owner
  have count (l : List Entry) : ownedBy l p = (l.map fun e => e.fields.owner).count p := by
    rw [ownedBy, List.count, List.countP_map, ← List.countP_eq_length_filter]; rfl
  rw [count, count]
  exact owners.count_le p

/-! ## The law of a table whose entries leave or shrink -/

/-- Live counts that count. -/
def Timetable.Counted (t : Timetable) : Prop := ∀ p, t.liveCount.get p = ownedBy t.live p

theorem TableLaw.distinct {t : Timetable} (law : TableLaw t) : (t.live.map Entry.index).Nodup := by
  obtain ⟨-, distinct, -, -⟩ := law
  exact distinct

theorem TableLaw.counted {t : Timetable} (law : TableLaw t) : t.Counted := by
  obtain ⟨-, -, -, counted⟩ := law
  exact counted

/-- Entries that leave or shrink keep the law of the table where the counts count. -/
theorem TableLaw.thinner {t u : Timetable} (law : TableLaw t) (thinner : Thinner t.live u.live)
    (generations : u.generations = t.generations) (counted : u.Counted) : TableLaw u := by
  obtain ⟨room, distinct, handles, -⟩ := law
  have indices := thinner.map_sublist Entry.index fun _ _ k => k.index
  refine ⟨?_, distinct.sublist indices, fun e he => ?_, counted⟩
  · have := indices.length_le
    simp only [List.length_map] at this
    omega
  · obtain ⟨d, hd, shrunk⟩ := thinner.mem he
    have handle := shrunk.handle.trans (handles d hd)
    have index := shrunk.index
    obtain ⟨i, fields, code⟩ := e
    dsimp only at index handle ⊢
    subst index
    rw [handle, generations]

/-- Entries leave or shrink, and on a lawful table the counts go on counting. -/
structure TableTrim (t u : Timetable) : Prop where
  generations : u.generations = t.generations
  empty : t.live = [] → u.live = []
  thinner : TableLaw t → Thinner t.live u.live
  counted : TableLaw t → u.Counted

theorem TableTrim.law {t u : Timetable} (h : TableTrim t u) (law : TableLaw t) : TableLaw u :=
  law.thinner (h.thinner law) h.generations (h.counted law)

theorem TableTrim.of_same {t u : Timetable} (live : u.live = t.live) (count : u.liveCount = t.liveCount)
    (generations : u.generations = t.generations) : TableTrim t u :=
  ⟨generations, fun h => live.trans h, fun _ => live ▸ .refl _, fun law p => by rw [count, live]; exact law.counted p⟩

/-- Entries of the table taken out. -/
theorem EntriesLeave.trim {es : List Entry} {s t : State} (h : EntriesLeave es s t)
    (live : TableLaw s.table → ∀ e ∈ es, e ∈ s.table.live) (apart : TableLaw s.table → (es.map Entry.index).Nodup) :
    TableTrim s.table t.table := by
  obtain ⟨table, counted⟩ := h
  refine ⟨by rw [table], fun empty => ?_, fun _ => ?_, fun law => counted (live law) (apart law) law.distinct law.counted⟩
  · rw [table, empty]
    rfl
  · rw [table]
    exact .filter _ _

/-- A fold over the entries that a test hits, each left as `left` says. -/
theorem foldl_trim {hit : Entry → Bool} {left : Entry → Option Entry} {f : State → Entry → State}
    (shrunk : ∀ e x, left e = some x → Shrunk e x) (step : ∀ s e, hit e = true → LeavesOf left e s (f s e))
    (generations : ∀ s e, (f s e).table.generations = s.table.generations) (s : State) :
    TableTrim s.table ((s.table.live.filter hit).foldl f s).table := by
  have acted (law : TableLaw s.table) := foldl_leavesOf (fun e x h => (shrunk e x h).index) step s.table.live [] s rfl
    law.distinct law.counted
  refine ⟨?_, fun empty => ?_, fun law => ?_, fun law => (acted law).2⟩
  · exact foldl_keeps (fun s t : State => t.table.generations = s.table.generations) f (fun _ => rfl)
      (fun _ _ _ h k => k.trans h) generations _ s
  · rw [empty]
    exact empty
  · rw [(acted law).1]
    refine ⟨leftOf hit left, fun e x h => ?_, rfl⟩
    unfold leftOf at h
    split at h
    · exact shrunk e x h
    · cases h
      exact .refl e

/-! ## Cuts -/

theorem cutSet_lines {x lines ls : LineSet} (h : cutSet x lines = some ls) (l : LineNo) (hl : hasLine ls l = true) :
    hasLine lines l = true := by
  unfold cutSet at h
  split at h
  · cases h; exact hl
  · split at h
    · cases h
    · cases h
      rw [hasLine_lineDiff] at hl
      simp_all

theorem cutEntry_shrunk {p : Port} {x : LineSet} {e f : Entry} (h : cutEntry p x e = some f) : Shrunk e f := by
  unfold cutEntry at h
  split at h
  · cases h; exact .refl e
  · obtain ⟨ls, left, rfl⟩ := Option.map_eq_some_iff.mp h
    exact ⟨rfl, rfl, rfl, rfl, cutSet_lines left⟩

theorem cut_trim (s : State) (p : Port) (x : LineSet) : TableTrim s.table (s.cut p x).table where
  generations := rfl
  empty none_live := by
    have live : (s.cut p x).table.live = s.table.live.filterMap (cutEntry p x) := rfl
    rw [live, none_live]
    rfl
  thinner _ := ⟨cutEntry p x, fun _ _ => cutEntry_shrunk, rfl⟩
  counted law := cut_liveCounted s p x law.counted

/-! ## Operations that trim the table -/

/-- Entries leave or shrink; nothing else changes but notices and findings on their way. -/
structure TrimStep (s t : State) : Prop where
  touches : Touches [.entries, .posted, .findings] s t
  trim : TableTrim s.table t.table

theorem removeCorrupt_trims (s : State) (e : Entry) : TrimStep s (s.removeCorrupt e) where
  touches := (removeCorrupt_touches s e).mono (by decide)
  trim := ⟨rfl, fun empty => by
      have live : (s.removeCorrupt e).table.live = s.table.live.filter fun x => x.index ≠ e.index := rfl
      rw [live, empty]
      rfl, fun _ => .filter _ _, fun _ => removeCorrupt_liveCounted s e⟩

theorem visitEntry_trims (s : State) (i : Fin 256) : TrimStep s (s.visitEntry i) := by
  have same : TrimStep s s := ⟨.refl _ _, .of_same rfl rfl rfl⟩
  unfold State.visitEntry
  split
  · exact same
  · split
    · exact same
    · exact removeCorrupt_trims s _

theorem dropEntries_trims (s : State) (p : Port) : TrimStep s (s.dropEntries p) where
  touches := (setEntries_touches _ _ _).mono (by decide)
  trim := by
    refine ⟨rfl, fun empty => ?_, fun _ => .filter _ _, fun law q => ?_⟩
    · have live : (s.dropEntries p).table.live = s.table.live.filter fun e => e.fields.owner ≠ p := rfl
      rw [live, empty]
      rfl
    · have count : (s.dropEntries p).table.liveCount.get q = (s.table.liveCount.set p 0).get q := rfl
      have owned : ownedBy (s.dropEntries p).table.live q
          = ((s.table.live.filter fun e => e.fields.owner ≠ p).filter fun e => e.fields.owner == q).length := rfl
      rw [count, owned, PerPort.get_set, List.filter_filter]
      by_cases own : q = p
      · subst own
        rw [if_pos rfl, List.filter_eq_nil_iff.mpr fun e _ => by simp]
        rfl
      · rw [if_neg own, law.counted q]
        refine congrArg List.length (List.filter_congr fun e _ => ?_)
        by_cases its : e.fields.owner = q <;> simp [its, own]

theorem cancelList_trims (s : State) (es : List Entry) (live : TableLaw s.table → ∀ e ∈ es, e ∈ s.table.live)
    (apart : TableLaw s.table → (es.map Entry.index).Nodup) : TrimStep s (s.cancelList es).1 := by
  have leave := foldl_entriesLeave id Prod.fst cancelOne cancelOne_leaves es (s, 0)
  rw [List.map_id] at leave
  refine ⟨?_, leave.trim live apart⟩
  exact foldl_keeps (fun a b : State × Nat => Touches [.entries, .posted, .findings] a.1 b.1) cancelOne (fun _ => .refl _ _)
    (fun _ _ _ h k => h.trans k) (fun acc e => (cancelOne_touches acc e).mono (by decide)) es (s, 0)

/-- The entries of a table that a test picks are live and at distinct indices. -/
theorem picked_apart {t : Timetable} (law : TableLaw t) (test : Entry → Bool) :
    ((t.live.filter test).map Entry.index).Nodup := law.distinct.sublist (List.filter_sublist.map _)

theorem verdictLeaves_shrunk (keep : Bool) (e x : Entry) (h : verdictLeaves keep e = some x) : Shrunk e x := by
  unfold verdictLeaves at h
  split at h
  · split at h
    · split at h
      · cases h
        exact arm_shrunk e
      · cases h
    · cases h
      exact .refl e
  · cases h

theorem verdict_trims (s : State) (hit : Entry → Bool) (keep : Bool) (counts : VerdictCounts) :
    TrimStep s ((s.table.live.filter hit).foldl (verdictOne keep) (s, counts)).1 := by
  have touched := Touches.foldl_fst (verdictOne_touches keep) (s.table.live.filter hit) (s, counts)
  have taken (law : TableLaw s.table) := foldl_verdictOne_live hit keep s.table.live [] (s, counts) rfl law.distinct law.counted
  refine ⟨touched.mono (by decide), touched .generations (by decide), fun empty => ?_, fun law => ?_, fun law => (taken law).2⟩
  · rw [empty]
    exact empty
  · rw [(taken law).1]
    refine ⟨verdictOn hit keep, fun e x h => ?_, rfl⟩
    unfold verdictOn at h
    split at h
    · exact verdictLeaves_shrunk keep e x h
    · cases h
      exact .refl e

theorem defaultLeaves_shrunk (e x : Entry) (h : defaultLeaves e = some x) : Shrunk e x := by
  unfold defaultLeaves at h
  split at h
  · cases h
    exact .refl e
  · cases h
    exact arm_shrunk e
  · cases h

theorem applyDefaults_trims (s : State) (pos : Word32) : TrimStep s (s.applyDefaults pos) where
  touches := (Touches.foldl applyDefault_touches _ s).mono (by decide)
  trim := foldl_trim defaultLeaves_shrunk (fun s e _ => applyDefault_leaves s e)
    (fun s e => applyDefault_touches s e .generations (by decide)) s

theorem fireDue_trim (s : State) (pos : Word32) : TableTrim s.table (s.fireDue pos).table :=
  foldl_trim (left := fun _ => none) (fun _ _ h => nomatch h) (fun s e _ => fireEntry_leaves s e)
    (fun s e => fireEntry_touches s e .generations (by decide)) s

end Sys2Proof.Machine

/-! PROOFS. Laws closed under the operations of the blocks, slots and admissions included, are kept by every command between mode
changes, writes of parameters and resets. -/

namespace Sys2Proof.Machine

/-! ## Steps of a port's slots -/

/-- A port's slots keep their law and their mode, and outside RUN none is filled. -/
structure SlotsStep (b c : Slots) : Prop where
  law : SlotsLaw b → SlotsLaw c
  mode : c.mode = b.mode
  empty : b.mode ≠ .run → (∀ i : Fin 4, b.slot[i] = none) → ∀ i : Fin 4, c.slot[i] = none

/-- Slots and age list as they were. -/
theorem SlotsStep.of_same {b c : Slots} (slot : c.slot = b.slot) (age : c.age = b.age) (mode : c.mode = b.mode) :
    SlotsStep b c :=
  ⟨fun law => by unfold SlotsLaw; rw [slot, age]; exact law, mode, fun _ none_held i => by rw [slot]; exact none_held i⟩

theorem emptied_slotsStep (b : Slots) (i : Fin 4) : SlotsStep b (b.empty i) :=
  ⟨fun law => law.empty i, rfl, fun _ none_held j => by rw [emptied_slot, none_held j, ite_self]⟩

theorem cleared_get (b : Slots) (i : Fin 4) : b.cleared.slot[i] = none := by simp [Slots.cleared]

theorem cleared_slotsLaw (b : Slots) : SlotsLaw b.cleared := by
  refine ⟨List.nodup_nil, fun i => ?_, fun i j c d hi => ?_⟩
  · rw [cleared_get]
    simp [Slots.cleared]
  · rw [cleared_get] at hi
    cases hi

theorem cleared_slotsStep (b : Slots) : SlotsStep b b.cleared :=
  ⟨fun _ => cleared_slotsLaw b, rfl, fun _ _ i => cleared_get b i⟩

theorem merged_get (b : Slots) (i j : Fin 4) (x : LineSet) :
    (b.merge i x).slot[j] = if i = j then (b.slot[i]).map fun c => { c with lines := c.lines ||| x } else b.slot[j] := by
  simp only [Slots.merge, Fin.getElem_fin, Vector.getElem_set, Fin.ext_iff]

/-- A slot merged into is occupied with the same key as before. -/
theorem merged_slotsStep (b : Slots) (i : Fin 4) (x : LineSet) : SlotsStep b (b.merge i x) := by
  have fields : ∀ (j : Fin 4) c, (b.merge i x).slot[j] = some c → ∃ d, b.slot[j] = some d ∧ c = { d with lines := c.lines } := by
    intro j c held
    rw [merged_get] at held
    split at held
    · next same =>
      subst same
      obtain ⟨d, before, rfl⟩ := Option.map_eq_some_iff.mp held
      exact ⟨d, before, rfl⟩
    · exact ⟨c, held, rfl⟩
  have occupied (j : Fin 4) : ((b.merge i x).slot[j]).isSome = (b.slot[j]).isSome := by
    rw [merged_get]
    split
    · next same => subst same; rw [Option.isSome_map]
    · rfl
  refine ⟨fun ⟨nodup, ages, keys⟩ => ⟨nodup, fun j => ?_, fun j k c d hj hk free_c free_d same => ?_⟩, rfl,
    fun _ none_held j => ?_⟩
  · rw [occupied]
    exact ages j
  · obtain ⟨c', before_c, fields_c⟩ := fields j c hj
    obtain ⟨d', before_d, fields_d⟩ := fields k d hk
    rw [fields_c] at free_c same
    rw [fields_d] at free_d same
    exact keys j k c' d' before_c before_d free_c free_d same
  · rw [merged_get, none_held i, none_held j]
    exact ite_self none

theorem put_get (x : Slots) (i j : Fin 4) (b : PostBody) :
    (x.put i b).slot[j] = if i = j then some b.content else x.slot[j] := by
  simp only [Slots.put, Fin.getElem_fin, Vector.getElem_set, Fin.ext_iff, PostBody.content]

/-- What finds no slot to merge into holds no key of an occupied slot. -/
theorem mergeSlot_none_apart {x : Slots} {b : PostBody} (apart : x.mergeSlot b = none) {i : Fin 4} {c : SlotContent}
    (held : x.slot[i] = some c) (free : c.noMerge = false) (merges : b.noMerge = false) : ¬sameMergeKey c b.content := by
  intro same
  unfold Slots.mergeSlot at apart
  rw [if_neg (by rw [merges]; exact Bool.false_ne_true)] at apart
  have missed := List.find?_eq_none.mp apart i (List.mem_finRange i)
  rw [held] at missed
  exact missed ((sameKey_iff c b).mpr ⟨free, same⟩)

/-- A post put into a slot of a port in RUN keeps the law where no other slot holds its key. -/
theorem put_slotsStep {x : Slots} (i : Fin 4) {b : PostBody} (running : x.mode = .run)
    (apart : ∀ (j : Fin 4) c, x.slot[j] = some c → c.noMerge = false → b.noMerge = false → ¬sameMergeKey c b.content) :
    SlotsStep x (x.put i b) := by
  refine ⟨fun ⟨nodup, ages, keys⟩ => ⟨?_, fun j => ?_, fun j k c d hj hk free_c free_d same => ?_⟩, rfl,
    fun stopped => absurd running stopped⟩
  · have fresh : (x.put i b).age = (x.age.filter fun j => j ≠ i) ++ [i] := rfl
    rw [fresh, List.nodup_append]
    refine ⟨nodup.filter _, List.nodup_singleton i, fun j hj k hk => ?_⟩
    obtain rfl := List.mem_singleton.mp hk
    simpa using (List.mem_filter.mp hj).2
  · have member : j ∈ (x.put i b).age ↔ (j ∈ x.age ∧ j ≠ i) ∨ j = i := by simp [Slots.put]
    rw [member, put_get, ages]
    by_cases same : i = j
    · simp [same]
    · simp [same, Ne.symm same]
  · rw [put_get] at hj hk
    have symm {c d : SlotContent} (h : sameMergeKey c d) : sameMergeKey d c := by
      obtain ⟨due, action, tag, report⟩ := h
      exact ⟨due.symm, action.symm, tag.symm, report.symm⟩
    split at hj
    · next here =>
      split at hk
      · next there => exact here.symm.trans there
      · cases hj
        exact absurd (symm same) (apart k d hk free_d free_c)
    · split at hk
      · cases hk
        exact absurd same (apart j c hj free_c free_d)
      · exact keys j k c d hj hk free_c free_d same

/-! ## Laws closed under the operations of the blocks -/

/-- A law that every operation of the blocks between mode changes keeps. -/
structure BlockClosed (law : State → Prop) : Prop extends WorkClosed law where
  slots : ∀ s p b, SlotsStep (s.slots.get p) b → law s → law (s.setSlots p b)
  trim : ∀ s t, TrimStep s t → law s → law t
  fires : ∀ s pos, law s → law (s.fireDue pos)
  placed : ∀ s n out, s.table.mode = .run → s.admissionStatus n = none → conflictOutcome s.table.limits n.owner
    (conflicts s.table.limits n.owner n.lines n.due s.table.live) = some out → law s → law (s.placeProposal n out).1
  amended : ∀ s p h e due a out, s.ownEntry p h = some e → conflictOutcome s.table.limits p
    (conflicts s.table.limits p e.fields.lines due s.table.live) = some out → law s → law (s.amendEntry e due a out).1

/-- A consultation that leaves every line leased found no mismatch, and did nothing. -/
theorem consult_of_leased {s : State} {p : Port} {x : LineSet} (leased : ((s.consult x).firstUnleased p x).isSome = false) :
    s.consult x = s := by
  by_cases codes : CodesMatch s x
  · exact consult_ok s x codes
  · obtain ⟨l, lowest⟩ := consult_unleased codes p
    rw [firstUnleased_lowest lowest] at leased
    cases leased

section
variable {law : State → Prop} (c : BlockClosed law)
include c

/-! ## Admissions and commits -/

theorem BlockClosed.propose (s : State) (n : Proposal) (h : law s) : law (s.propose n).1 := by
  unfold State.propose
  split
  · exact h
  · next stopped =>
    have running : (s.consult n.lines).table.mode = .run :=
      (consult_touches s n.lines .tableMode (by decide)).trans (not_not.mp stopped)
    have consulted := c.consult s n.lines h
    generalize s.consult n.lines = t at running consulted
    dsimp only
    split
    · exact consulted
    · split
      · exact consulted
      · next passes =>
        split
        · exact consulted
        · next out outcome => exact c.placed t n out running passes outcome consulted

theorem BlockClosed.commitSlot (s : State) (p : Port) (reason : CommitReason) (i : Fin 4) (h : law s) :
    law (s.commitSlot p reason i).1 := by
  unfold State.commitSlot
  split
  · exact h
  · exact c.propose _ _ (c.slots _ _ _ (emptied_slotsStep _ i) h)

theorem BlockClosed.commitSlots (p : Port) (reason : CommitReason) (is : List (Fin 4)) (s : State) (h : law s) :
    law (s.commitSlots p reason is).1 := by
  induction is generalizing s with
  | nil => exact h
  | cons i rest ih => exact ih _ (c.commitSlot s p reason i h)

theorem BlockClosed.leadCommits (s : State) (p : Port) (h : law s) : law (s.leadCommits p) :=
  foldl_law (fun t o ht => c.told t .slots p o.leadNotice ht) _ _ (c.commitSlots p .lead _ s h)

theorem BlockClosed.makeRoom (s : State) (p : Port) (h : law s) : law (s.makeRoom p).1 := by
  unfold State.makeRoom
  split
  · exact c.commitSlot s p .full _ h
  · exact h

omit c in
theorem makeRoom_slotsStay (s : State) (p : Port) : SlotsStay p s (s.makeRoom p).1 := by
  unfold State.makeRoom
  split
  · exact commitSlot_slotsStay p s .full _
  · exact .refl p s

theorem BlockClosed.placePost (s : State) (p : Port) (b : PostBody) (running : (s.slots.get p).mode = .run) (h : law s) :
    law (s.placePost p b).1 := by
  unfold State.placePost
  split
  · exact c.slots _ _ _ (merged_slotsStep _ _ _) h
  · next apart =>
    refine c.slots _ _ _ (put_slotsStep _ ?_ fun j d held free merges same => ?_) (c.makeRoom s p h)
    · exact (makeRoom_touches s p .slotMode (by decide) p).trans running
    · obtain ⟨d', before, fields⟩ := makeRoom_slotsStay s p j d held
      rw [fields] at free same
      exact mergeSlot_none_apart apart before free merges same

theorem BlockClosed.commitAfterPost (s : State) (p : Port) (b : PostBody) (x : Placed) (h : law s) :
    law (s.commitAfterPost p b x).1 := by
  unfold State.commitAfterPost
  split
  · exact c.commitSlots p .now _ s h
  · split
    · exact c.commitSlot s p .lead _ h
    · exact h

theorem BlockClosed.postRequest (p : Port) (body : List Byte) (s : State) (h : law s) : law (postRequest p body s).1 := by
  unfold Machine.postRequest
  split
  · exact h
  · next stopped =>
    split
    · exact h
    · next b _ =>
      have running : ((s.consult b.lines).slots.get p).mode = .run :=
        (consult_touches s b.lines .slotMode (by decide) p).trans (not_not.mp stopped)
      have consulted := c.consult s b.lines h
      generalize s.consult b.lines = t at running consulted
      dsimp only
      split
      · exact consulted
      · split
        · exact consulted
        · split
          · exact consulted
          · exact c.commitAfterPost _ p b _ (c.placePost t p b running consulted)

theorem BlockClosed.commitRequest (p : Port) (body : List Byte) (s : State) (h : law s) : law (commitRequest p body s).1 := by
  unfold Machine.commitRequest
  split
  · exact h
  · split
    · exact h
    · exact c.commitSlots p .request _ s h

theorem BlockClosed.discardRequest (p : Port) (body : List Byte) (s : State) (h : law s) : law (discardRequest p body s).1 := by
  unfold Machine.discardRequest
  split
  · exact h
  · split
    · exact h
    · exact c.slots _ _ _ (cleared_slotsStep _) h

/-! ## Requests at the Timetable -/

theorem BlockClosed.cancelRequest (p : Port) (body : List Byte) (s : State) (h : law s) : law (cancelRequest p body s).1 := by
  unfold Machine.cancelRequest
  split
  · exact h
  · split
    · exact h
    · split
      · exact h
      · next e own =>
        refine c.trim _ _ (cancelList_trims s [e] (fun table x mem => ?_) fun _ => List.nodup_singleton _) h
        rw [List.mem_singleton.mp mem]
        exact (ownEntry_some table own).1
    · exact c.trim _ _ (cancelList_trims s _ (fun _ x mem => (List.mem_filter.mp mem).1) fun table => picked_apart table _) h

theorem BlockClosed.verdictRequest (p : Port) (body : List Byte) (s : State) (h : law s) : law (verdictRequest p body s).1 := by
  unfold Machine.verdictRequest
  split
  · exact h
  · split
    · exact h
    · exact c.trim _ _ (verdict_trims s _ _ _) h

theorem BlockClosed.amendChecked (s : State) (p : Port) (hd : Handle) (e : Entry) (due : Word32) (a : LineAction)
    (own : s.ownEntry p hd = some e) (h : law s) : law (s.amendChecked p e due a).1 := by
  unfold State.amendChecked
  have consulted := c.consult s e.fields.lines h
  dsimp only
  split
  · exact consulted
  · next leased =>
    rw [consult_of_leased (Bool.eq_false_iff.mpr leased)]
    split
    · exact h
    · split
      · exact h
      · next out outcome => exact c.amended s p hd e due a out own outcome h

theorem BlockClosed.amendRequest (p : Port) (body : List Byte) (s : State) (h : law s) : law (amendRequest p body s).1 := by
  unfold Machine.amendRequest
  split
  · exact h
  · split
    · exact h
    · split
      · exact h
      · next b _ _ e own =>
        split
        · split
          · exact h
          · split
            · exact h
            · exact c.amendChecked s p b.handle e _ _ own h
        · exact c.trim _ _ (removeCorrupt_trims s e) h

/-! ## Steps, hand-offs, visits -/

theorem BlockClosed.forwardStep (s : State) (pos : Word32) (h : law s) : law (s.forwardStep pos) :=
  c.closed _ _ (c.fires _ pos (c.trim _ _ (applyDefaults_trims s pos) h))

theorem BlockClosed.examinePlace (x : HandOff) (s : State) (n : TemplateNo) (h : law s) : law (s.examinePlace x n) := by
  unfold State.examinePlace
  split
  · exact h
  · next t _ =>
    split
    · split
      · have proposed := c.propose s (t.fields.proposal n x) h
        unfold State.instantiate
        dsimp only
        split
        · exact proposed
        · exact c.touched (instanceFailed_touches _ _ _ _ _) (by decide) proposed
      · exact c.touched (handFinding_touches _ _) (by decide) (c.touched (setPlace_touches s n none) (by decide) h)
    · exact h

theorem BlockClosed.visit (s : State) (pos : Nat) (h : law s) : law (s.visit pos) := by
  unfold State.visit
  split
  · exact c.trim _ _ (visitEntry_trims s _) h
  · split
    · unfold State.visitPlace
      split
      · exact h
      · split
        · exact h
        · exact c.touched (handFinding_touches _ _) (by decide) (c.touched (setPlace_touches s _ none) (by decide) h)
    · exact c.verifyLine s _ h

end

end Sys2Proof.Machine

/-! PROOFS. The commands between mode changes, writes of parameters and resets keep every law closed under the operations of the
blocks. -/

namespace Sys2Proof.Machine

/-! ## Writes taken at the blocks leave the mode changes -/

theorem changesOf_change (d : ModeChange) (q : List BlockMessage) : changesOf (.change d :: q) = d :: changesOf q := rfl

theorem changesOf_write (w : ParamWrite) (q : List BlockMessage) : changesOf (.write w :: q) = changesOf q := rfl

theorem changesOf_append (q r : List BlockMessage) : changesOf (q ++ r) = changesOf q ++ changesOf r := List.filterMap_append

/-- A write taken out of a block's messages leaves the mode changes among them. -/
theorem takeWrite_changesOf {α : Type} {f : ParamWrite → Option α} {q rest : List BlockMessage} {v : α}
    (h : takeWrite f q = some (v, rest)) : changesOf rest = changesOf q := by
  obtain ⟨pre, w, post, rfl, rfl, -⟩ := (takeWrite_iff f v q rest).mp h
  rw [changesOf_append, changesOf_append, changesOf_write]

theorem setToLines_still {s : State} {q : List BlockMessage} (h : changesOf q = changesOf s.wires.toLines) :
    Still s (s.setToLines q) :=
  ⟨(setToLines_touches s q).mono (by decide), h, rfl, fun _ => rfl⟩

theorem setToLog_still {s : State} {q : List BlockMessage} (h : changesOf q = changesOf s.wires.toLog) :
    Still s (s.setWires { s.wires with toLog := q }) := by
  refine ⟨?_, rfl, h, fun _ => rfl⟩
  intro x hx
  cases x <;> simp_all [Part.Same, stillParts]

theorem setToSlots_still {s : State} {p : Port} {q : List BlockMessage} (h : changesOf q = changesOf (s.wires.toSlots.get p)) :
    Still s (s.setWires { s.wires with toSlots := s.wires.toSlots.set p q }) := by
  refine ⟨(setToSlots_touches s _).mono (by decide), rfl, rfl, fun r => ?_⟩
  have wires : ((s.setWires { s.wires with toSlots := s.wires.toSlots.set p q }).wires.toSlots.get r)
      = (s.wires.toSlots.set p q).get r := rfl
  rw [wires, PerPort.get_set]
  split
  · next same => rw [same, h]
  · rfl

/-! ## Expiries of the engines -/

theorem changeEngine_linesStep {s : State} {l : LineNo} {f : Nat → Engine → Engine}
    (off : (s.line[l]).engine.isOff = true → (f s.line[l].rest s.line[l].engine).isOff = true) :
    LinesStep s (s.changeEngine l f) := setLine_linesStep (.of_engine rfl rfl rfl off)

/-- An engine that is OFF is so with a guard or with none. -/
theorem isOff_iff (e : Engine) : e.isOff = true ↔ ∃ g, e = .off g := by cases e <;> simp [Engine.isOff]

theorem atPulseEnd_isOff (now : Word32) (rest : Nat) (e : Engine) (off : e.isOff = true) :
    (e.atPulseEnd now rest).isOff = true := by
  obtain ⟨g, rfl⟩ := (isOff_iff e).mp off
  rfl

theorem atRestEnd_isOff (now : Word32) (e : Engine) (off : e.isOff = true) : (e.atRestEnd now).isOff = true := by
  obtain ⟨g, rfl⟩ := (isOff_iff e).mp off
  rfl

theorem dropGuard_isOff (e : Engine) (off : e.isOff = true) : e.dropGuard.isOff = true := by
  obtain ⟨g, rfl⟩ := (isOff_iff e).mp off
  rfl

theorem retimed_isOff (now : Word32) (rest : Nat) (e : Engine) (off : e.isOff = true) : (e.retimed now rest).isOff = true := by
  obtain ⟨g, rfl⟩ := (isOff_iff e).mp off
  cases g with
  | none => rfl
  | some g =>
    dsimp only [Engine.retimed]
    split <;> rfl

/-! ## The commands -/

section
variable {law : State → Prop} (c : BlockClosed law)
include c

omit c in
theorem whenRunning_law {f : State → State} {s t : State} (h : whenRunning f s = .next t) (hs : law s)
    (kept : law (f s)) : law t := by
  obtain rfl | ⟨-, rfl⟩ := whenRunning_cases h
  · exact hs
  · exact kept

theorem BlockClosed.stepAtTimetable {s t : State} (h : execStepAtTimetable s = .next t) (hs : law s) : law t := by
  have stepped (rest : List MotionEvent) (a : List (Option Nat)) (asked : Bool) : Touches [.motion, .asks, .tablePos] s
      ((s.setWires { s.wires with timetableMotion := rest, overrunAsks := a }).setTable
        { s.table with askedSafe := asked }) := by
    intro x hx; cases x <;> simp_all [Part.Same]
  have moved (u : State) (pos : Word32) : Touches [.motion, .asks, .tablePos] u (u.setTable { u.table with pos := pos }) := by
    intro x hx; cases x <;> simp_all [Part.Same]
  refine whenRunning_law h hs ?_
  split
  · next forward pos asks rest _ =>
    dsimp only
    split
    · exact hs
    · have taken := c.touched (stepped rest s.asksAfterStep asks) (by decide) hs
      generalize (s.setWires { s.wires with timetableMotion := rest, overrunAsks := s.asksAfterStep }).setTable
        { s.table with askedSafe := asks } = u at taken ⊢
      have there := c.touched (moved u pos) (by decide) taken
      unfold State.takeStep
      dsimp only
      split
      · exact c.forwardStep _ _ there
      · exact there
  · exact hs

theorem BlockClosed.stepAtSlots {p : Port} {s t : State} (h : execStepAtSlots p s = .next t) (hs : law s) : law t := by
  refine whenRunning_law h hs ?_
  split
  · next forward pos asks rest _ =>
    have moved := c.touched ((setSlotsMotion_touches s (s.wires.slotsMotion.set p rest)).comp (setSlotPos_touches _ p pos))
      (by decide) hs
    dsimp only
    split
    · exact c.leadCommits _ _ moved
    · exact moved
  · exact hs

theorem BlockClosed.writeCommitLead {p : Port} {s t : State} (h : execWriteCommitLead p s = .next t) (hs : law s) : law t := by
  refine whenRunning_law h hs ?_
  split
  · exact hs
  · next v q taken =>
    have written := c.touched (setSlotLead_touches _ p v) (by decide) (c.still _ _ (setToSlots_still (takeWrite_changesOf taken)) hs)
    dsimp only
    split
    · exact c.leadCommits _ _ written
    · exact written

theorem BlockClosed.writeHistoryPeriod {s t : State} (h : execWriteHistoryPeriod s = .next t) (hs : law s) : law t := by
  have timed (u : State) (n : HistoryPeriod) : Touches [.lineTimer] u
      (u.setLineBlock { u.lineBlock with historyStart := u.now, historyPeriod := n }) := by
    intro x hx; cases x <;> simp_all [Part.Same]
  refine whenRunning_law h hs ?_
  split
  · exact hs
  · next v q taken =>
    exact c.touched (timed (s.setToLines q) v) (by decide) (c.still _ _ (setToLines_still (takeWrite_changesOf taken)) hs)

theorem BlockClosed.writeRest {l : LineNo} {s t : State} (h : execWriteRest l s = .next t) (hs : law s) : law t := by
  refine whenRunning_law h hs ?_
  split
  · exact hs
  · next v q taken =>
    refine c.lines _ _ (setLine_linesStep (s := s.setToLines q) ?_) (c.still _ _ (setToLines_still (takeWrite_changesOf taken)) hs)
    exact .of_engine rfl rfl rfl (retimed_isOff _ _ _)

theorem BlockClosed.writeReadback {l : LineNo} {s t : State} (h : execWriteReadback l s = .next t) (hs : law s) : law t := by
  refine whenRunning_law h hs ?_
  split
  · exact hs
  · next v q taken =>
    refine c.lines _ _ (setLine_linesStep (s := s.setToLines q) ?_) (c.still _ _ (setToLines_still (takeWrite_changesOf taken)) hs)
    exact .of_engine rfl rfl rfl id

theorem BlockClosed.writeSensorFilter {k : SensorNo} {s t : State} (h : execWriteSensorFilter k s = .next t) (hs : law s) :
    law t := by
  refine whenRunning_law h hs ?_
  split
  · exact hs
  · next v q taken =>
    exact c.touched ((setSensor_touches _ _ _).comp (completeIfDue_touches _ _)) (by decide)
      (c.still _ _ (setToLog_still (takeWrite_changesOf taken)) hs)

theorem BlockClosed.captureHandOff {s t : State} (h : execCaptureHandOff s = .next t) (hs : law s) : law t := by
  refine whenRunning_law h hs ?_
  split
  · exact hs
  · next x rest _ =>
    exact foldl_law (c.examinePlace x) _ _ (c.touched (setHandOffs_touches s rest) (by decide) hs)

theorem BlockClosed.historyPeriodBoundary {s t : State} (h : execHistoryPeriodBoundary s = .next t) (hs : law s) : law t := by
  refine whenRunning_law h hs ?_
  split
  · exact c.boundary s hs
  · exact hs

theorem BlockClosed.settleExpiry {l : LineNo} {rb : Bool} {s t : State} (h : execSettleExpiry l rb s = .next t) (hs : law s) :
    law t := by
  refine whenRunning_law h hs ?_
  split
  · exact c.completeSettle s l rb hs
  · exact hs

theorem BlockClosed.pulseEnd {l : LineNo} {s t : State} (h : execPulseEnd l s = .next t) (hs : law s) : law t := by
  refine whenRunning_law h hs ?_
  split
  · exact c.closed _ _ (c.lines _ _ (changeEngine_linesStep (atPulseEnd_isOff _ _ _)) hs)
  · exact hs

theorem BlockClosed.restEnd {l : LineNo} {s t : State} (h : execRestEnd l s = .next t) (hs : law s) : law t := by
  refine whenRunning_law h hs ?_
  split
  · exact c.closed _ _ (c.lines _ _ (changeEngine_linesStep (atRestEnd_isOff _ _)) hs)
  · exact hs

theorem BlockClosed.restGuardEnd {l : LineNo} {s t : State} (h : execRestGuardEnd l s = .next t) (hs : law s) : law t := by
  refine whenRunning_law h hs ?_
  split
  · exact c.lines _ _ (changeEngine_linesStep (dropGuard_isOff _)) hs
  · exact hs

theorem BlockClosed.scrubVisit {s t : State} (h : execScrubVisit s = .next t) (hs : law s) : law t := by
  refine whenRunning_law h hs ?_
  split
  · exact c.touched (visited_touches _ _) (by decide) (c.visit s _ hs)
  · exact hs

theorem BlockClosed.defineRequest (p : Port) (body : List Byte) (s : State) (h : law s) : law (defineRequest p body s).1 := by
  unfold Machine.defineRequest
  split
  · exact h
  · split
    · exact h
    · next b _ =>
      split
      · exact h
      · have consulted := c.consult s b.lines h
        dsimp only
        split
        · exact consulted
        · split
          · exact consulted
          · exact c.touched (setPlace_touches _ _ _) (by decide) consulted

theorem BlockClosed.resetPort {p : Port} {s t : State} (h : execResetPort p s = .next t) (hs : law s) : law t := by
  obtain rfl | ⟨w, -, ⟨n, x, rfl⟩ | rfl⟩ := execResetPort_cases h
  · exact hs
  · refine c.touched (setPhase_touches _ _ _ _) (by decide) ?_
    unfold State.portResetPart
    split
    · exact c.touched (setPlaces_touches s _) (by decide) hs
    · exact c.slots _ _ _ (cleared_slotsStep _) hs
    · exact c.trim _ _ (dropEntries_trims s p) hs
    · exact c.cut _ _ _ (c.lines _ _ (changeLines_linesStep s _ (dropShare_lineStep p)) hs)
    · exact c.touched (setLog_touches (s := s) rfl) (by decide) hs
    · split
      · exact c.touched (setNotices_touches s _ _) (by decide) hs
      · exact hs
  · exact c.touched (setPhase_touches s p w _) (by decide) hs

omit c in
/-- The commands of resets, of the Mode Controller's mode, causes and parameters, and of the mode changes at the blocks. -/
def changesMode : Instr → Bool
  | .powerOnReset | .resetnAssert | .resetEnd | .selectRelease _ | .resetDevice => true
  | .initEnd | .safeinAssert | .safeRequestOverrun | .corruptionFinding _ | .setParam | .start | .stop | .resume => true
  | .timetableEmptying | .slotsEmptying _ | .templatesSuspension | .enginesOff | .modeChangeTakenAtBlock _ => true
  | _ => false

omit c in
/-- The command touches only parts that no such law reads. -/
def touchesStill (i : Instr) : Bool := (touchesOf i).all fun x => stillParts.contains x

theorem BlockClosed.quiet {i : Instr} {s t : State} (h : Machine.exec i s = .next t) (quiet : touchesStill i = true)
    (hs : law s) : law t :=
  c.touched (exec_touches i h) (fun x hx => by simpa using List.all_eq_true.mp quiet x hx) hs

/-- Every other command keeps the law. -/
theorem BlockClosed.exec (i : Instr) (s t : State) (other : changesMode i = false) (hs : law s) (h : exec i s = .next t) :
    law t := by
  cases i with
  | stepAtTimetable => exact c.stepAtTimetable h hs
  | stepAtSlots p => exact c.stepAtSlots h hs
  | captureHandOff => exact c.captureHandOff h hs
  | historyPeriodBoundary => exact c.historyPeriodBoundary h hs
  | settleExpiry l rb => exact c.settleExpiry h hs
  | pulseEnd l => exact c.pulseEnd h hs
  | restEnd l => exact c.restEnd h hs
  | restGuardEnd l => exact c.restGuardEnd h hs
  | scrubVisit => exact c.scrubVisit h hs
  | writeCommitLead p => exact c.writeCommitLead h hs
  | writeHistoryPeriod => exact c.writeHistoryPeriod h hs
  | writeRest l => exact c.writeRest h hs
  | writeReadback l => exact c.writeReadback h hs
  | writeSensorFilter k => exact c.writeSensorFilter h hs
  | leaseLines p => exact c.served h hs (c.leaseRequest p · s hs)
  | releaseLines p => exact c.served h hs (c.releaseRequest p · s hs)
  | revokeLines => exact c.served h hs (c.revokeRequest · s hs)
  | forceLines => exact c.served h hs (c.forceRequest · s hs)
  | unforceLines => exact c.served h hs (c.unforceRequest · s hs)
  | clearLineFault => exact c.served h hs (c.clearFaultRequest · s hs)
  | post p => exact c.served h hs (c.postRequest p · s hs)
  | commit p => exact c.served h hs (c.commitRequest p · s hs)
  | discardStaged p => exact c.served h hs (c.discardRequest p · s hs)
  | cancelEntries p => exact c.served h hs (c.cancelRequest p · s hs)
  | amendEntry p => exact c.served h hs (c.amendRequest p · s hs)
  | defineTemplate p => exact c.served h hs (c.defineRequest p · s hs)
  | verdict p => exact c.served h hs (c.verdictRequest p · s hs)
  | resetPort p => exact c.resetPort h hs
  | powerOnReset | resetnAssert | resetEnd | selectRelease _ | resetDevice => cases other
  | initEnd | safeinAssert | safeRequestOverrun | corruptionFinding _ | setParam | start | stop | resume => cases other
  | timetableEmptying | slotsEmptying _ | templatesSuspension | enginesOff | modeChangeTakenAtBlock _ => cases other
  | _ => exact c.quiet h rfl hs

end

end Sys2Proof.Machine

/-! PROOFS. The laws of the line records and of the slots are kept by every step (O55, O54). -/

namespace Sys2Proof.Machine

/-! ## Resets -/

/-- The commands that can reset the part. -/
def resets : Instr → Bool
  | .powerOnReset | .resetnAssert | .resetEnd | .selectRelease _ | .resetDevice => true
  | _ => false

/-- What holds as a reset starts and ends, and is not about the ports, is kept by every command that can reset the part. -/
theorem exec_resets {law : State → Prop} (ports : ∀ s t, Touches [.ports, .softArmed] s t → law s → law t)
    (started : ∀ (s : State) k, law (s.startReset k)) (ended : ∀ (s : State) k, law s → law (s.restarted s.control.params k).consultSafeIn)
    (soft : ∀ s : State, law s → law s.softReset) (i : Instr) (s t : State) (reset : resets i = true) (hs : law s)
    (h : exec i s = .next t) : law t := by
  cases i with
  | powerOnReset => obtain rfl := Host.Outcome.next.inj h; exact started s _
  | resetnAssert => obtain rfl := Host.Outcome.next.inj h; exact started s _
  | resetEnd =>
    obtain rfl | ⟨k, -, rfl⟩ := execResetEnd_cases h
    · exact hs
    · exact ended s k hs
  | selectRelease p =>
    have closed (r : PortRec) : law (s.setPort p r) := ports _ _ ((setPort_touches s p r).mono (by decide)) hs
    obtain rfl | ⟨-, rfl | rfl⟩ := execSelectRelease_cases h
    · exact hs
    · exact closed _
    · exact soft _ (closed _)
  | resetDevice =>
    have armed : Touches [.softArmed] s (s.setControl { s.control with softArmed := true }) := by
      intro x hx; cases x <;> simp_all [Part.Same]
    obtain rfl | rfl | ⟨w, ph, -, rfl | rfl⟩ := execResetDevice_cases h
    · exact hs
    · exact soft s hs
    · exact ports _ _ ((setPhase_touches s _ _ _).mono (by decide)) hs
    · exact ports _ _ ((armed.comp (setPhase_touches _ _ _ _)).mono (by decide)) hs
  | _ => cases reset

/-- A law read off parts that no SAFE cause touches, and that holds of the reset values whatever the parameters and the
engines, is kept by every command that can reset the part. -/
theorem exec_resets_of_parts {law : State → Prop} {parts : List Part} (same : ∀ s t, (∀ x ∈ parts, x.Same s t) → law s → law t)
    (apart : ∀ x ∈ parts, x ∉ causeParts ∧ x ∉ [.inReset, .ports, .softArmed])
    (values : ∀ (s : State) (q : Params) (k : ResetKind) (engine : LineNo → Engine), law { s.restarted q k with
      line := Vector.ofFn fun l => { (s.restarted q k).line[l] with engine := engine l } })
    (i : Instr) (s t : State) (reset : resets i = true) (hs : law s) (h : exec i s = .next t) : law t := by
  have consulted (u : State) (hu : law u) : law u.consultSafeIn :=
    same _ _ (fun x hx => consultSafeIn_touches u x (apart x hx).1) hu
  have plain (u : State) (q : Params) (k : ResetKind) : law (u.restarted q k) := by
    have kept := values u q k fun l => (u.restarted q k).line[l].engine
    have line : (Vector.ofFn fun l : LineNo => { (u.restarted q k).line[l] with engine := (u.restarted q k).line[l].engine })
        = (u.restarted q k).line := Vector.ext fun i hi => by simp
    rw [line] at kept
    exact kept
  refine exec_resets (fun u v hv => same u v fun x hx => hv x fun mem => (apart x hx).2 (List.mem_cons_of_mem _ mem))
    (fun u k => same _ _ (fun x hx => ?_) (plain u Params.default k)) (fun u k _ => consulted _ (plain u _ k)) (fun u _ => ?_)
    i s t reset hs h
  · have held := (apart x hx).2
    unfold State.startReset
    generalize u.restarted Params.default k = v
    cases x <;> first | rfl | exact ⟨rfl, rfl⟩ | exact ⟨rfl, rfl, rfl⟩ | exact fun _ => rfl | exact fun _ => ⟨rfl, rfl⟩ | simp at held
  · rw [softReset_eq]
    exact consulted _ (values u _ _ fun l => u.line[l].engine.afterSoftReset u.control.params.rest[l])

/-! ## The line records (R21) -/

theorem lineLaw_of_line {s t : State} (line : t.line = s.line) (law : s.lineLaw) : t.lineLaw := by
  unfold State.lineLaw
  rw [line]
  exact law

theorem actedOn_lineLaw (now : Word32) (a : LineAction) {r : LineRec} (law : LineLaw r) : LineLaw (actedOn now a r) := by
  unfold actedOn
  split
  · exact law
  · exact law.of_same rfl rfl rfl

theorem linesAfterFires_lineLaw (now : Word32) (es : List Entry) (v : Vector LineRec 32) (law : ∀ l : LineNo, LineLaw v[l]) :
    ∀ l : LineNo, LineLaw (linesAfterFires now v es)[l] := by
  induction es generalizing v with
  | nil => exact law
  | cons e es ih =>
    refine ih (linesFired now e v) fun l => ?_
    unfold linesFired
    split
    · rw [linesActed_get]
      split
      · exact actedOn_lineLaw now _ (law l)
      · exact law l
    · exact law l

theorem fireDue_lineLaw (s : State) (pos : Word32) (law : s.lineLaw) : (s.fireDue pos).lineLaw := by
  obtain ⟨v, frame, -⟩ := fires_frame (s.table.live.filter (Entry.firesAt pos)) s
  have line : (s.fireDue pos).line = linesAfterFires s.now s.line (s.table.live.filter (Entry.firesAt pos)) := by
    unfold State.fireDue
    generalize (s.table.live.filter (Entry.firesAt pos)).foldl State.fireEntry s = t at frame ⊢
    rw [frame]
  unfold State.lineLaw
  rw [line]
  exact linesAfterFires_lineLaw _ _ _ law

theorem lineLaw_closed : BlockClosed State.lineLaw where
  still s t h := lineLaw_of_line (h.1 .line (by decide))
  lines s t h law l := (h.2 l).1 (law l)
  cut s p x := lineLaw_of_line rfl
  slots s p b _ := lineLaw_of_line rfl
  trim s t h := lineLaw_of_line (h.touches .line (by decide))
  fires := fireDue_lineLaw
  placed s n out _ _ _ := lineLaw_of_line (placeProposal_touches s n out .line (by decide))
  amended s p h e due a out _ _ :=
    lineLaw_of_line (((displaceAll_touches s out).comp (putEntry_touches _ _)) .line (by decide))

theorem lineLaw_of_parts (s t : State) (same : ∀ x ∈ [Part.line], x.Same s t) : s.lineLaw → t.lineLaw :=
  lineLaw_of_line (same .line (List.mem_singleton_self _))

theorem enginesOff_lineLaw {s t : State} (h : execEnginesOff s = .next t) (law : s.lineLaw) : t.lineLaw := by
  refine whenRunning_law h law ?_
  split
  · exact law
  · next d q _ =>
    refine lineLaw_closed.closed _ _ fun l => ?_
    dsimp only
    have torn (f : LineRec → LineRec) (fields : ∀ r, (f r).leaseMode = r.leaseMode ∧ (f r).shares = r.shares
        ∧ (f r).mismatch = r.mismatch) : LineLaw (s.line.map f)[l] := by
      have record : (s.line.map f)[l] = f s.line[l] := by simp
      obtain ⟨mode, shares, mismatch⟩ := fields s.line[l]
      rw [record]
      exact (law l).of_same mode shares mismatch
    exact torn _ fun r => by split <;> exact ⟨rfl, rfl, rfl⟩

theorem changeAtLines_lineLaw (s : State) (law : s.lineLaw) : s.changeAtLines.lineLaw := by
  unfold State.changeAtLines
  split
  · exact law
  · exact lineLaw_closed.closed _ _ law

theorem exec_keeps_lineLaw (i : Instr) (s t : State) (law : s.lineLaw) (h : exec i s = .next t) : t.lineLaw := by
  by_cases reset : resets i = true
  · refine exec_resets_of_parts lineLaw_of_parts (by decide) (fun u q k engine l => ?_) i s t reset law h
    have record : (u.restarted q k).line[l] = LineRec.initial q.rest[l] q.readback[l] := by
      simp [State.restarted, State.afterReset]
    have kept := initial_lineLaw q.rest[l] q.readback[l]
    rw [← record] at kept
    generalize u.restarted q k = v at kept
    dsimp only
    rw [Fin.getElem_fin, Vector.getElem_ofFn]
    exact kept.of_same rfl rfl rfl
  · by_cases other : changesMode i = false
    · exact lineLaw_closed.exec i s t other law h
    · cases i with
      | enginesOff => exact enginesOff_lineLaw h law
      | modeChangeTakenAtBlock b =>
        cases b with
        | lines => exact whenRunning_law h law (changeAtLines_lineLaw s law)
        | _ => exact lineLaw_of_parts s t (exec_same_of_spares h rfl) law
      | initEnd | safeinAssert | safeRequestOverrun | corruptionFinding _ | setParam | start | stop | resume
      | timetableEmptying | slotsEmptying _ | templatesSuspension =>
        exact lineLaw_of_parts s t (exec_same_of_spares h rfl) law
      | _ => first | exact absurd rfl other | exact absurd rfl reset

/-- Settles O55, by the operations that write a line record and one lemma for each command that stops the engines. -/
theorem stepsKeepTheLineLaw : Obligations.StepsKeepTheLineLaw :=
  step_keeps (fun s t same => lineLaw_of_line (same .line (by decide))) exec_keeps_lineLaw

/-! ## The slots (R72) -/

theorem slotsLaw_of_contents {s t : State} (same : Part.slotContents.Same s t) (law : s.slotsLaw) : t.slotsLaw := by
  intro p
  obtain ⟨slot, age⟩ := same p
  unfold SlotsLaw
  rw [slot, age]
  exact law p

theorem slotsLaw_closed : BlockClosed State.slotsLaw where
  still s t h := slotsLaw_of_contents (h.1 .slotContents (by decide))
  lines s t h := slotsLaw_of_contents (by rw [h.1]; exact fun _ => ⟨rfl, rfl⟩)
  cut := cut_slotsLaw
  slots s p b h law q := by
    rw [State.setSlots_slots, PerPort.get_set]
    split
    · exact h.law (law p)
    · exact law q
  trim s t h := slotsLaw_of_contents (h.touches .slotContents (by decide))
  fires s pos :=
    slotsLaw_of_contents (Touches.foldl fireEntry_touches (s.table.live.filter (Entry.firesAt pos)) s .slotContents (by decide))
  placed s n out _ _ _ := slotsLaw_of_contents (placeProposal_touches s n out .slotContents (by decide))
  amended s p h e due a out _ _ :=
    slotsLaw_of_contents (((displaceAll_touches s out).comp (putEntry_touches _ _)) .slotContents (by decide))

theorem slotsLaw_of_parts (s t : State) (same : ∀ x ∈ [Part.slotContents], x.Same s t) : s.slotsLaw → t.slotsLaw :=
  slotsLaw_of_contents (same .slotContents (List.mem_singleton_self _))

theorem slotsEmptying_slotsLaw {p : Port} {s t : State} (h : execSlotsEmptying p s = .next t) (law : s.slotsLaw) :
    t.slotsLaw := by
  refine whenRunning_law h law ?_
  split
  · exact law
  · intro q
    dsimp only
    rw [State.setSlots_slots, PerPort.get_set]
    split
    · exact cleared_slotsLaw (s.slots.get p)
    · exact law q

theorem exec_keeps_slotsLaw (i : Instr) (s t : State) (law : s.slotsLaw) (h : exec i s = .next t) : t.slotsLaw := by
  by_cases reset : resets i = true
  · refine exec_resets_of_parts slotsLaw_of_parts (by decide) (fun u q k engine p => ?_) i s t reset law h
    have slots : (u.restarted q k).slots.get p = Slots.initial q.commitLead := PerPort.get_const ..
    dsimp only
    rw [slots]
    exact initial_slotsLaw _
  · by_cases other : changesMode i = false
    · exact slotsLaw_closed.exec i s t other law h
    · cases i with
      | slotsEmptying p => exact slotsEmptying_slotsLaw h law
      | modeChangeTakenAtBlock b => exact slotsLaw_of_parts s t (exec_same_of_spares h (by cases b <;> rfl)) law
      | initEnd | safeinAssert | safeRequestOverrun | corruptionFinding _ | setParam | start | stop | resume
      | timetableEmptying | templatesSuspension | enginesOff =>
        exact slotsLaw_of_parts s t (exec_same_of_spares h rfl) law
      | _ => first | exact absurd rfl other | exact absurd rfl reset

/-- Settles O54, by the operations on a port's slots. -/
theorem stepsKeepTheSlotsLaw : Obligations.StepsKeepTheSlotsLaw :=
  step_keeps (fun s t same => slotsLaw_of_contents (same .slotContents (by decide))) exec_keeps_slotsLaw

end Sys2Proof.Machine

/-! PROOFS. The law of the Timetable is kept by every step (O53). -/

namespace Sys2Proof.Machine

/-! ## Entries placed and amended -/

/-- A table with one more entry at an index of its own, under the next generation of that index. -/
theorem tableLaw_of_admitted {s t : State} {n : Proposal} {found : List (Entry × LineSet)} {h : Handle} (law : TableLaw s.table)
    (room : s.table.live.length < Config.tableCapacity) (admitted : AdmittedInto s n found h t) : TableLaw t.table := by
  obtain ⟨fresh, -, generation, frame, counted, -⟩ := admitted
  obtain ⟨-, distinct, handles, -⟩ := law
  have fewer : (withoutDisplaced s.table.live found).length ≤ s.table.live.length := List.length_filter_le _ _
  have stay : (withoutDisplaced s.table.live found).Sublist s.table.live := List.filter_sublist
  generalize withoutDisplaced s.table.live found = left at fresh fewer stay frame
  have live := congrArg (fun u : State => u.table.live) frame
  have generations := congrArg (fun u : State => u.table.generations) frame
  dsimp only at live generations
  refine ⟨?_, ?_, fun e mem => ?_, counted⟩
  · rw [live, List.length_append, List.length_singleton]
    omega
  · rw [live, List.map_append, List.nodup_append]
    refine ⟨distinct.sublist (stay.map _), List.nodup_singleton _, fun i hi j hj => ?_⟩
    obtain ⟨e, mem, rfl⟩ := List.mem_map.mp hi
    obtain rfl := List.mem_singleton.mp hj
    exact fresh e mem
  · rw [generations]
    rw [live] at mem
    obtain old | new := List.mem_append.mp mem
    · rw [handles e (stay.mem old), set_other _ _ (fresh e old)]
    · obtain rfl := List.mem_singleton.mp new
      dsimp only
      rw [set_same]

theorem admissionStatus_room {s : State} {n : Proposal} (passes : s.admissionStatus n = none) :
    s.table.limits.quota.get n.owner > s.table.liveCount.get n.owner ∧ s.table.live.length < Config.tableCapacity := by
  unfold State.admissionStatus at passes
  split at passes
  · cases passes
  · split at passes
    · cases passes
    · split at passes
      · cases passes
      · omega

theorem placeProposal_tableLaw (s : State) (n : Proposal) (out : List (Entry × LineSet)) (passes : s.admissionStatus n = none)
    (outcome : conflictOutcome s.table.limits n.owner
      (conflicts s.table.limits n.owner n.lines n.due s.table.live) = some out) (law : s.tableLaw) :
    (s.placeProposal n out).1.tableLaw := by
  obtain ⟨-, room⟩ := admissionStatus_room passes
  obtain ⟨h, t, placed, admitted⟩ := placeProposal_admits s n law room
  rw [conflictOutcome_some _ _ _ _ outcome, placed]
  exact tableLaw_of_admitted law room admitted

/-- An entry of the table as the amendment of `e` leaves it: that of its index is `e` with the new due and action (R64). -/
def amendedIn (e : Entry) (due : Word32) (a : LineAction) (x : Entry) : Entry :=
  if x.index = e.index then e.rewrite { e.fields with due := due, action := a } else x

theorem amendedIn_same {e x : Entry} (due : Word32) (a : LineAction) (same : x.index = e.index) :
    amendedIn e due a x = e.rewrite { e.fields with due := due, action := a } := if_pos same

theorem amendedIn_other {e x : Entry} (due : Word32) (a : LineAction) (other : x.index ≠ e.index) : amendedIn e due a x = x :=
  if_neg other

theorem amendedIn_index (e : Entry) (due : Word32) (a : LineAction) (x : Entry) : (amendedIn e due a x).index = x.index := by
  unfold amendedIn
  split
  · next same => exact same.symm
  · rfl

/-- The table after an amendment: the displaced entries leave, the entry is rewritten in its place. -/
theorem amendEntry_table {s : State} (law : TableLaw s.table) (p : Port) (e : Entry) (due : Word32) (a : LineAction) :
    let found := conflicts s.table.limits p e.fields.lines due s.table.live
    ∃ c, (s.amendEntry e due a found).1.table = { s.table with
        live := (withoutDisplaced s.table.live found).map (amendedIn e due a)
        liveCount := c }
      ∧ ∀ r, c.get r = ownedBy (withoutDisplaced s.table.live found) r := by
  intro found
  obtain ⟨c, v, displaced, counted, -⟩ : ∃ (c : PerPort Nat) (v : PerPort (List PostedNotice)), _ :=
    displaceConflicts_eq s law s.table.limits p e.fields.lines due
  refine ⟨c, ?_, counted⟩
  unfold State.amendEntry State.putEntry
  rw [displaced]
  rfl

theorem amendEntry_tableLaw (s : State) (p : Port) (h : Handle) (e : Entry) (due : Word32) (a : LineAction)
    (out : List (Entry × LineSet)) (own : s.ownEntry p h = some e) (outcome : conflictOutcome s.table.limits p
      (conflicts s.table.limits p e.fields.lines due s.table.live) = some out) (law : s.tableLaw) :
    (s.amendEntry e due a out).1.tableLaw := by
  obtain ⟨mem, -, -⟩ := ownEntry_some law own
  obtain ⟨c, table, counted⟩ := amendEntry_table law p e due a
  rw [conflictOutcome_some _ _ _ _ outcome]
  unfold State.tableLaw
  rw [table]
  obtain ⟨room, distinct, handles, -⟩ := law
  generalize conflicts s.table.limits p e.fields.lines due s.table.live = found at counted ⊢
  have stay : (withoutDisplaced s.table.live found).Sublist s.table.live := List.filter_sublist
  generalize withoutDisplaced s.table.live found = left at stay counted ⊢
  have only (x : Entry) (there : x ∈ left) (same : x.index = e.index) : x = e :=
    List.inj_on_of_nodup_map distinct (stay.mem there) mem same
  have owner (x : Entry) (there : x ∈ left) : (amendedIn e due a x).fields.owner = x.fields.owner := by
    by_cases same : x.index = e.index
    · rw [amendedIn_same due a same, only x there same]
      rfl
    · rw [amendedIn_other due a same]
  refine ⟨?_, ?_, fun y hy => ?_, fun r => (counted r).trans (ownedBy_map owner r).symm⟩
  · dsimp only
    rw [List.length_map]
    exact stay.length_le.trans room
  · dsimp only
    have indices : Entry.index ∘ amendedIn e due a = Entry.index := funext (amendedIn_index e due a)
    rw [List.map_map, indices]
    exact distinct.sublist (stay.map _)
  · obtain ⟨x, there, rfl⟩ := List.mem_map.mp hy
    by_cases same : x.index = e.index
    · rw [amendedIn_same due a same]
      exact handles e mem
    · rw [amendedIn_other due a same]
      exact handles x (stay.mem there)

/-! ## The commands -/

theorem tableLaw_of_table {s t : State} (table : t.table = s.table) (law : s.tableLaw) : t.tableLaw := by
  unfold State.tableLaw
  rw [table]
  exact law

theorem tableLaw_of_parts (s t : State) (same : ∀ x ∈ [Part.entries, Part.generations], x.Same s t) (law : s.tableLaw) :
    t.tableLaw := by
  obtain ⟨live, count⟩ := same .entries (by decide)
  have generations := same .generations (by decide)
  unfold State.tableLaw TableLaw
  rw [live, count, generations]
  exact law

theorem tableLaw_closed : BlockClosed State.tableLaw where
  still s t h := tableLaw_of_parts s t fun x hx => h.1 x (by revert hx; cases x <;> decide)
  lines s t h := tableLaw_of_table (by rw [h.1])
  cut s p x := (cut_trim s p x).law
  slots s p b _ := tableLaw_of_table rfl
  trim s t h := h.trim.law
  fires s pos := (fireDue_trim s pos).law
  placed s n out _ passes outcome := placeProposal_tableLaw s n out passes outcome
  amended := amendEntry_tableLaw

theorem tableLaw_emptied {t : Timetable} (live : t.live = []) (count : t.liveCount = PerPort.const 0) : TableLaw t := by
  unfold TableLaw
  rw [live, count]
  refine ⟨Nat.zero_le _, List.nodup_nil, fun e mem => absurd mem List.not_mem_nil, fun p => ?_⟩
  rw [PerPort.get_const]
  rfl

theorem timetableEmptying_tableLaw {s t : State} (h : execTimetableEmptying s = .next t) (law : s.tableLaw) : t.tableLaw := by
  refine whenRunning_law h law ?_
  split
  · exact law
  · exact tableLaw_emptied rfl rfl

theorem exec_keeps_tableLaw (i : Instr) (s t : State) (law : s.tableLaw) (h : exec i s = .next t) : t.tableLaw := by
  by_cases reset : resets i = true
  · exact exec_resets_of_parts tableLaw_of_parts (by decide) (fun u q k engine => tableLaw_emptied rfl rfl) i s t reset law h
  · by_cases other : changesMode i = false
    · exact tableLaw_closed.exec i s t other law h
    · cases i with
      | timetableEmptying => exact timetableEmptying_tableLaw h law
      | modeChangeTakenAtBlock b => exact tableLaw_of_parts s t (exec_same_of_spares h (by cases b <;> rfl)) law
      | initEnd | safeinAssert | safeRequestOverrun | corruptionFinding _ | setParam | start | stop | resume
      | slotsEmptying _ | templatesSuspension | enginesOff =>
        exact tableLaw_of_parts s t (exec_same_of_spares h rfl) law
      | _ => first | exact absurd rfl other | exact absurd rfl reset

/-- Settles O53: entries leave or shrink, or one is placed at a free index or rewritten in its place. -/
theorem stepsKeepTheTableLaw : Obligations.StepsKeepTheTableLaw := by
  refine step_keeps (fun s t same => tableLaw_of_parts s t fun x hx => same x ?_) exec_keeps_tableLaw
  revert hx; cases x <;> decide

end Sys2Proof.Machine

/-! PROOFS. The law of the mode across the blocks (R104, R141): mode changes handed on and taken, and the Line Block in step with
the Timetable. -/

namespace Sys2Proof.Machine

/-! ## Changes that lead from one mode to another -/

theorem leadsTo_append {m last new : Mode} {q : List ModeChange} (r : Bool) (leads : leadsTo m q last)
    (legal : legalChange last new = true) : leadsTo m (q ++ [{ old := last, new := new, ready := r }]) new := by
  induction q generalizing m with
  | nil =>
    obtain rfl := leads
    exact ⟨rfl, legal, rfl⟩
  | cons d q ih =>
    obtain ⟨old, step, rest⟩ := leads
    exact ⟨old, step, ih rest⟩

theorem leadsTo_tail {m last : Mode} {c : ModeChange} {q : List ModeChange} (leads : leadsTo m (c :: q) last) :
    leadsTo c.new q last := by
  obtain ⟨-, -, rest⟩ := leads
  exact rest

/-- Marks of readiness do not matter to where changes lead. -/
theorem leadsTo_of_modes {m last : Mode} {q r : List ModeChange} (same : r.map ModeChange.modes = q.map ModeChange.modes)
    (leads : leadsTo m q last) : leadsTo m r last := by
  induction q generalizing m r with
  | nil => rw [List.map_eq_nil_iff.mp same]; exact leads
  | cons d q ih =>
    obtain ⟨e, r, rfl, head, tail⟩ := List.map_eq_cons_iff.mp same
    obtain ⟨old, step, rest⟩ := leads
    obtain ⟨old_eq, new_eq⟩ := Prod.mk.inj head
    exact ⟨old_eq.trans old, by rw [old_eq, new_eq]; exact step, by rw [new_eq]; exact ih tail rest⟩

/-- After changes that lead on, the mode is that of the last change. -/
theorem leadsTo_split {m last : Mode} {q r : List ModeChange} (leads : leadsTo m (q ++ r) last) :
    ∃ n, leadsTo n r last ∧ (q = [] → n = m) ∧ ∀ (i : Nat) (h : i < q.length), i + 1 = q.length → n = (q[i]).new := by
  induction q generalizing m with
  | nil => exact ⟨m, leads, fun _ => rfl, fun i h => absurd h (Nat.not_lt_zero i)⟩
  | cons d q ih =>
    obtain ⟨-, -, rest⟩ := leads
    obtain ⟨n, after, first, final⟩ := ih rest
    refine ⟨n, after, fun h => absurd h (List.cons_ne_nil _ _), fun i h last => ?_⟩
    cases i with
    | zero => exact first (List.length_eq_zero_iff.mp (by simpa using last.symm))
    | succ i => exact final i (by simpa using h) (by simpa using last)

/-- Changes lead to one mode from one mode. -/
theorem leadsTo_start {m n last : Mode} {q : List ModeChange} (h : leadsTo m q last) (k : leadsTo n q last) : m = n := by
  cases q with
  | nil => exact Eq.trans h (Eq.symm k)
  | cons d q =>
    obtain ⟨first, -⟩ := h
    obtain ⟨second, -⟩ := k
    exact first.symm.trans second

theorem modes_teardown {c d : ModeChange} (same : c.modes = d.modes) : c.teardown = d.teardown := by
  obtain ⟨old, new⟩ := Prod.mk.inj same
  unfold ModeChange.teardown
  rw [old, new]

theorem modes_new {c d : ModeChange} (same : c.modes = d.modes) : c.new = d.new := (Prod.mk.inj same).2

/-- A change out of RUN is a teardown. -/
theorem teardown_of_run {c : ModeChange} (legal : legalChange c.old c.new = true) (running : c.old = .run) :
    c.teardown = true := by
  rw [running] at legal
  unfold ModeChange.teardown
  rw [running]
  revert legal
  cases c.new <;> decide

theorem teardown_new {c : ModeChange} (torn : c.teardown = true) : c.new ≠ .run := by
  obtain safe | ⟨-, config⟩ := (teardown_iff c).mp torn
  · rw [safe]; decide
  · rw [config]; decide

/-! ## The Line Block in step with the Timetable -/

/-- Two lists of changes of which one is the other's end have equal modes at equal distances from the end. -/
theorem modes_at {t l : List ModeChange} (ends : (t.map ModeChange.modes) <:+ (l.map ModeChange.modes)) (i : Nat)
    (h : i < t.length) (k : i + (l.length - t.length) < l.length) : (l[i + (l.length - t.length)]).modes = (t[i]).modes := by
  obtain ⟨before, split⟩ := ends
  have lengths := congrArg List.length split
  simp only [List.length_append, List.length_map] at lengths
  have here : (l.map ModeChange.modes)[i + (l.length - t.length)]'(by simpa using k) = (t.map ModeChange.modes)[i]'(by simpa using h) := by
    have at_split : (before ++ t.map ModeChange.modes)[i + (l.length - t.length)]'(by simp; omega)
        = (t.map ModeChange.modes)[i]'(by simpa using h) := by
      rw [List.getElem_append_right (by omega)]
      congr 1
      omega
    rw [← at_split]
    simp only [split]
  simpa using here

theorem suffix_length {t l : List ModeChange} (ends : (t.map ModeChange.modes) <:+ (l.map ModeChange.modes)) :
    t.length ≤ l.length := by simpa using ends.length_le

/-- The shorter list is the end of the longer one. -/
theorem InStep.ends {t l : List ModeChange} (step : InStep t l) :
    (t.length ≤ l.length ∧ (t.map ModeChange.modes) <:+ (l.map ModeChange.modes))
    ∨ (l.length < t.length ∧ (l.map ModeChange.modes) <:+ (t.map ModeChange.modes)) := by
  obtain ⟨lines | table, -⟩ := step
  · by_cases shorter : l.length < t.length
    · exact .inr ⟨shorter, lines⟩
    · have same : l.map ModeChange.modes = t.map ModeChange.modes := lines.eq_of_length (by
        have := suffix_length lines
        simp only [List.length_map]
        omega)
      exact .inl ⟨by omega, by rw [same]⟩
  · exact .inl ⟨suffix_length table, table⟩

/-- A change handed on to both. -/
theorem InStep.handed {t l : List ModeChange} (step : InStep t l) {c d : ModeChange} (same : d.modes = c.modes)
    (ready : d.ready = !c.teardown) : InStep (t ++ [c]) (l ++ [d]) := by
  obtain ⟨ends, torn, plain, run, ahead⟩ := step
  have torn_d := modes_teardown same
  have at_l (i : Nat) (h : i < (l ++ [d]).length) : (∃ k : i < l.length, (l ++ [d])[i] = l[i]) ∨ (i = l.length ∧ (l ++ [d])[i] = d) := by
    rw [List.length_append, List.length_singleton] at h
    by_cases k : i < l.length
    · exact .inl ⟨k, List.getElem_append_left k⟩
    · obtain rfl : i = l.length := by omega
      exact .inr ⟨rfl, by simp⟩
  refine ⟨?_, fun i h => ?_, fun i h => ?_, fun i h => ?_, fun i h => ?_⟩
  · rw [List.map_append, List.map_append, List.map_singleton, List.map_singleton, same]
    obtain ⟨p, h⟩ | ⟨p, h⟩ := ends
    · exact .inl ⟨p, by rw [← List.append_assoc, h]⟩
    · exact .inr ⟨p, by rw [← List.append_assoc, h]⟩
  · simp only [List.length_append, List.length_singleton] at h ⊢
    obtain ⟨k, here⟩ | ⟨rfl, here⟩ := at_l i (by simpa using h)
    · rw [here]
      intro isTorn
      rw [torn i k isTorn]
      omega
    · rw [here]
      intro isTorn
      rw [ready, ← torn_d, isTorn]
      constructor
      · intro false_
        cases false_
      · intro less
        omega
  · obtain ⟨k, here⟩ | ⟨rfl, here⟩ := at_l i h
    · rw [here]
      exact plain i k
    · rw [here]
      intro notTorn
      rw [ready, ← torn_d, notTorn]
      rfl
  · simp only [List.length_append, List.length_singleton]
    obtain ⟨k, here⟩ | ⟨rfl, here⟩ := at_l i h
    · rw [here]
      exact fun less => run i k (by omega)
    · intro less
      omega
  · simp only [List.length_append, List.length_singleton] at h ⊢
    intro less
    have k : i < t.length := by omega
    rw [List.getElem_append_left k]
    exact ahead i k (by omega)

/-- The first change that is not ready becomes ready. -/
def releaseFirst : List ModeChange → List ModeChange
  | [] => []
  | c :: rest => if c.ready then c :: releaseFirst rest else { c with ready := true } :: rest

theorem changesOf_releaseChange (q : List BlockMessage) : changesOf (releaseChange q) = releaseFirst (changesOf q) := by
  induction q with
  | nil => rfl
  | cons m q ih =>
    cases m with
    | change d =>
      rw [changesOf_change, releaseChange, releaseFirst]
      split
      · rw [changesOf_change, ih]
      · rfl
    | write w => rw [changesOf_write, releaseChange, changesOf_write, ih]

theorem releaseFirst_length (q : List ModeChange) : (releaseFirst q).length = q.length := by
  induction q with
  | nil => rfl
  | cons d q ih =>
    unfold releaseFirst
    split <;> simp [ih]

theorem releaseFirst_modes (q : List ModeChange) : (releaseFirst q).map ModeChange.modes = q.map ModeChange.modes := by
  induction q with
  | nil => rfl
  | cons d q ih =>
    unfold releaseFirst
    split
    · rw [List.map_cons, List.map_cons, ih]
    · rfl

/-- The first change that is not ready, and no other, gets its mark. -/
theorem releaseFirst_ready {q : List ModeChange} {n : Nat} (bound : n < q.length) (waits : (q[n]).ready = false)
    (before : ∀ (i : Nat) (h : i < q.length), i < n → (q[i]).ready = true) (i : Nat) (h : i < (releaseFirst q).length) :
    ((releaseFirst q)[i]).ready = if i = n then true else (q[i]'(by rwa [releaseFirst_length] at h)).ready := by
  induction q generalizing n i with
  | nil => exact absurd bound (Nat.not_lt_zero n)
  | cons d q ih =>
    cases n with
    | zero =>
      have head : d.ready = false := waits
      have released : releaseFirst (d :: q) = { d with ready := true } :: q := by
        unfold releaseFirst
        rw [if_neg (by rw [head]; decide)]
      simp only [released]
      cases i with
      | zero => rfl
      | succ i => rfl
    | succ n =>
      have head : d.ready = true := before 0 (Nat.zero_lt_succ _) (Nat.zero_lt_succ _)
      have released : releaseFirst (d :: q) = d :: releaseFirst q := by
        conv => lhs; unfold releaseFirst
        rw [if_pos head]
      simp only [released] at h ⊢
      cases i with
      | zero => exact head.trans (by simp [head])
      | succ i =>
        have tail := ih (n := n) (by simpa using bound) waits
          (fun j hj less => before (j + 1) (by simpa using hj) (by omega)) i (by simpa using h)
        simpa using tail

theorem releaseFirst_new (q : List ModeChange) (i : Nat) (h : i < (releaseFirst q).length) :
    ((releaseFirst q)[i]).modes = (q[i]'(by rwa [releaseFirst_length] at h)).modes := by
  have views := List.getElem_map (l := releaseFirst q) ModeChange.modes (i := i) (h := by simpa using h)
  rw [← views]
  simp only [releaseFirst_modes, List.getElem_map]

/-- A teardown taken at the Timetable, which hands on the Line Block's part. -/
theorem InStep.tornAtTable {c : ModeChange} {t l : List ModeChange} (step : InStep (c :: t) l) (torn : c.teardown = true) :
    InStep t (releaseFirst l) := by
  obtain ⟨fits, ends⟩ | ⟨shorter, -⟩ := step.ends
  case inr =>
    obtain ⟨-, -, -, -, ahead⟩ := step
    have := ahead 0 (Nat.zero_lt_succ _) (by omega)
    exact absurd torn (by simpa using this)
  obtain ⟨-, tornReady, plainReady, run, -⟩ := step
  have lengths : (c :: t).length = t.length + 1 := rfl
  have place : l.length - (c :: t).length < l.length := by omega
  have here : (l[l.length - (c :: t).length]).modes = c.modes := by
    simpa using modes_at ends 0 (Nat.zero_lt_succ _) (by omega)
  have waits : (l[l.length - (c :: t).length]).ready = false := by
    have := tornReady _ place ((modes_teardown here).trans torn)
    rw [Bool.eq_false_iff]
    intro ready
    have := this.mp ready
    omega
  have before (i : Nat) (h : i < l.length) (less : i < l.length - (c :: t).length) : (l[i]).ready = true := by
    cases isTorn : (l[i]).teardown with
    | true => exact (tornReady i h isTorn).mpr (by omega)
    | false => exact plainReady i h isTorn
  have ready := releaseFirst_ready place waits before
  have modes := releaseFirst_new l
  have length := releaseFirst_length l
  refine ⟨.inr ?_, fun i h isTorn => ?_, fun i h notTorn => ?_, fun i h less => ?_, fun i h less => ?_⟩
  · rw [releaseFirst_modes]
    exact (List.suffix_cons _ _).trans ends
  · rw [ready i h]
    have old : i < l.length := by omega
    have was := tornReady i old ((modes_teardown (modes i h)).symm.trans isTorn)
    split
    · exact ⟨fun _ => by omega, fun _ => rfl⟩
    · rw [was]
      omega
  · rw [ready i h]
    split
    · rfl
    · exact plainReady i (by omega) ((modes_teardown (modes i h)).symm.trans notTorn)
  · rw [modes_new (modes i h)]
    by_cases first : i = l.length - (c :: t).length
    · subst first
      rw [modes_new here]
      exact teardown_new torn
    · exact run i (by omega) (by omega)
  · omega

/-- Another change taken at the Timetable: into RUN only behind the Line Block. -/
theorem InStep.takenAtTable {c : ModeChange} {t l : List ModeChange} (step : InStep (c :: t) l) (plain : c.teardown = false)
    (behind : c.new = .run → l.length < (c :: t).length) : InStep t l := by
  have lengths : (c :: t).length = t.length + 1 := rfl
  obtain ⟨fits, ends⟩ | ⟨shorter, ends⟩ := step.ends
  · obtain ⟨-, tornReady, plainReady, run, -⟩ := step
    have place : l.length - (c :: t).length < l.length := by omega
    have here : (l[l.length - (c :: t).length]).modes = c.modes := by
      simpa using modes_at ends 0 (Nat.zero_lt_succ _) (by omega)
    refine ⟨.inr ((List.suffix_cons _ _).trans ends), fun i h isTorn => ?_, plainReady, fun i h less => ?_, fun i h less => ?_⟩
    · rw [tornReady i h isTorn]
      by_cases first : i = l.length - (c :: t).length
      · subst first
        rw [modes_teardown here, plain] at isTorn
        cases isTorn
      · omega
    · by_cases first : i = l.length - (c :: t).length
      · subst first
        rw [modes_new here]
        intro running
        have := behind running
        omega
      · exact run i h (by omega)
    · omega
  · obtain ⟨-, tornReady, plainReady, run, ahead⟩ := step
    refine ⟨.inl ?_, fun i h isTorn => ?_, plainReady, fun i h less => ?_, fun i h less => ?_⟩
    · obtain same | ends := List.suffix_cons_iff.mp ends
      · have := congrArg List.length same
        simp only [List.length_map, List.length_cons] at this
        omega
      · exact ends
    · rw [tornReady i h isTorn]
      omega
    · omega
    · exact ahead (i + 1) (by omega) (by omega)

/-- A change taken at the Line Block: a teardown only when the Timetable has handed it on. -/
theorem InStep.takenAtLines {c : ModeChange} {t l : List ModeChange} (step : InStep t (c :: l))
    (ready : c.teardown = true → c.ready = true) : InStep t l := by
  have lengths : (c :: l).length = l.length + 1 := rfl
  obtain ⟨fits, ends⟩ | ⟨shorter, ends⟩ := step.ends
  · obtain ⟨-, tornReady, plainReady, run, ahead⟩ := step
    have modes := modes_at ends
    by_cases same : t.length = (c :: l).length
    · have plain : c.teardown = false := by
        rw [Bool.eq_false_iff]
        intro torn
        have := (tornReady 0 (Nat.zero_lt_succ _) torn).mp (ready torn)
        omega
      obtain ⟨d, t, rfl⟩ := List.exists_cons_of_length_pos (l := t) (by omega)
      have whole := ends.eq_of_length (by simpa using same)
      obtain ⟨head, tail⟩ := List.cons.inj whole
      have lengths' : (d :: t).length = t.length + 1 := rfl
      refine ⟨.inl (by rw [List.map_cons, tail]; exact List.suffix_cons _ _), fun i h isTorn => ?_,
        fun i h => plainReady (i + 1) (by omega), fun i h less => ?_, fun i h less => ?_⟩
      · have := tornReady (i + 1) (by omega) isTorn
        rw [List.getElem_cons_succ] at this
        rw [this]
        omega
      · omega
      · obtain rfl : i = 0 := by omega
        exact (modes_teardown head).trans plain
    · refine ⟨.inr ?_, fun i h isTorn => ?_, fun i h => plainReady (i + 1) (by omega), fun i h less => ?_, fun i h less => ?_⟩
      · obtain whole | ends := List.suffix_cons_iff.mp ends
        · have := congrArg List.length whole
          simp only [List.length_map, List.length_cons] at this
          omega
        · exact ends
      · have := tornReady (i + 1) (by omega) isTorn
        rw [List.getElem_cons_succ] at this
        rw [this]
        omega
      · exact run (i + 1) (by omega) (by omega)
      · omega
  · have modes := modes_at ends
    obtain ⟨-, tornReady, plainReady, run, ahead⟩ := step
    have plain : c.teardown = false := by
      rw [Bool.eq_false_iff]
      intro torn
      have := (tornReady 0 (Nat.zero_lt_succ _) torn).mp (ready torn)
      omega
    refine ⟨.inl ((List.suffix_cons _ _).trans ends), fun i h isTorn => ?_, fun i h => plainReady (i + 1) (by omega),
      fun i h less => ?_, fun i h less => ?_⟩
    · have := tornReady (i + 1) (by omega) isTorn
      rw [List.getElem_cons_succ] at this
      rw [this]
      omega
    · omega
    · by_cases first : i = t.length - (c :: l).length
      · have here := modes 0 (Nat.zero_lt_succ _) (by omega)
        simp only [Nat.zero_add] at here
        subst first
        exact (modes_teardown here).trans plain
      · exact ahead i h (by omega)

/-- Where the Timetable is in RUN, the Line Block is. -/
theorem InStep.running {t l : List ModeChange} (step : InStep t l) {m n last : Mode} (table : leadsTo m t last)
    (lines : leadsTo n l last) (running : m = .run) : n = .run := by
  obtain ⟨fits, ends⟩ | ⟨shorter, -⟩ := step.ends
  · obtain ⟨-, -, -, run, -⟩ := step
    have split : l.take (l.length - t.length) ++ l.drop (l.length - t.length) = l := List.take_append_drop _ _
    have last_modes : (l.drop (l.length - t.length)).map ModeChange.modes = t.map ModeChange.modes := by
      rw [List.map_drop]
      have suffix := List.suffix_iff_eq_drop.mp ends
      simp only [List.length_map] at suffix
      exact suffix.symm
    rw [← split] at lines
    obtain ⟨x, after, none_before, before⟩ := leadsTo_split lines
    have start : m = x := leadsTo_start table (leadsTo_of_modes last_modes.symm after)
    have taken : (l.take (l.length - t.length)).length = l.length - t.length := by
      rw [List.length_take]
      omega
    by_cases same : l.length = t.length
    · rw [← none_before (List.length_eq_zero_iff.mp (by omega)), ← start, running]
    · have final := before (l.length - t.length - 1) (by omega) (by omega)
      rw [List.getElem_take] at final
      exact absurd (final.symm.trans (start.symm.trans running)) (run _ (by omega) (by omega))
  · obtain ⟨-, -, -, -, ahead⟩ := step
    cases t with
    | nil => exact absurd shorter (Nat.not_lt_zero _)
    | cons c t =>
      obtain ⟨old, legal, -⟩ := table
      have torn := teardown_of_run legal (old.trans running)
      have plain := ahead 0 (Nat.zero_lt_succ _) (by omega)
      rw [List.getElem_cons_zero, torn] at plain
      cases plain

end Sys2Proof.Machine

/-! PROOFS. The law of the mode across the blocks is kept by every operation between mode changes, and by every change handed on
or taken (for O59). -/

namespace Sys2Proof.Machine

/-! ## The law in two halves -/

/-- Every block follows the Mode Controller through the changes it has yet to take. -/
structure Followed (s : State) : Prop where
  table : leadsTo s.table.mode (changesOf s.wires.toTimetable) s.control.mode
  lines : leadsTo s.lineBlock.mode (changesOf s.wires.toLines) s.control.mode
  slots : ∀ p, leadsTo (s.slots.get p).mode (changesOf (s.wires.toSlots.get p)) s.control.mode
  templates : leadsTo s.templates.mode (changesOf s.wires.toTemplates) s.control.mode
  log : leadsTo s.log.mode (changesOf s.wires.toLog) s.control.mode
  inStep : InStep (changesOf s.wires.toTimetable) (changesOf s.wires.toLines)

/-- Outside RUN the Timetable and the slots are empty and every engine is OFF. -/
structure Idle (s : State) : Prop where
  table : s.table.mode ≠ .run → s.table.live = []
  slots : ∀ p, (s.slots.get p).mode ≠ .run → ∀ i : Fin 4, (s.slots.get p).slot[i] = none
  lines : s.lineBlock.mode ≠ .run → ∀ l : LineNo, ((s.line[l]).engine).isOff = true

theorem modeLaw_iff (s : State) : ModeLaw s ↔ Followed s ∧ Idle s := by
  constructor
  · rintro ⟨table, lines, slots, templates, log, inStep, live, contents, engines⟩
    exact ⟨⟨table, lines, slots, templates, log, inStep⟩, live, contents, engines⟩
  · rintro ⟨⟨table, lines, slots, templates, log, inStep⟩, live, contents, engines⟩
    exact ⟨table, lines, slots, templates, log, inStep, live, contents, engines⟩

/-- A block's mode and the changes on their way to it, of two states. -/
structure ChangesKept (s t : State) : Prop where
  control : t.control.mode = s.control.mode
  table : t.table.mode = s.table.mode
  lines : t.lineBlock.mode = s.lineBlock.mode
  slots : ∀ p, (t.slots.get p).mode = (s.slots.get p).mode
  templates : t.templates.mode = s.templates.mode
  log : t.log.mode = s.log.mode
  toTimetable : changesOf t.wires.toTimetable = changesOf s.wires.toTimetable
  toLines : changesOf t.wires.toLines = changesOf s.wires.toLines
  toSlots : ∀ p, changesOf (t.wires.toSlots.get p) = changesOf (s.wires.toSlots.get p)
  toTemplates : changesOf t.wires.toTemplates = changesOf s.wires.toTemplates
  toLog : changesOf t.wires.toLog = changesOf s.wires.toLog

theorem Followed.kept {s t : State} (law : Followed s) (same : ChangesKept s t) : Followed t := by
  obtain ⟨control, table, lines, slots, templates, log, toTimetable, toLines, toSlots, toTemplates, toLog⟩ := same
  obtain ⟨table', lines', slots', templates', log', inStep⟩ := law
  refine ⟨?_, ?_, fun p => ?_, ?_, ?_, ?_⟩
  · rw [control, table, toTimetable]; exact table'
  · rw [control, lines, toLines]; exact lines'
  · rw [control, slots, toSlots]; exact slots' p
  · rw [control, templates, toTemplates]; exact templates'
  · rw [control, log, toLog]; exact log'
  · rw [toTimetable, toLines]; exact inStep

/-- The parts of modes and mode changes. -/
def modeParts : List Part :=
  [.mode, .tableMode, .lineMode, .slotMode, .templateMode, .logMode, .toTimetable, .toLines, .toSlots, .toTemplates, .toLog]

theorem ChangesKept.of_parts {s t : State} (same : ∀ x ∈ modeParts, x.Same s t) : ChangesKept s t where
  control := same .mode (by decide)
  table := same .tableMode (by decide)
  lines := same .lineMode (by decide)
  slots := same .slotMode (by decide)
  templates := same .templateMode (by decide)
  log := same .logMode (by decide)
  toTimetable := congrArg changesOf (same .toTimetable (by decide))
  toLines := congrArg changesOf (same .toLines (by decide))
  toSlots p := congrArg (fun q : PerPort (List BlockMessage) => changesOf (q.get p)) (same .toSlots (by decide))
  toTemplates := congrArg changesOf (same .toTemplates (by decide))
  toLog := congrArg changesOf (same .toLog (by decide))

/-- No part of modes and mode changes is among those touched. -/
def sparesModes (parts : List Part) : Bool := modeParts.all fun x => !parts.contains x

theorem Touches.changesKept {parts : List Part} {s t : State} (h : Touches parts s t) (spared : sparesModes parts = true) :
    ChangesKept s t :=
  .of_parts fun x hx => h x fun mem => by
    have := List.all_eq_true.mp spared x hx
    simp [mem] at this

theorem Still.changesKept {s t : State} (h : Still s t) : ChangesKept s t := by
  obtain ⟨touched, toLines, toLog, toSlots⟩ := h
  exact {
    control := touched .mode (by decide)
    table := touched .tableMode (by decide)
    lines := touched .lineMode (by decide)
    slots := touched .slotMode (by decide)
    templates := touched .templateMode (by decide)
    log := touched .logMode (by decide)
    toTimetable := congrArg changesOf (touched .toTimetable (by decide))
    toLines
    toSlots
    toTemplates := congrArg changesOf (touched .toTemplates (by decide))
    toLog }

/-! ## Operations between mode changes -/

/-- With the modes as they were, nothing filled and no engine started, what is empty and OFF outside RUN stays so. -/
theorem Idle.kept {s t : State} (law : Idle s) (same : ChangesKept s t) (live : s.table.live = [] → t.table.live = [])
    (slots : ∀ p, (s.slots.get p).mode ≠ .run → (∀ i : Fin 4, (s.slots.get p).slot[i] = none) →
      ∀ i : Fin 4, (t.slots.get p).slot[i] = none)
    (engines : ∀ l : LineNo, (s.line[l]).engine.isOff = true → (t.line[l]).engine.isOff = true) : Idle t where
  table stopped := live (law.table (same.table ▸ stopped))
  slots p stopped := slots p (same.slots p ▸ stopped) (law.slots p (same.slots p ▸ stopped))
  lines stopped l := engines l (law.lines (same.lines ▸ stopped) l)

theorem ModeLaw.kept {s t : State} (law : ModeLaw s) (same : ChangesKept s t) (live : s.table.live = [] → t.table.live = [])
    (slots : ∀ p, (s.slots.get p).mode ≠ .run → (∀ i : Fin 4, (s.slots.get p).slot[i] = none) →
      ∀ i : Fin 4, (t.slots.get p).slot[i] = none)
    (engines : ∀ l : LineNo, (s.line[l]).engine.isOff = true → (t.line[l]).engine.isOff = true) : ModeLaw t := by
  obtain ⟨followed, idle⟩ := (modeLaw_iff s).mp law
  exact (modeLaw_iff t).mpr ⟨followed.kept same, idle.kept same live slots engines⟩

/-- Contents as they were. -/
def contentParts : List Part := [.entries, .slotContents, .line]

theorem ModeLaw.of_contents {s t : State} (law : ModeLaw s) (same : ChangesKept s t) (contents : ∀ x ∈ contentParts, x.Same s t) :
    ModeLaw t := by
  obtain ⟨live, -⟩ := contents .entries (by decide)
  have slots := contents .slotContents (by decide)
  have line := contents .line (by decide)
  simp only [Part.Same] at line slots
  refine law.kept same (fun h => live.trans h) (fun p _ h i => ?_) (fun l h => ?_)
  · rw [(slots p).1]
    exact h i
  · rw [line]
    exact h

/-- In RUN the table may change. -/
theorem ModeLaw.of_running {s t : State} (law : ModeLaw s) (running : s.table.mode = .run) (same : ChangesKept s t)
    (slots : Part.slotContents.Same s t) (line : t.line = s.line) : ModeLaw t := by
  obtain ⟨followed, idle⟩ := (modeLaw_iff s).mp law
  refine (modeLaw_iff t).mpr ⟨followed.kept same, fun stopped => absurd (same.table.trans running) stopped, fun p stopped i => ?_,
    fun stopped l => ?_⟩
  · rw [(slots p).1]
    exact idle.slots p (same.slots p ▸ stopped) i
  · rw [line]
    exact idle.lines (same.lines ▸ stopped) l

/-- A fire finds the Line Block in RUN. -/
theorem fireDue_modeLaw (s : State) (pos : Word32) (law : ModeLaw s) : ModeLaw (s.fireDue pos) := by
  obtain ⟨followed, idle⟩ := (modeLaw_iff s).mp law
  by_cases running : s.table.mode = .run
  · have touched : Touches fireParts s (s.fireDue pos) := Touches.foldl fireEntry_touches _ s
    have same := touched.changesKept rfl
    have lines := followed.inStep.running followed.table followed.lines running
    refine (modeLaw_iff _).mpr ⟨followed.kept same, fun stopped => absurd (same.table.trans running) stopped, fun p stopped i => ?_,
      fun stopped => absurd (same.lines.trans lines) stopped⟩
    have slots := touched .slotContents (by decide) p
    rw [slots.1]
    exact idle.slots p (same.slots p ▸ stopped) i
  · have none_fires : s.fireDue pos = s := by
      unfold State.fireDue
      rw [idle.table running]
      rfl
    rw [none_fires]
    exact law

theorem cut_idleSlots (s : State) (p q : Port) (x : LineSet) (none_held : ∀ i : Fin 4, (s.slots.get q).slot[i] = none) :
    ∀ i : Fin 4, ((s.cut p x).slots.get q).slot[i] = none :=
  fun i => cut_emptySlotsStay q p s x i (none_held i)

/-- A live entry that a port's handle names shows a table that is not empty. -/
theorem ownEntry_live_ne_nil {s : State} {p : Port} {h : Handle} {e : Entry} (own : s.ownEntry p h = some e) :
    s.table.live ≠ [] := by
  intro empty
  unfold State.ownEntry Timetable.resolve Timetable.entryAt at own
  rw [empty] at own
  split at own
  · cases own
  · next resolved =>
    split at resolved
    · cases resolved
    · cases resolved

theorem modeLaw_closed : BlockClosed ModeLaw where
  still s t h law := law.of_contents h.changesKept fun x hx => h.1 x (by revert hx; cases x <;> decide)
  lines s t h law := by
    obtain ⟨frame, step⟩ := h
    refine law.kept ?_ (fun h => ?_) (fun p _ h i => ?_) fun l => (step l).2
    · rw [frame]
      exact ⟨rfl, rfl, rfl, fun _ => rfl, rfl, rfl, rfl, rfl, fun _ => rfl, rfl, rfl⟩
    · rw [frame]
      exact h
    · rw [frame]
      exact h i
  cut s p x law := law.kept ((cut_touches s p x).changesKept rfl) (cut_trim s p x).empty (fun q _ => cut_idleSlots s p q x)
    fun _ => id
  slots s p b h law := by
    refine law.kept ⟨rfl, rfl, rfl, fun q => ?_, rfl, rfl, rfl, rfl, fun _ => rfl, rfl, rfl⟩ id (fun q stopped none_held => ?_)
      fun _ => id
    · rw [State.setSlots_slots, PerPort.get_set]
      split
      · next same => rw [same]; exact h.mode
      · rfl
    · rw [State.setSlots_slots, PerPort.get_set]
      split
      · next same => subst same; exact h.empty stopped none_held
      · exact none_held
  trim s t h law := by
    have line : t.line = s.line := h.touches .line (by decide)
    have slots := h.touches .slotContents (by decide)
    refine law.kept (h.touches.changesKept rfl) h.trim.empty (fun p _ none_held i => ?_) fun l off => ?_
    · rw [(slots p).1]
      exact none_held i
    · rw [line]
      exact off
  fires := fireDue_modeLaw
  placed s n out running _ _ law := by
    have touched := placeProposal_touches s n out
    exact law.of_running running (touched.changesKept rfl) (touched .slotContents (by decide)) (touched .line (by decide))
  amended s p h e due a out own _ law := by
    have touched := (displaceAll_touches s out).comp (putEntry_touches _ (e.rewrite { e.fields with due := due, action := a }))
    have running : s.table.mode = .run := by
      obtain ⟨-, idle⟩ := (modeLaw_iff s).mp law
      by_contra stopped
      exact ownEntry_live_ne_nil own (idle.table stopped)
    exact law.of_running running (touched.changesKept rfl) (touched .slotContents (by decide)) (touched .line (by decide))

end Sys2Proof.Machine

/-! PROOFS. The law of the mode across the blocks is kept by every step (O59). -/

namespace Sys2Proof.Machine

/-! ## Commands of the Mode Controller (R141 to R147, R154) -/

/-- Every rank is held (R143). -/
def TableLimits.ranked (v : TableLimits) : Prop := ∀ r : Fin 4, v.portPriority[r] ≠ none

/-- What a SAFE cause, a finding and a mode change touch beside the mode and its way to the blocks. -/
def reportParts : List Part := [.causes, .corruption, .pinSafeIn, .posted, .notices, .asks, .findings, .ports]

/-- The parameters and the blocks' modes and contents, which a change at the Mode Controller leaves. -/
def blockParts : List Part :=
  [.params, .tableMode, .tableLimits, .lineMode, .slotMode, .templateMode, .logMode, .entries, .slotContents, .line]

/-- A legal change at the Mode Controller, handed on to every block; into RUN only with every rank held. -/
structure ModeHanded (s t : State) (new : Mode) : Prop where
  legal : legalChange s.control.mode new = true
  ranked : new = .run → s.control.params.limits.ranked
  mode : t.control.mode = new
  blocks : ∀ x ∈ blockParts, x.Same s t
  handed : ChangeHandedOn s t s.control.mode new
    (!ModeChange.teardown { old := s.control.mode, new := new, ready := true })

/-- A law that reports and mode changes at the Mode Controller keep. -/
structure ControlClosed (law : State → Prop) : Prop where
  quiet : ∀ s t, Touches reportParts s t → law s → law t
  handed : ∀ s t new, ModeHanded s t new → law s → law t

theorem endInit_handed (s : State) (new : Mode) (legal : legalChange s.control.mode new = true)
    (ranked : new = .run → s.control.params.limits.ranked) : ModeHanded s (s.endInit new) new where
  legal := legal
  ranked := ranked
  mode := rfl
  blocks x hx := endInit_touches s new x (by revert hx; cases x <;> decide)
  handed := ⟨rfl, fun p => by simp [State.endInit, State.handChange], rfl, rfl, rfl⟩

theorem changeMode_handed (s : State) (new : Mode) (reason : Nat) (line : Option LineNo)
    (legal : legalChange s.control.mode new = true) (ranked : new = .run → s.control.params.limits.ranked) :
    ModeHanded s (s.changeMode new reason line) new where
  legal := legal
  ranked := ranked
  mode := congrArg ModeController.mode (changeMode_control s new reason line)
  blocks x hx := changeMode_touches s new reason line x (by revert hx; cases x <;> decide)
  handed := changeMode_handedOn s new reason line

section
variable {law : State → Prop} (c : ControlClosed law)
include c

theorem ControlClosed.touched {parts : List Part} {s t : State} (hs : law s) (h : Touches parts s t)
    (sub : parts ⊆ reportParts) : law t := c.quiet s t (h.mono sub) hs

theorem ControlClosed.takeCause (s : State) (cause : SafeCause) (line : Option LineNo) (hs : law s) :
    law (s.takeCause cause line) := by
  have first (o : Option SafeCause) : law (s.setControl { s.control with firstCause := o }) :=
    c.touched hs (setCause_touches s o) (by decide)
  have legal (open_ : s.control.mode ≠ .safe) (o : Option SafeCause) :
      legalChange (s.setControl { s.control with firstCause := o }).control.mode .safe = true := by
    rw [State.setControl_control]
    dsimp only
    revert open_
    cases s.control.mode <;> decide
  cases mode : s.control.mode with
  | safe =>
    rw [takeCause_safe s cause line mode]
    refine c.touched (parts := [.causes]) hs ?_ (by decide)
    intro x hx; cases x <;> simp_all [Part.Same]
  | init =>
    rw [takeCause_init s cause line mode]
    exact c.handed _ _ _ (endInit_handed _ .safe (legal (by rw [mode]; decide) _) fun run => nomatch run) (first _)
  | config =>
    rw [takeCause_open s cause line (.inl mode)]
    exact c.handed _ _ _ (changeMode_handed _ .safe _ _ (legal (by rw [mode]; decide) _) fun run => nomatch run) (first _)
  | run =>
    rw [takeCause_open s cause line (.inr mode)]
    exact c.handed _ _ _ (changeMode_handed _ .safe _ _ (legal (by rw [mode]; decide) _) fun run => nomatch run) (first _)

theorem ControlClosed.consultSafeIn (s : State) (hs : law s) : law s.consultSafeIn := by
  unfold State.consultSafeIn
  split
  · exact c.takeCause s _ _ hs
  · exact hs

omit c in
theorem ranked_of_none {q : Params} (held : q.portPriority.toList.any Option.isNone = false) : q.limits.ranked := by
  intro r unheld
  have rank : q.portPriority[r] = none := unheld
  have mem : q.portPriority[r] ∈ q.portPriority.toList := by simp
  rw [rank] at mem
  rw [List.any_eq_true.mpr ⟨none, mem, rfl⟩] at held
  cases held

theorem ControlClosed.startRequest (body : List Byte) (s : State) (hs : law s) : law (startRequest body s).1 := by
  unfold Machine.startRequest
  split
  · exact hs
  · next config =>
    split
    · exact hs
    · split
      · exact hs
      · next held =>
        exact c.handed _ _ _ (changeMode_handed s .run _ _ (by rw [not_not.mp config]; rfl) fun _ =>
          ranked_of_none (Bool.eq_false_iff.mpr held)) hs

theorem ControlClosed.stopRequest (body : List Byte) (s : State) (hs : law s) : law (stopRequest body s).1 := by
  unfold Machine.stopRequest
  split
  · exact hs
  · next run =>
    split
    · exact hs
    · exact c.handed _ _ _ (changeMode_handed s .config _ _ (by rw [not_not.mp run]; rfl) fun run => nomatch run) hs

theorem ControlClosed.resumeRequest (body : List Byte) (s : State) (hs : law s) : law (resumeRequest body s).1 := by
  have forgiven : Touches [.causes, .corruption] s
      (s.setControl { s.control with firstCause := none, later := CauseSet.empty, corruption := 0 }) := by
    intro x hx; cases x <;> simp_all [Part.Same]
  unfold Machine.resumeRequest
  split
  · exact hs
  · next safe =>
    split
    · exact hs
    · split
      · exact hs
      · refine c.handed _ _ _ (changeMode_handed _ .config _ _ ?_ fun run => nomatch run) (c.touched hs forgiven (by decide))
        rw [State.setControl_control]
        dsimp only
        rw [not_not.mp safe]
        rfl

theorem ControlClosed.finding (s : State) (f : Finding) (hs : law s) : law (s.finding f) := by
  have reported : law (s.reportFinding f) := by
    unfold State.reportFinding
    split
    · exact hs
    · exact c.touched hs (notifyAll_touches _ _ _) (by decide)
  have counted : law (s.reportFinding f).countFinding := c.touched reported (setCorruption_touches _ _) (by decide)
  have caused : law ((s.reportFinding f).countFinding.causeOfFinding f) := by
    cases f with
    | entry i => exact counted
    | template n => exact counted
    | line l => exact c.takeCause _ _ _ counted
  show law (State.testLimit _)
  unfold State.testLimit
  split
  · exact c.takeCause _ _ _ caused
  · exact caused

theorem ControlClosed.initEnd {s t : State} (h : execInitEnd s = .next t) (hs : law s) : law t := by
  refine whenRunning_law h hs ?_
  split
  · next init =>
    split
    · exact c.takeCause s _ _ hs
    · exact c.handed _ _ _ (endInit_handed s .config (by rw [init]; rfl) fun run => nomatch run) hs
  · exact hs

theorem ControlClosed.safeinAssert {s t : State} (h : execSafeinAssert s = .next t) (hs : law s) : law t := by
  have pin : law { s with pinSafeIn := true } := c.touched hs (setPinSafeIn_touches s true) (by decide)
  obtain rfl | rfl | rfl := execSafeinAssert_cases h
  · exact hs
  · exact pin
  · exact c.takeCause _ _ _ pin

theorem ControlClosed.safeRequestOverrun {s t : State} (h : execSafeRequestOverrun s = .next t) (hs : law s) : law t := by
  refine whenRunning_law h hs ?_
  split
  · exact c.touched (c.takeCause s .overrun none hs) (setAsks_touches _ _) (by decide)
  · exact hs

theorem ControlClosed.corruptionFinding {k : RecordKind} {s t : State} (h : execCorruptionFinding k s = .next t) (hs : law s) :
    law t := by
  refine whenRunning_law h hs ?_
  split
  · exact hs
  · exact c.finding _ _ (c.touched hs (setFindings_touches s _) (by decide))

theorem ControlClosed.served {k : ReqKind} {p : Port} {f : List Byte → State → State × Reply} {s t : State}
    (h : serve k p f s = .next t) (hs : law s) (kept : ∀ body, law (f body s).1) : law t := by
  obtain rfl | ⟨w, -, rfl⟩ := serve_cases h
  · exact hs
  · exact c.touched (kept w.body) ((markOwn_touches _ _ _).comp (setPhase_touches _ _ _ _)) (by decide)

omit c in
/-- The commands that change the mode at the Mode Controller or raise a SAFE cause there. -/
def changesControl : Instr → Bool
  | .initEnd | .safeinAssert | .safeRequestOverrun | .corruptionFinding _ | .start | .stop | .resume => true
  | _ => false

theorem ControlClosed.exec (i : Instr) (s t : State) (changes : changesControl i = true) (hs : law s)
    (h : exec i s = .next t) : law t := by
  cases i with
  | initEnd => exact c.initEnd h hs
  | safeinAssert => exact c.safeinAssert h hs
  | safeRequestOverrun => exact c.safeRequestOverrun h hs
  | corruptionFinding k => exact c.corruptionFinding h hs
  | start => exact c.served h hs (c.startRequest · s hs)
  | stop => exact c.served h hs (c.stopRequest · s hs)
  | resume => exact c.served h hs (c.resumeRequest · s hs)
  | _ => cases changes

end

/-! ## The modes across the blocks at such a command -/

/-- A legal change handed on to every block. -/
theorem ModeLaw.handed {s t : State} {new : Mode} (law : ModeLaw s) (changed : ModeHanded s t new) : ModeLaw t := by
  obtain ⟨legal, -, mode, blocks, handed⟩ := changed
  obtain ⟨⟨table, lines, slots, templates, log, inStep⟩, idle⟩ := (modeLaw_iff s).mp law
  obtain ⟨toTimetable, toSlots, toTemplates, toLog, toLines⟩ := handed
  have appended (q : List BlockMessage) (c : ModeChange) : changesOf (q ++ [.change c]) = changesOf q ++ [c] :=
    changesOf_append q _
  have tableMode : t.table.mode = s.table.mode := blocks .tableMode (by decide)
  have lineMode : t.lineBlock.mode = s.lineBlock.mode := blocks .lineMode (by decide)
  have slotMode : ∀ p, (t.slots.get p).mode = (s.slots.get p).mode := blocks .slotMode (by decide)
  have templateMode : t.templates.mode = s.templates.mode := blocks .templateMode (by decide)
  have logMode : t.log.mode = s.log.mode := blocks .logMode (by decide)
  have live : t.table.live = s.table.live ∧ t.table.liveCount = s.table.liveCount := blocks .entries (by decide)
  have contents : ∀ p, (t.slots.get p).slot = (s.slots.get p).slot ∧ (t.slots.get p).age = (s.slots.get p).age :=
    blocks .slotContents (by decide)
  have line : t.line = s.line := blocks .line (by decide)
  refine (modeLaw_iff t).mpr ⟨⟨?_, ?_, fun p => ?_, ?_, ?_, ?_⟩, ?_, fun p => ?_, ?_⟩
  · rw [mode, tableMode, toTimetable, appended]; exact leadsTo_append true table legal
  · rw [mode, lineMode, toLines, appended]; exact leadsTo_append _ lines legal
  · rw [mode, slotMode, toSlots, appended]; exact leadsTo_append true (slots p) legal
  · rw [mode, templateMode, toTemplates, appended]; exact leadsTo_append true templates legal
  · rw [mode, logMode, toLog, appended]; exact leadsTo_append true log legal
  · rw [toTimetable, toLines, appended, appended]; exact inStep.handed rfl rfl
  · rw [tableMode, live.1]; exact idle.table
  · rw [slotMode, (contents p).1]; exact idle.slots p
  · rw [lineMode, line]; exact idle.lines

/-- What differs in none of the parts that the law reads. -/
theorem ModeLaw.touched {parts : List Part} {s t : State} (law : ModeLaw s) (h : Touches parts s t)
    (modes : sparesModes parts = true) (contents : (contentParts.all fun x => !parts.contains x) = true) : ModeLaw t :=
  law.of_contents (h.changesKept modes) fun x hx => h x fun mem => by
    have := List.all_eq_true.mp contents x hx
    simp [mem] at this

theorem modeLaw_controlClosed : ControlClosed ModeLaw where
  quiet _ _ touched law := law.touched touched rfl rfl
  handed _ _ _ changed law := law.handed changed

/-! ## Writes of parameters (R149) -/

theorem leadingLimits_changesOf (v : TableLimits) (q : List BlockMessage) : changesOf (leadingLimits v q).2 = changesOf q := by
  induction q generalizing v with
  | nil => rfl
  | cons m q ih =>
    cases m with
    | change d => rfl
    | write w =>
      cases w with
      | tableLimits u => exact ih u
      | _ => rfl

theorem takeLimits_changesKept (s : State) : ChangesKept s s.takeLimits :=
  ⟨rfl, rfl, rfl, fun _ => rfl, rfl, rfl, leadingLimits_changesOf _ _, rfl, fun _ => rfl, rfl, rfl⟩

theorem changesOf_append_write (q : List BlockMessage) (w : ParamWrite) : changesOf (q ++ [.write w]) = changesOf q := by
  rw [changesOf_append]
  exact List.append_nil _

theorem ChangesKept.refl (s : State) : ChangesKept s s :=
  ⟨rfl, rfl, rfl, fun _ => rfl, rfl, rfl, rfl, rfl, fun _ => rfl, rfl, rfl⟩

theorem ChangesKept.trans {s t u : State} (h : ChangesKept s t) (k : ChangesKept t u) : ChangesKept s u where
  control := k.control.trans h.control
  table := k.table.trans h.table
  lines := k.lines.trans h.lines
  slots p := (k.slots p).trans (h.slots p)
  templates := k.templates.trans h.templates
  log := k.log.trans h.log
  toTimetable := k.toTimetable.trans h.toTimetable
  toLines := k.toLines.trans h.toLines
  toSlots p := (k.toSlots p).trans (h.toSlots p)
  toTemplates := k.toTemplates.trans h.toTemplates
  toLog := k.toLog.trans h.toLog

theorem handWrite_changesKept (s : State) (id : ParamId) (q : Params) : ChangesKept s (s.handWrite id q) := by
  have position (w : ParamWrite) : ChangesKept s (s.handPosition w) :=
    ⟨rfl, rfl, rfl, fun _ => rfl, rfl, rfl, rfl, rfl, fun _ => rfl, rfl, rfl⟩
  have slots (w : ParamWrite) : ChangesKept s (s.handSlots w) :=
    ⟨rfl, rfl, rfl, fun _ => rfl, rfl, rfl, rfl, rfl, fun p => by
      have wires : (s.handSlots w).wires.toSlots.get p = (s.wires.toSlots.map fun q => q ++ [.write w]).get p := rfl
      rw [wires, PerPort.get_map, changesOf_append_write], rfl, rfl⟩
  have lines (w : ParamWrite) : ChangesKept s (s.handLines w) :=
    ⟨rfl, rfl, rfl, fun _ => rfl, rfl, rfl, rfl, changesOf_append_write _ _, fun _ => rfl, rfl, rfl⟩
  have sensors (w : ParamWrite) : ChangesKept s (s.handSensors w) :=
    ⟨rfl, rfl, rfl, fun _ => rfl, rfl, rfl, rfl, rfl, fun _ => rfl, rfl, changesOf_append_write _ _⟩
  have waits : ChangesKept s (s.setWires { s.wires with
      toTimetable := s.wires.toTimetable ++ [.write (.tableLimits q.limits)] }) :=
    ⟨rfl, rfl, rfl, fun _ => rfl, rfl, rfl, changesOf_append_write _ _, rfl, fun _ => rfl, rfl, rfl⟩
  have table : ChangesKept s (s.handTable q) := waits.trans (takeLimits_changesKept _)
  cases id with
  | motionSource | internalRate | stallTime | speedWindow => exact position _
  | commitLead => exact slots _
  | historyPeriod | rest l | readback l => exact lines _
  | sensorFilter k => exact sensors _
  | guard l | policy l | quota p | portPriority r => exact table
  | reverseLimit | settle | faultThreshold | sensorEdge k | sensorSpacing k | corruptLimit => exact .refl s

theorem setParamRequest_changesKept (body : List Byte) (s : State) : ChangesKept s (setParamRequest body s).1 := by
  unfold setParamRequest
  split
  · exact .refl s
  · split
    · split
      · exact .refl s
      · exact ((setParams_touches s _).changesKept rfl).trans (handWrite_changesKept _ _ _)
    · exact .refl s

theorem setParamRequest_modeLaw (body : List Byte) (s : State) (law : ModeLaw s) : ModeLaw (setParamRequest body s).1 :=
  law.of_contents (setParamRequest_changesKept body s) fun x hx =>
    setParamRequest_touches body s x (by revert hx; cases x <;> decide)

/-! ## Mode changes taken at the blocks (R67, R87, R97, R141) -/

theorem changesOf_takeChange {test : ModeChange → Bool} {q rest : List BlockMessage} {c : ModeChange}
    (h : takeChange test q = some (c, rest)) : changesOf q = c :: changesOf rest ∧ test c = true := by
  obtain ⟨rfl, passes⟩ := takeChange_some test q rest c h
  exact ⟨rfl, passes⟩

theorem changesWaiting_eq (q : List BlockMessage) : changesWaiting q = (changesOf q).length := by
  induction q with
  | nil => rfl
  | cons m q ih =>
    have counted (m : BlockMessage) : changesWaiting (m :: q) = (if m.isChange then 1 else 0) + changesWaiting q := by
      unfold changesWaiting
      rw [List.filter_cons]
      split
      · rw [List.length_cons, Nat.add_comm]
      · exact (Nat.zero_add _).symm
    rw [counted, ih]
    cases m with
    | change d => rw [changesOf_change, List.length_cons, Nat.add_comm]; rfl
    | write w => rw [changesOf_write]; exact Nat.zero_add _

/-- A block outside RUN stays outside RUN, and so empty or OFF, over a change that is no teardown and not into RUN. -/
theorem stopped_before {m last : Mode} {c : ModeChange} {q : List ModeChange} (leads : leadsTo m (c :: q) last)
    (plain : c.teardown = false) : m ≠ .run := by
  obtain ⟨old, legal, -⟩ := leads
  intro running
  rw [teardown_of_run legal (old.trans running)] at plain
  cases plain

theorem takeLimits_modeLaw (s : State) (law : ModeLaw s) : ModeLaw s.takeLimits :=
  law.of_contents (takeLimits_changesKept s) fun x hx => takeLimits_touches s x (by revert hx; cases x <;> decide)

theorem timetableEmptying_modeLaw {s t : State} (h : execTimetableEmptying s = .next t) (law : ModeLaw s) : ModeLaw t := by
  refine whenRunning_law h law ?_
  split
  · exact law
  · next c q taken =>
    obtain ⟨⟨table, lines, slots, templates, log, inStep⟩, idle⟩ := (modeLaw_iff s).mp law
    obtain ⟨front, torn⟩ := changesOf_takeChange taken
    rw [front] at table inStep
    obtain ⟨v, torn_eq, -⟩ := tornDown_eq s c q
    have unfolded : ∀ u : State, u = s.tornDown c q → ModeLaw u.takeLimits := by
      rintro u rfl
      refine takeLimits_modeLaw _ ?_
      rw [torn_eq]
      refine (modeLaw_iff _).mpr ⟨⟨(leadsTo_tail table), ?_, slots, templates, log, ?_⟩, fun _ => rfl, idle.slots, idle.lines⟩
      · refine leadsTo_of_modes ?_ lines
        dsimp only
        rw [changesOf_releaseChange, releaseFirst_modes]
      · dsimp only
        rw [changesOf_releaseChange]
        exact inStep.tornAtTable torn
    exact unfolded _ rfl

theorem slotsEmptying_modeLaw {p : Port} {s t : State} (h : execSlotsEmptying p s = .next t) (law : ModeLaw s) : ModeLaw t := by
  refine whenRunning_law h law ?_
  split
  · exact law
  · next c q taken =>
    obtain ⟨⟨table, lines, slots, templates, log, inStep⟩, idle⟩ := (modeLaw_iff s).mp law
    obtain ⟨front, -⟩ := changesOf_takeChange taken
    have led := slots p
    rw [front] at led
    refine (modeLaw_iff _).mpr ⟨⟨table, lines, fun r => ?_, templates, log, inStep⟩, idle.table, fun r => ?_, idle.lines⟩
    · dsimp only [State.setSlots_slots, State.setSlots_wires, State.setSlots_control, State.setWires_slots,
        State.setWires_wires, State.setWires_control]
      rw [PerPort.get_set, PerPort.get_set]
      split
      · exact leadsTo_tail led
      · exact slots r
    · dsimp only [State.setSlots_slots, State.setWires_slots]
      rw [PerPort.get_set]
      split
      · exact fun _ i => cleared_get (s.slots.get p) i
      · exact idle.slots r

theorem changeAtSlots_modeLaw (s : State) (p : Port) (law : ModeLaw s) : ModeLaw (s.changeAtSlots p) := by
  unfold State.changeAtSlots
  split
  · exact law
  · next c q taken =>
    obtain ⟨⟨table, lines, slots, templates, log, inStep⟩, idle⟩ := (modeLaw_iff s).mp law
    obtain ⟨front, test⟩ := changesOf_takeChange taken
    have plain : c.teardown = false := by simpa using (Bool.and_eq_true_iff.mp test).1
    have led := slots p
    rw [front] at led
    refine (modeLaw_iff _).mpr ⟨⟨table, lines, fun r => ?_, templates, log, inStep⟩, idle.table, fun r => ?_, idle.lines⟩
    · dsimp only [State.setSlots_slots, State.setSlots_wires, State.setSlots_control, State.setWires_slots,
        State.setWires_wires, State.setWires_control]
      rw [PerPort.get_set, PerPort.get_set]
      split
      · exact leadsTo_tail led
      · exact slots r
    · dsimp only [State.setSlots_slots, State.setWires_slots]
      rw [PerPort.get_set]
      split
      · exact fun _ => idle.slots p (stopped_before led plain)
      · exact idle.slots r

theorem changeAtTimetable_modeLaw (s : State) (law : ModeLaw s) : ModeLaw s.changeAtTimetable := by
  unfold State.changeAtTimetable
  split
  · exact law
  · next c q taken =>
    refine takeLimits_modeLaw _ ?_
    obtain ⟨⟨table, lines, slots, templates, log, inStep⟩, idle⟩ := (modeLaw_iff s).mp law
    obtain ⟨front, test⟩ := changesOf_takeChange taken
    obtain ⟨plain, mayRun⟩ := Bool.and_eq_true_iff.mp test
    have plain : c.teardown = false := by simpa using plain
    have behind : c.new = .run → (changesOf s.wires.toLines).length < (changesOf s.wires.toTimetable).length := fun run => by
      rw [run] at mayRun
      have may : s.timetableMayRun = true := by simpa using mayRun
      rw [← changesWaiting_eq, ← changesWaiting_eq]
      exact ((mayRun_iff s).mp may).2
    rw [front] at table inStep behind
    exact (modeLaw_iff _).mpr ⟨⟨(leadsTo_tail table), lines, slots, templates, log, inStep.takenAtTable plain behind⟩,
      fun _ => idle.table (stopped_before table plain), idle.slots, idle.lines⟩

theorem templatesSuspension_modeLaw {s t : State} (h : execTemplatesSuspension s = .next t) (law : ModeLaw s) : ModeLaw t := by
  refine whenRunning_law h law ?_
  split
  · exact law
  · next c q taken =>
    obtain ⟨⟨table, lines, slots, templates, log, inStep⟩, idle⟩ := (modeLaw_iff s).mp law
    rw [(changesOf_takeChange taken).1] at templates
    exact (modeLaw_iff _).mpr ⟨⟨table, lines, slots, (leadsTo_tail templates), log, inStep⟩, idle.table, idle.slots, idle.lines⟩

theorem changeAtTemplates_modeLaw (s : State) (law : ModeLaw s) : ModeLaw s.changeAtTemplates := by
  unfold State.changeAtTemplates
  split
  · exact law
  · next c q taken =>
    obtain ⟨⟨table, lines, slots, templates, log, inStep⟩, idle⟩ := (modeLaw_iff s).mp law
    rw [(changesOf_takeChange taken).1] at templates
    exact (modeLaw_iff _).mpr ⟨⟨table, lines, slots, (leadsTo_tail templates), log, inStep⟩, idle.table, idle.slots, idle.lines⟩

theorem changeAtLog_modeLaw (s : State) (law : ModeLaw s) : ModeLaw s.changeAtLog := by
  unfold State.changeAtLog
  split
  · exact law
  · next c q taken =>
    obtain ⟨⟨table, lines, slots, templates, log, inStep⟩, idle⟩ := (modeLaw_iff s).mp law
    rw [(changesOf_takeChange taken).1] at log
    exact (modeLaw_iff _).mpr ⟨⟨table, lines, slots, templates, (leadsTo_tail log), inStep⟩, idle.table, idle.slots, idle.lines⟩

theorem changeAtLines_modeLaw (s : State) (law : ModeLaw s) : ModeLaw s.changeAtLines := by
  unfold State.changeAtLines
  split
  · exact law
  · next c q taken =>
    refine modeLaw_closed.closed _ _ ?_
    obtain ⟨⟨table, lines, slots, templates, log, inStep⟩, idle⟩ := (modeLaw_iff s).mp law
    obtain ⟨front, test⟩ := changesOf_takeChange taken
    have plain : c.teardown = false := by simpa using test
    rw [front] at lines inStep
    exact (modeLaw_iff _).mpr ⟨⟨table, (leadsTo_tail lines), slots, templates, log,
      inStep.takenAtLines fun torn => absurd (plain.symm.trans torn) (by decide)⟩, idle.table, idle.slots,
      fun _ => idle.lines (stopped_before lines plain)⟩

theorem enginesOff_modeLaw {s t : State} (h : execEnginesOff s = .next t) (law : ModeLaw s) : ModeLaw t := by
  refine whenRunning_law h law ?_
  split
  · exact law
  · next c q taken =>
    refine modeLaw_closed.closed _ _ ?_
    obtain ⟨⟨table, lines, slots, templates, log, inStep⟩, idle⟩ := (modeLaw_iff s).mp law
    obtain ⟨front, test⟩ := changesOf_takeChange taken
    obtain ⟨-, ready⟩ := Bool.and_eq_true_iff.mp test
    rw [front] at lines inStep
    refine (modeLaw_iff _).mpr ⟨⟨table, (leadsTo_tail lines), slots, templates, log, inStep.takenAtLines fun _ => ready⟩, idle.table,
      idle.slots, fun _ l => ?_⟩
    have off (f : LineRec → LineRec) (sets : ∀ r, (f r).engine = r.engine.setOff s.now r.rest) :
        ((s.line.map f)[l]).engine.isOff = true := by
      have record : (s.line.map f)[l] = f s.line[l] := by simp
      rw [record, sets]
      exact isOff_setOff _ _ _
    exact off _ fun r => by split <;> rfl

/-! ## Resets (R140, R157) -/

/-- The reset values, with engines that are OFF. -/
theorem restarted_modeLaw (s : State) (q : Params) (k : ResetKind) (r : Option ResetKind) (v : Vector LineRec 32)
    (off : ∀ l : LineNo, (v[l]).engine.isOff = true) : ModeLaw { s.restarted q k with inReset := r, line := v } := by
  have slots (p : Port) : (s.restarted q k).slots.get p = Slots.initial q.commitLead := PerPort.get_const ..
  have toSlots (p : Port) : (s.restarted q k).wires.toSlots.get p = [] := PerPort.get_const ..
  refine (modeLaw_iff _).mpr ⟨⟨rfl, rfl, fun p => ?_, rfl, rfl, inStep_nil⟩, fun _ => rfl, fun p _ i => ?_, fun _ => off⟩
  · dsimp only
    rw [slots, toSlots]
    rfl
  · dsimp only
    rw [slots]
    simp [Slots.initial]

theorem restarted_isOff (s : State) (q : Params) (k : ResetKind) (l : LineNo) :
    ((s.restarted q k).line[l]).engine.isOff = true := by
  have record : (s.restarted q k).line[l] = LineRec.initial q.rest[l] q.readback[l] := by
    simp [State.restarted, State.afterReset]
  rw [record]
  rfl

theorem afterSoftReset_isOff (rest : Nat) (e : Engine) : (e.afterSoftReset rest).isOff = true := by
  cases e with
  | off g => cases g <;> rfl
  | onLatched => rfl
  | onPulse e l => rfl
  | resting f rt q => rfl

theorem softReset_modeLaw (s : State) : ModeLaw s.softReset := by
  rw [softReset_eq]
  refine modeLaw_controlClosed.consultSafeIn _ (restarted_modeLaw s _ _ none _ fun l => ?_)
  rw [Fin.getElem_fin, Vector.getElem_ofFn]
  exact afterSoftReset_isOff _ _

theorem resets_modeLaw (i : Instr) (s t : State) (reset : resets i = true) (law : ModeLaw s) (h : exec i s = .next t) :
    ModeLaw t :=
  exec_resets (fun _ _ touched law => law.touched touched rfl rfl)
    (fun u k => restarted_modeLaw u _ k (some k) _ (restarted_isOff u _ k))
    (fun u k _ => modeLaw_controlClosed.consultSafeIn _ (restarted_modeLaw u _ k none _ (restarted_isOff u _ k)))
    (fun u _ => softReset_modeLaw u) i s t reset law h

/-! ## Every command -/

theorem modeChangeTaken_modeLaw {b : ChangeBlock} {s t : State} (h : execModeChangeTakenAtBlock b s = .next t)
    (law : ModeLaw s) : ModeLaw t := by
  refine whenRunning_law h law ?_
  cases b with
  | timetable => exact changeAtTimetable_modeLaw s law
  | slots p => exact changeAtSlots_modeLaw s p law
  | templates => exact changeAtTemplates_modeLaw s law
  | log => exact changeAtLog_modeLaw s law
  | lines => exact changeAtLines_modeLaw s law

theorem exec_keeps_modeLaw (i : Instr) (s t : State) (law : ModeLaw s) (h : exec i s = .next t) : ModeLaw t := by
  by_cases reset : resets i = true
  · exact resets_modeLaw i s t reset law h
  · by_cases control : changesControl i = true
    · exact modeLaw_controlClosed.exec i s t control law h
    · by_cases other : changesMode i = false
      · exact modeLaw_closed.exec i s t other law h
      · cases i with
        | setParam => exact modeLaw_closed.served h law (setParamRequest_modeLaw · s law)
        | timetableEmptying => exact timetableEmptying_modeLaw h law
        | slotsEmptying p => exact slotsEmptying_modeLaw h law
        | templatesSuspension => exact templatesSuspension_modeLaw h law
        | enginesOff => exact enginesOff_modeLaw h law
        | modeChangeTakenAtBlock b => exact modeChangeTaken_modeLaw h law
        | _ => first | exact absurd rfl other | exact absurd rfl reset | exact absurd rfl control

/-- Settles O59: the changes on their way to each block lead to the Mode Controller's mode, and the Line Block stays in step
with the Timetable. -/
theorem stepsKeepTheModeLaw : Obligations.StepsKeepTheModeLaw :=
  step_keeps (fun _ _ same law => law.touched same rfl rfl) exec_keeps_modeLaw

end Sys2Proof.Machine

/-! PROOFS. The limits on their way to the Timetable, and the entries of a table within them (for O60). -/

namespace Sys2Proof.Machine

/-! ## Limits that lead to the Mode Controller's (R149) -/

/-- A change handed on; into RUN only with every rank held. -/
theorem limitsLead_append_change {m : Mode} {v last : TableLimits} {q : List BlockMessage} (c : ModeChange)
    (leads : limitsLead m v q last) (ranked : c.new = .run → last.ranked) : limitsLead m v (q ++ [.change c]) last := by
  induction q generalizing m v with
  | nil =>
    obtain ⟨rfl, held⟩ := leads
    exact ⟨held, rfl, ranked⟩
  | cons x q ih =>
    cases x with
    | change d =>
      obtain ⟨held, rest⟩ := leads
      exact ⟨held, ih rest⟩
    | write w =>
      obtain ⟨u, rfl, distinct, config, rest⟩ := leads
      exact ⟨u, rfl, distinct, config, ih rest⟩

/-- A write handed on in CONFIG. -/
theorem limitsLead_append_write {m : Mode} {v last u : TableLimits} {q : List BlockMessage} (leads : limitsLead m v q last)
    (config : leadsTo m (changesOf q) .config) (distinct : u.distinct) :
    limitsLead m v (q ++ [.write (.tableLimits u)]) u := by
  induction q generalizing m v with
  | nil =>
    obtain rfl : m = .config := config
    exact ⟨u, rfl, distinct, rfl, rfl, fun run => nomatch run⟩
  | cons x q ih =>
    cases x with
    | change d =>
      obtain ⟨held, rest⟩ := leads
      exact ⟨held, ih rest (leadsTo_tail config)⟩
    | write w =>
      obtain ⟨y, rfl, distinct', here, rest⟩ := leads
      exact ⟨y, rfl, distinct', here, ih rest config⟩

/-- The writes at the front taken, no write waits there. -/
theorem limitsLead_leading {m : Mode} {v last : TableLimits} {q : List BlockMessage} (leads : limitsLead m v q last)
    (distinct : v.distinct) : limitsLead m (leadingLimits v q).1 (leadingLimits v q).2 last
      ∧ (∀ w rest, (leadingLimits v q).2 ≠ .write w :: rest) ∧ (leadingLimits v q).1.distinct := by
  induction q generalizing v with
  | nil => exact ⟨leads, fun _ _ h => (by cases h), distinct⟩
  | cons x q ih =>
    cases x with
    | change d => exact ⟨leads, fun _ _ h => (by cases h), distinct⟩
    | write w =>
      obtain ⟨u, rfl, distinct', -, rest⟩ := leads
      exact ih rest distinct'

/-! ## Entries within the limits (R51, R53) -/

/-- No port owns more entries than its quota, and two entries of different owners keep the guard of the lines they share. -/
structure Fits (v : TableLimits) (live : List Entry) : Prop where
  quota : ∀ p, ownedBy live p ≤ v.quota.get p
  apart : ∀ x ∈ live, ∀ y ∈ live, x.fields.owner ≠ y.fields.owner → ∀ l : LineNo, hasLine x.fields.lines l = true →
    hasLine y.fields.lines l = true → v.policy[l] ≠ .merge → v.guard[l] ≤ modularDistance x.fields.due y.fields.due

theorem Fits.nil (v : TableLimits) : Fits v [] := ⟨fun _ => Nat.zero_le _, fun _ h => absurd h List.not_mem_nil⟩

theorem Fits.thinner {v : TableLimits} {live left : List Entry} (fits : Fits v live) (thinner : Thinner live left) : Fits v left where
  quota p := Nat.le_trans (thinner.ownedBy_le p) (fits.quota p)
  apart x hx y hy differ l on_x on_y merge := by
    obtain ⟨d, hd, shrunk_x⟩ := thinner.mem hx
    obtain ⟨e, he, shrunk_y⟩ := thinner.mem hy
    rw [shrunk_x.owner, shrunk_y.owner] at differ
    rw [shrunk_x.due, shrunk_y.due]
    exact fits.apart d hd e he differ l (shrunk_x.lines l on_x) (shrunk_y.lines l on_y) merge

theorem modularDistance_comm (x y : Word32) : modularDistance x y = modularDistance y x := Nat.min_comm _ _

/-- An entry that stays over the displacements of a proposal keeps the guard of the lines it shares with it. -/
theorem guard_of_stays {v : TableLimits} {p : Port} {lines : LineSet} {due : Word32} {live : List Entry} {x : Entry}
    (stays : x ∈ withoutDisplaced live (conflicts v p lines due live)) (other : x.fields.owner ≠ p) (l : LineNo)
    (on_x : hasLine x.fields.lines l = true) (on : hasLine lines l = true) (merge : v.policy[l] ≠ .merge) :
    v.guard[l] ≤ modularDistance x.fields.due due := by
  obtain ⟨mem, unmatched⟩ := List.mem_filter.mp stays
  by_contra near
  have overlap : hasLine (conflictLines v p lines due x) l = true := by
    unfold conflictLines
    rw [if_neg other, hasLine_lineSetOf, on, on_x, modularDistance_comm]
    rw [decide_eq_true merge, decide_eq_true (Nat.lt_of_not_le near)]
    rfl
  have found : (x, conflictLines v p lines due x) ∈ conflicts v p lines due live := by
    refine (mem_conflicts ..).mpr ⟨mem, rfl, fun empty => ?_⟩
    dsimp only at empty
    rw [empty] at overlap
    simp [hasLine] at overlap
  have matched : ((conflicts v p lines due live).any fun c => c.1.index == x.index) = true :=
    List.any_eq_true.mpr ⟨_, found, beq_self_eq_true _⟩
  rw [matched] at unmatched
  cases unmatched

theorem Fits.admitted {v : TableLimits} {live : List Entry} {e : Entry} {p : Port} {lines : LineSet} {due : Word32}
    (fits : Fits v live) (owner : e.fields.owner = p) (on_lines : e.fields.lines = lines) (at_due : e.fields.due = due)
    (room : ownedBy live p < v.quota.get p) : Fits v (withoutDisplaced live (conflicts v p lines due live) ++ [e]) := by
  subst owner on_lines at_due
  have stay := fits.thinner (Thinner.filter live fun x =>
    !((conflicts v e.fields.owner e.fields.lines e.fields.due live).any fun c => c.1.index == x.index))
  have fewer := (Thinner.filter live fun x =>
    !((conflicts v e.fields.owner e.fields.lines e.fields.due live).any fun c => c.1.index == x.index)).ownedBy_le e.fields.owner
  refine ⟨fun p => ?_, fun x hx y hy differ l on_x on_y merge => ?_⟩
  · have split := ownedBy_split (withoutDisplaced live (conflicts v e.fields.owner e.fields.lines e.fields.due live)) [] e p
    rw [List.append_nil] at split
    have within := stay.quota p
    unfold withoutDisplaced at *
    rw [split]
    by_cases own : e.fields.owner = p
    · subst own
      rw [if_pos rfl]
      omega
    · rw [if_neg own]
      omega
  · obtain old_x | new_x := List.mem_append.mp hx
    · obtain old_y | new_y := List.mem_append.mp hy
      · exact stay.apart x old_x y old_y differ l on_x on_y merge
      · obtain rfl := List.mem_singleton.mp new_y
        exact guard_of_stays old_x differ l on_x on_y merge
    · obtain rfl := List.mem_singleton.mp new_x
      obtain old_y | new_y := List.mem_append.mp hy
      · rw [modularDistance_comm]
        exact guard_of_stays old_y (Ne.symm differ) l on_y on_x merge
      · obtain rfl := List.mem_singleton.mp new_y
        exact absurd rfl differ

/-- An entry amended in its place over the entries it displaces. -/
theorem Fits.amended {v : TableLimits} {live : List Entry} {e : Entry} (due : Word32) (a : LineAction) (fits : Fits v live)
    (mem : e ∈ live) (distinct : (live.map Entry.index).Nodup) : Fits v
      ((withoutDisplaced live (conflicts v e.fields.owner e.fields.lines due live)).map (amendedIn e due a)) := by
  have stay := fits.thinner (Thinner.filter live fun x =>
    !((conflicts v e.fields.owner e.fields.lines due live).any fun c => c.1.index == x.index))
  have sub : (withoutDisplaced live (conflicts v e.fields.owner e.fields.lines due live)).Sublist live := List.filter_sublist
  have only (x : Entry) (there : x ∈ withoutDisplaced live (conflicts v e.fields.owner e.fields.lines due live))
      (same : x.index = e.index) : x = e := List.inj_on_of_nodup_map distinct (sub.mem there) mem same
  have owner (x : Entry) (there : x ∈ withoutDisplaced live (conflicts v e.fields.owner e.fields.lines due live)) :
      (amendedIn e due a x).fields.owner = x.fields.owner := by
    by_cases same : x.index = e.index
    · rw [amendedIn_same due a same, only x there same]
      rfl
    · rw [amendedIn_other due a same]
  refine ⟨fun p => ?_, fun x hx y hy differ l on_x on_y merge => ?_⟩
  · rw [ownedBy_map owner]
    exact stay.quota p
  · obtain ⟨x, there_x, rfl⟩ := List.mem_map.mp hx
    obtain ⟨y, there_y, rfl⟩ := List.mem_map.mp hy
    by_cases same_x : x.index = e.index
    · rw [amendedIn_same due a same_x] at differ on_x ⊢
      by_cases same_y : y.index = e.index
      · rw [amendedIn_same due a same_y] at differ
        exact absurd rfl differ
      · rw [amendedIn_other due a same_y] at differ on_y ⊢
        rw [modularDistance_comm]
        exact guard_of_stays there_y (Ne.symm differ) l on_y on_x merge
    · rw [amendedIn_other due a same_x] at differ on_x ⊢
      by_cases same_y : y.index = e.index
      · rw [amendedIn_same due a same_y] at differ on_y ⊢
        exact guard_of_stays there_x differ l on_x on_y merge
      · rw [amendedIn_other due a same_y] at differ on_y ⊢
        exact stay.apart x there_x y there_y differ l on_x on_y merge

/-! ## Writes of the limits (R149, R150) -/

/-- A write of another parameter leaves the limits. -/
def ParamId.ofTable : ParamId → Bool
  | .guard _ | .policy _ | .quota _ | .portPriority _ => true
  | _ => false

theorem write_limits {q r : Params} {id : ParamId} {n corruption : Nat} (h : q.write id n corruption = some r)
    (other : id.ofTable = false) : r.limits = q.limits := by
  cases id with
  | guard l | policy l | quota p | portPriority k => cases other
  | corruptLimit =>
    simp only [Params.write] at h
    split at h
    · obtain ⟨v, -, rfl⟩ := Option.map_eq_some_iff.mp h
      rfl
    · cases h
  | _ =>
    obtain ⟨v, -, rfl⟩ := Option.map_eq_some_iff.mp h
    rfl

/-- A rank written over with nobody, or with a port that holds no other rank, leaves the ports distinct. -/
theorem set_distinct {v : TableLimits} (distinct : v.distinct) (k : Fin 4) (o : Option Port)
    (free : o ≠ none → ∀ j : Fin 4, j ≠ k → v.portPriority[j] ≠ o) :
    TableLimits.distinct { v with portPriority := v.portPriority.set k o } := by
  intro i j held same
  have rank (m : Fin 4) : (v.portPriority.set k o)[m] = if k = m then o else v.portPriority[m] := by
    simp only [Fin.getElem_fin, Vector.getElem_set, Fin.ext_iff]
  dsimp only at held same
  rw [rank] at held
  rw [rank, rank] at same
  split at held
  · next at_i =>
    rw [if_pos at_i] at same
    split at same
    · next at_j => exact at_i.symm.trans at_j
    · next other => exact absurd same.symm (free held j (Ne.symm other))
  · next other =>
    rw [if_neg other] at same
    split at same
    · exact absurd same (free (same ▸ held) i (Ne.symm other))
    · exact distinct i j held same

/-- Every write keeps the ranks of the ports distinct (R150). -/
theorem write_distinct {q r : Params} {id : ParamId} {n corruption : Nat} (h : q.write id n corruption = some r)
    (distinct : q.limits.distinct) : r.limits.distinct := by
  by_cases other : id.ofTable = false
  · rw [write_limits h other]
    exact distinct
  · cases id with
    | guard l | policy l | quota p =>
      obtain ⟨v, -, rfl⟩ := Option.map_eq_some_iff.mp h
      exact distinct
    | portPriority k =>
      unfold Params.write at h
      dsimp only at h
      split at h
      · cases h
      · cases h
        exact set_distinct distinct k none fun h => absurd rfl h
      · next x _ =>
        split at h
        · cases h
        · next free =>
          cases h
          refine set_distinct distinct k (some x) fun _ j other held => free ?_
          exact List.any_eq_true.mpr ⟨j, List.mem_finRange j, by
            rw [decide_eq_true other, Bool.true_and]
            exact beq_iff_eq.mpr held⟩
    | _ => exact absurd rfl other

end Sys2Proof.Machine

/-! PROOFS. The law of the Timetable's parameters is kept by every step (O60). -/

namespace Sys2Proof.Machine

/-! ## The law taken apart -/

/-- The limits on their way lead to the Mode Controller's, and no port stands at two ranks. -/
structure LimitsFollowed (s : State) : Prop where
  lead : limitsLead s.table.mode s.table.limits s.wires.toTimetable s.control.params.limits
  front : ∀ w rest, s.wires.toTimetable ≠ .write w :: rest
  table : s.table.limits.distinct
  control : s.control.params.limits.distinct

theorem limitsLaw_iff (s : State) : s.limitsLaw ↔ LimitsFollowed s ∧ Fits s.table.limits s.table.live := by
  constructor
  · rintro ⟨lead, front, table, control, quota, apart⟩
    exact ⟨⟨lead, front, table, control⟩, quota, apart⟩
  · rintro ⟨⟨lead, front, table, control⟩, quota, apart⟩
    exact ⟨lead, front, table, control, quota, apart⟩

/-- What the following of the limits is read off. -/
def limitParts : List Part := [.tableMode, .tableLimits, .toTimetable, .params]

theorem LimitsFollowed.of_parts {s t : State} (law : LimitsFollowed s) (same : ∀ x ∈ limitParts, x.Same s t) :
    LimitsFollowed t := by
  have mode : t.table.mode = s.table.mode := same .tableMode (by decide)
  have limits : t.table.limits = s.table.limits := same .tableLimits (by decide)
  have queue : t.wires.toTimetable = s.wires.toTimetable := same .toTimetable (by decide)
  have params : t.control.params = s.control.params := same .params (by decide)
  obtain ⟨lead, front, table, control⟩ := law
  refine ⟨?_, ?_, ?_, ?_⟩
  · rw [mode, limits, queue, params]; exact lead
  · rw [queue]; exact front
  · rw [limits]; exact table
  · rw [params]; exact control

/-- With the limits as they were, the law asks that the entries fit them. -/
theorem limitsLaw_of_fits {s t : State} (law : s.limitsLaw) (same : ∀ x ∈ limitParts, x.Same s t)
    (fits : Fits s.table.limits s.table.live → Fits s.table.limits t.table.live) : t.limitsLaw := by
  have limits : t.table.limits = s.table.limits := same .tableLimits (by decide)
  obtain ⟨followed, fit⟩ := (limitsLaw_iff s).mp law
  refine (limitsLaw_iff t).mpr ⟨followed.of_parts same, ?_⟩
  rw [limits]
  exact fits fit

theorem limitsLaw_of_thinner {s t : State} (law : s.limitsLaw) (same : ∀ x ∈ limitParts, x.Same s t)
    (thinner : Thinner s.table.live t.table.live) : t.limitsLaw :=
  limitsLaw_of_fits law same fun fits => fits.thinner thinner

/-- Limits and entries as they were. -/
theorem limitsLaw_of_parts {s t : State} (law : s.limitsLaw) (same : ∀ x ∈ .entries :: limitParts, x.Same s t) :
    t.limitsLaw := by
  have live : t.table.live = s.table.live ∧ t.table.liveCount = s.table.liveCount := same .entries (by decide)
  exact limitsLaw_of_thinner law (fun x hx => same x (List.mem_cons_of_mem _ hx)) (by rw [live.1]; exact .refl _)

/-! ## Operations between mode changes -/

theorem placeProposal_limitsLaw (s : State) (n : Proposal) (out : List (Entry × LineSet)) (passes : s.admissionStatus n = none)
    (outcome : conflictOutcome s.table.limits n.owner
      (conflicts s.table.limits n.owner n.lines n.due s.table.live) = some out) (law : s.limitsLaw) (table : s.tableLaw) :
    (s.placeProposal n out).1.limitsLaw := by
  obtain ⟨quota, room⟩ := admissionStatus_room passes
  rw [table.counted] at quota
  have touched := placeProposal_touches s n out
  rw [conflictOutcome_some _ _ _ _ outcome] at touched ⊢
  obtain ⟨h, t, placed, -, -, -, frame, -⟩ := placeProposal_admits s n table room
  rw [placed] at touched ⊢
  refine limitsLaw_of_fits law (fun x hx => touched x (by revert hx; cases x <;> decide)) fun fits => ?_
  have live := congrArg (fun u : State => u.table.live) frame
  dsimp only at live
  rw [live]
  exact fits.admitted rfl rfl rfl quota

theorem amendEntry_limitsLaw (s : State) (p : Port) (h : Handle) (e : Entry) (due : Word32) (a : LineAction)
    (out : List (Entry × LineSet)) (own : s.ownEntry p h = some e) (outcome : conflictOutcome s.table.limits p
      (conflicts s.table.limits p e.fields.lines due s.table.live) = some out) (law : s.limitsLaw) (table : s.tableLaw) :
    (s.amendEntry e due a out).1.limitsLaw := by
  obtain ⟨mem, -, owner⟩ := ownEntry_some table own
  subst owner
  have touched : Touches ([.entries, .posted] ++ [.entries]) s (s.amendEntry e due a out).1 :=
    (displaceAll_touches s out).comp (putEntry_touches _ _)
  rw [conflictOutcome_some _ _ _ _ outcome] at touched ⊢
  obtain ⟨c, amended, -⟩ := amendEntry_table table e.fields.owner e due a
  refine limitsLaw_of_fits law (fun x hx => touched x (by revert hx; cases x <;> decide)) fun fits => ?_
  rw [amended]
  exact fits.amended due a mem table.distinct

theorem LinesStep.touches {s t : State} (h : LinesStep s t) : Touches [.line] s t := by
  rw [h.1]
  intro x hx; cases x <;> simp_all [Part.Same]

theorem replaceSlots_touches (s : State) (p : Port) (b : Slots) : Touches [.slotContents, .slotPos, .slotMode] s (s.setSlots p b) := by
  intro x hx; cases x <;> simp_all [Part.Same]

/-- The law of the limits with those that it rests on. -/
def State.tableLaws (s : State) : Prop := s.limitsLaw ∧ s.tableLaw ∧ ModeLaw s

theorem tableLaws_closed : BlockClosed State.tableLaws where
  still s t h := fun ⟨limits, table, mode⟩ => ⟨limitsLaw_of_parts limits fun x hx => h.1 x (by revert hx; cases x <;> decide),
    tableLaw_closed.still s t h table, modeLaw_closed.still s t h mode⟩
  lines s t h := fun ⟨limits, table, mode⟩ => ⟨limitsLaw_of_parts limits fun x hx => h.touches x (by revert hx; cases x <;> decide),
    tableLaw_closed.lines s t h table, modeLaw_closed.lines s t h mode⟩
  cut s p x := fun ⟨limits, table, mode⟩ => ⟨limitsLaw_of_thinner limits
      (fun y hy => cut_touches s p x y (by revert hy; cases y <;> decide)) ((cut_trim s p x).thinner table),
    tableLaw_closed.cut s p x table, modeLaw_closed.cut s p x mode⟩
  slots s p b h := fun ⟨limits, table, mode⟩ => ⟨limitsLaw_of_parts limits fun x hx =>
      replaceSlots_touches s p b x (by revert hx; cases x <;> decide),
    tableLaw_closed.slots s p b h table, modeLaw_closed.slots s p b h mode⟩
  trim s t h := fun ⟨limits, table, mode⟩ => ⟨limitsLaw_of_thinner limits
      (fun x hx => h.touches x (by revert hx; cases x <;> decide)) (h.trim.thinner table),
    tableLaw_closed.trim s t h table, modeLaw_closed.trim s t h mode⟩
  fires s pos := fun ⟨limits, table, mode⟩ => by
    have touched : Touches fireParts s (s.fireDue pos) := Touches.foldl fireEntry_touches _ s
    exact ⟨limitsLaw_of_thinner limits (fun x hx => touched x (by revert hx; cases x <;> decide))
        ((fireDue_trim s pos).thinner table), tableLaw_closed.fires s pos table, modeLaw_closed.fires s pos mode⟩
  placed s n out running passes outcome := fun ⟨limits, table, mode⟩ =>
    ⟨placeProposal_limitsLaw s n out passes outcome limits table, tableLaw_closed.placed s n out running passes outcome table,
      modeLaw_closed.placed s n out running passes outcome mode⟩
  amended s p h e due a out own outcome := fun ⟨limits, table, mode⟩ =>
    ⟨amendEntry_limitsLaw s p h e due a out own outcome limits table,
      tableLaw_closed.amended s p h e due a out own outcome table,
      modeLaw_closed.amended s p h e due a out own outcome mode⟩

/-! ## Mode changes handed on and taken -/

theorem limitsLaw_controlClosed : ControlClosed State.limitsLaw where
  quiet s t touched law := limitsLaw_of_parts law fun x hx => touched x (by revert hx; cases x <;> decide)
  handed s t new changed law := by
    obtain ⟨-, ranked, -, blocks, queue, -⟩ := changed
    have mode : t.table.mode = s.table.mode := blocks .tableMode (by decide)
    have limits : t.table.limits = s.table.limits := blocks .tableLimits (by decide)
    have params : t.control.params = s.control.params := blocks .params (by decide)
    have live : t.table.live = s.table.live ∧ t.table.liveCount = s.table.liveCount := blocks .entries (by decide)
    obtain ⟨⟨lead, front, table, control⟩, fits⟩ := (limitsLaw_iff s).mp law
    refine (limitsLaw_iff t).mpr ⟨⟨?_, fun w rest => ?_, ?_, ?_⟩, ?_⟩
    · rw [mode, limits, params, queue]
      exact limitsLead_append_change _ lead ranked
    · rw [queue]
      intro write
      cases waiting : s.wires.toTimetable with
      | nil =>
        rw [waiting] at write
        cases write
      | cons m q =>
        rw [waiting, List.cons_append] at write
        obtain ⟨rfl, -⟩ := List.cons.inj write
        exact front w q waiting
    · rw [limits]; exact table
    · rw [params]; exact control
    · rw [limits, live.1]; exact fits

/-- The writes at the front taken over an empty table. -/
theorem takeLimits_limitsLaw {s : State} (lead : limitsLead s.table.mode s.table.limits s.wires.toTimetable s.control.params.limits)
    (table : s.table.limits.distinct) (control : s.control.params.limits.distinct) (live : s.table.live = []) :
    s.takeLimits.limitsLaw := by
  obtain ⟨led, front, distinct⟩ := limitsLead_leading lead table
  refine (limitsLaw_iff _).mpr ⟨⟨led, front, distinct, control⟩, ?_⟩
  have emptied : s.takeLimits.table.live = s.table.live := rfl
  rw [emptied, live]
  exact .nil _

theorem timetableEmptying_limitsLaw {s t : State} (h : execTimetableEmptying s = .next t) (law : s.limitsLaw) : t.limitsLaw := by
  refine whenRunning_law h law ?_
  split
  · exact law
  · next c q taken =>
    obtain ⟨⟨lead, front, table, control⟩, -⟩ := (limitsLaw_iff s).mp law
    obtain ⟨queue, -⟩ := takeChange_some _ _ _ _ taken
    rw [queue] at lead
    obtain ⟨-, rest⟩ := lead
    obtain ⟨v, torn_eq, -⟩ := tornDown_eq s c q
    have unfolded : ∀ u : State, u = s.tornDown c q → u.takeLimits.limitsLaw := by
      rintro u rfl
      rw [torn_eq]
      exact takeLimits_limitsLaw rest table control rfl
    exact unfolded _ rfl

theorem changeAtTimetable_limitsLaw (s : State) (law : s.limitsLaw) (modes : ModeLaw s) : s.changeAtTimetable.limitsLaw := by
  unfold State.changeAtTimetable
  split
  · exact law
  · next c q taken =>
    obtain ⟨⟨lead, front, table, control⟩, -⟩ := (limitsLaw_iff s).mp law
    obtain ⟨followed, idle⟩ := (modeLaw_iff s).mp modes
    obtain ⟨changes, test⟩ := changesOf_takeChange taken
    obtain ⟨queue, -⟩ := takeChange_some _ _ _ _ taken
    have plain : c.teardown = false := by simpa using (Bool.and_eq_true_iff.mp test).1
    have led := followed.table
    rw [changes] at led
    rw [queue] at lead
    obtain ⟨-, rest⟩ := lead
    exact takeLimits_limitsLaw rest table control (idle.table (stopped_before led plain))

/-! ## Writes of the limits -/

/-- A write of the limits in CONFIG: it waits behind a change, or is taken over an empty table. -/
theorem handTable_limitsLaw {s : State} {q : Params} (law : s.limitsLaw) (modes : ModeLaw s) (config : s.control.mode = .config)
    (distinct : q.limits.distinct) : ((s.setControl { s.control with params := q }).handTable q).limitsLaw := by
  obtain ⟨⟨lead, front, table, control⟩, fits⟩ := (limitsLaw_iff s).mp law
  obtain ⟨followed, idle⟩ := (modeLaw_iff s).mp modes
  have led := followed.table
  rw [config] at led
  have appended := limitsLead_append_write lead led distinct
  cases waiting : changesOf s.wires.toTimetable with
  | nil =>
    rw [waiting] at led
    have stopped : s.table.mode ≠ .run := by
      rw [show s.table.mode = .config from led]
      decide
    exact takeLimits_limitsLaw (s := (s.setControl { s.control with params := q }).setWires { s.wires with
      toTimetable := s.wires.toTimetable ++ [.write (.tableLimits q.limits)] }) appended table distinct (idle.table stopped)
  | cons d ds =>
    cases queue : s.wires.toTimetable with
    | nil =>
      rw [queue] at waiting
      cases waiting
    | cons m rest =>
      cases m with
      | write w => exact absurd queue (front w rest)
      | change c =>
        have kept : leadingLimits s.table.limits (s.wires.toTimetable ++ [.write (.tableLimits q.limits)])
            = (s.table.limits, s.wires.toTimetable ++ [.write (.tableLimits q.limits)]) := by
          rw [queue]
          rfl
        refine (limitsLaw_iff _).mpr ⟨⟨?_, ?_, ?_, distinct⟩, ?_⟩
        · show limitsLead s.table.mode (leadingLimits s.table.limits _).1 (leadingLimits s.table.limits _).2 q.limits
          dsimp only [State.setControl_wires, State.setControl_table, State.setWires_wires, State.setWires_table]
          rw [kept]
          exact appended
        · show ∀ w rest, (leadingLimits s.table.limits (s.wires.toTimetable ++ [.write (.tableLimits q.limits)])).2
            ≠ .write w :: rest
          rw [kept, queue]
          exact fun w rest h => by cases h
        · show (leadingLimits s.table.limits (s.wires.toTimetable ++ [.write (.tableLimits q.limits)])).1.distinct
          rw [kept]
          exact table
        · show Fits (leadingLimits s.table.limits (s.wires.toTimetable ++ [.write (.tableLimits q.limits)])).1 s.table.live
          rw [kept]
          exact fits

/-- A write of another parameter leaves the limits and their way. -/
theorem handWrite_limitParts (s : State) {id : ParamId} (q : Params) (other : id.ofTable = false) :
    Touches [.toPosition, .toSlots, .toLines, .toLog] s (s.handWrite id q) := by
  have position (w : ParamWrite) : Touches [.toPosition, .toSlots, .toLines, .toLog] s (s.handPosition w) := by
    intro x hx; cases x <;> simp_all [Part.Same, State.handPosition]
  have slots (w : ParamWrite) : Touches [.toPosition, .toSlots, .toLines, .toLog] s (s.handSlots w) := by
    intro x hx; cases x <;> simp_all [Part.Same, State.handSlots]
  have lines (w : ParamWrite) : Touches [.toPosition, .toSlots, .toLines, .toLog] s (s.handLines w) := by
    intro x hx; cases x <;> simp_all [Part.Same, State.handLines]
  have sensors (w : ParamWrite) : Touches [.toPosition, .toSlots, .toLines, .toLog] s (s.handSensors w) := by
    intro x hx; cases x <;> simp_all [Part.Same, State.handSensors]
  cases id with
  | motionSource | internalRate | stallTime | speedWindow => exact position _
  | commitLead => exact slots _
  | historyPeriod | rest l | readback l => exact lines _
  | sensorFilter k => exact sensors _
  | guard l | policy l | quota p | portPriority r => cases other
  | reverseLimit | settle | faultThreshold | sensorEdge k | sensorSpacing k | corruptLimit => exact .refl _ _

theorem setParams_limitsLaw {s : State} {q : Params} (law : s.limitsLaw) (same : q.limits = s.control.params.limits) :
    (s.setControl { s.control with params := q }).limitsLaw := by
  obtain ⟨⟨lead, front, table, control⟩, fits⟩ := (limitsLaw_iff s).mp law
  rw [← same] at lead control
  exact (limitsLaw_iff _).mpr ⟨⟨lead, front, table, control⟩, fits⟩

/-- The Timetable's parameters are written in CONFIG alone (R149). -/
theorem ofTable_writableIn {id : ParamId} {m : Mode} (writable : id.writableIn m = true) (table : id.ofTable = true) :
    m = .config := by
  cases m with
  | config => rfl
  | init => cases writable
  | safe => cases writable
  | run =>
    cases id with
    | guard l | policy l | quota p | portPriority r => cases writable
    | _ => cases table

theorem handWrite_ofTable (s : State) {id : ParamId} (q : Params) (table : id.ofTable = true) :
    s.handWrite id q = s.handTable q := by
  cases id with
  | guard l | policy l | quota p | portPriority r => rfl
  | _ => cases table

theorem setParamRequest_limitsLaw (body : List Byte) (s : State) (law : s.limitsLaw) (modes : ModeLaw s) :
    (setParamRequest body s).1.limitsLaw := by
  unfold setParamRequest
  split
  · exact law
  · next id n _ =>
    split
    · next writable =>
      split
      · exact law
      · next q written =>
        dsimp only
        cases table : id.ofTable with
        | true =>
          obtain ⟨followed, -⟩ := (limitsLaw_iff s).mp law
          rw [handWrite_ofTable _ q table]
          exact handTable_limitsLaw law modes (ofTable_writableIn writable table) (write_distinct written followed.control)
        | false =>
          refine limitsLaw_of_parts (setParams_limitsLaw law (write_limits written table)) fun x hx => ?_
          exact handWrite_limitParts _ q table x (by revert hx; cases x <;> decide)
    · exact law

/-! ## Resets -/

theorem restarted_limitsLaw (s : State) (q : Params) (k : ResetKind) (r : Option ResetKind) (v : Vector LineRec 32)
    (distinct : q.limits.distinct) : State.limitsLaw { s.restarted q k with inReset := r, line := v } :=
  (limitsLaw_iff _).mpr ⟨⟨⟨rfl, fun run => nomatch run⟩, fun _ _ h => (nomatch h), distinct, distinct⟩, .nil _⟩

theorem resets_limitsLaw (i : Instr) (s t : State) (reset : resets i = true) (law : s.limitsLaw) (h : exec i s = .next t) :
    t.limitsLaw := by
  have distinct (u : State) (hu : u.limitsLaw) : u.control.params.limits.distinct := ((limitsLaw_iff u).mp hu).1.control
  refine exec_resets (law := State.limitsLaw) (fun u v touched hu => limitsLaw_of_parts hu fun x hx => touched x (by
      revert hx; cases x <;> decide))
    (fun u k => restarted_limitsLaw u _ k (some k) _ default_distinct)
    (fun u k hu => limitsLaw_controlClosed.consultSafeIn _ (restarted_limitsLaw u _ k none _ (distinct u hu))) (fun u hu => ?_)
    i s t reset law h
  rw [softReset_eq]
  exact limitsLaw_controlClosed.consultSafeIn _ (restarted_limitsLaw u _ _ none _ (distinct u hu))

/-! ## Every command -/

theorem exec_keeps_limitsLaw (i : Instr) (s t : State) (laws : s.tableLaws) (h : exec i s = .next t) : t.limitsLaw := by
  obtain ⟨law, table, modes⟩ := id laws
  by_cases reset : resets i = true
  · exact resets_limitsLaw i s t reset law h
  · by_cases control : changesControl i = true
    · exact limitsLaw_controlClosed.exec i s t control law h
    · by_cases other : changesMode i = false
      · exact (tableLaws_closed.exec i s t other laws h).1
      · cases i with
        | setParam => exact limitsLaw_controlClosed.served h law (setParamRequest_limitsLaw · s law modes)
        | timetableEmptying => exact timetableEmptying_limitsLaw h law
        | modeChangeTakenAtBlock b =>
          cases b with
          | timetable => exact whenRunning_law h law (changeAtTimetable_limitsLaw s law modes)
          | _ => exact limitsLaw_of_parts law (exec_same_of_spares h rfl)
        | slotsEmptying _ | templatesSuspension | enginesOff => exact limitsLaw_of_parts law (exec_same_of_spares h rfl)
        | _ => first | exact absurd rfl other | exact absurd rfl reset | exact absurd rfl control

/-- Settles O60: the writes on their way follow the mode changes, and a table in RUN keeps the limits it has. -/
theorem stepsKeepTheLimitsLaw : Obligations.StepsKeepTheLimitsLaw := by
  intro s t limits table modes h
  have laws := step_keeps (law := fun u => u.tableLaws) (fun u v touched => tableLaws_closed.still u v (touched.still (by decide)))
    (fun i u v hu hi => ⟨exec_keeps_limitsLaw i u v hu hi, exec_keeps_tableLaw i u v hu.2.1 hi, exec_keeps_modeLaw i u v hu.2.2 hi⟩)
    s t ⟨limits, table, modes⟩ h
  exact laws.1

end Sys2Proof.Machine
